-- ==== Sys2Proof/Word.lean ====
section
/-! DEFINITION. The word types of the part: what the line link carries (R169, R185) and the indexes of its fixed
arrays of like things (00_scope.md, Capacities). -/

namespace Sys2Proof

/-- One byte of the line link (R169). -/
abbrev Byte := BitVec 8

/-- A two-byte field of a message (R185). -/
abbrev Half := BitVec 16

/-- A four-byte field of a message, and the width of the uptime clock (R35, R185). -/
abbrev Word := BitVec 32

/-- A fixture site, S0 to S15. -/
abbrev SiteId := Fin 16

/-- A measurement lane, L0 to L3. -/
abbrev LaneId := Fin 4

/-- A receive channel of a lane: 0 is A, 1 is B. -/
abbrev ChanId := Fin 2

/-- A carrier range of R85, counted from 0: index 0 is range 1. -/
abbrev RangeId := Fin 4

/-- An offset band of R82, counted from 0: index 0 is band 1. -/
abbrev BandId := Fin 6

/-- A plan slot, 0 to 31. -/
abbrev PlanId := Fin 32

/-- A mask slot, 0 to 7. -/
abbrev MaskId := Fin 8

/-- The number a message carries for a band, 1 to 6. -/
def BandId.number (b : BandId) : Nat := b.val + 1

end Sys2Proof
end

