-- ==== Sys2Proof/Config.lean ====
section
/-! DEFINITION. What is fixed for the part: the capacities of 00_scope.md, the constants of the grid (R82, R83), and the
values the manual leaves open, each an opaque constant that nothing in Lean can evaluate. -/

namespace Sys2Proof.Config

/-- Places of the job table (R55). -/
def jobPlaces : Nat := 64

/-- Jobs a group's held set can hold (R60). -/
def heldPlaces : Nat := 4

/-- Segments of the pool (R135). -/
def segments : Nat := 192

/-- Frames the holding queue can hold (R173). -/
def queuePlaces : Nat := 4

/-- Ids a RESULT_LIST reply can carry (R150). -/
def listedIds : Nat := 16

/-- Holdover, in ms (R30, R31). -/
def holdoverMs : Nat := 600000

/-- Largest magnitude of a frequency error that is recorded, in ppb (R17, R18). -/
def errorSpanPpb : Int := 500000

/-- Bandwidth of one spectral bin of a band, in Hz: 1 Hz for band 1 to 100 kHz for band 6 (R82). -/
def rbw (b : BandId) : Nat := 10 ^ b.val

/-- Per-average time of a band in units of 0.01 ms: 1000 ms for band 1 down to 0.01 ms for band 6 (R82). -/
def averageTime (b : BandId) : Nat := 10 ^ (5 - b.val)

/-- Index j of a band's first bin (R83). -/
def firstBin : Nat := 9

/-- Bins of each grid point of a band, in point order: the table of R83, whose last line is for P60 alone. -/
def pointBins (b : BandId) : List Nat :=
  [3, 3, 3, 5, 6, 7, 9, 12, 14, 19] ++ (if b.val = 5 then [23] else [])

/-- Bins of a band: 81, and 104 for band 6 (R83). -/
def binCount (b : BandId) : Nat := (pointBins b).sum

/-- Grid points of a band: 10, and 11 for band 6 (R82). -/
def pointCount (b : BandId) : Nat := (pointBins b).length

/-- The grid index of a band's first point (R82). -/
def firstPoint (b : BandId) : Nat := 10 * b.val

/-- The carrier range that contains an applied carrier nominal (R85). -/
def carrierRange (hz : Nat) : RangeId :=
  if hz < 50000000 then 0 else if hz < 200000000 then 1 else if hz < 600000000 then 2 else 3

/-- The calibration centre of a carrier range, in Hz (R155). -/
def rangeCentre (r : RangeId) : Nat := #[20000000, 100000000, 400000000, 1000000000][r]

/-- The build letter of the module, counted from A (R181 leaves it to the build; assumption 1). -/
opaque revision : Fin 26

/-- The content of a reply byte that the manual calls undefined (00_scope.md Absent values, R185): by the number of the
reply since power was first applied and the byte's offset in its payload (assumption 2). -/
opaque freeByte : Nat → Nat → Byte

/-- Which of the whole-femtosecond values R116 allows the lane's own arithmetic gives, by the operands of that arithmetic:
the E values of the points used, the spurs in the covered range, the edges of the jitter band and f0 (assumption 3). -/
opaque jitterPick (e : List Int) (spurs : List (Nat × Int)) (fLo fHi f0 : Nat) : Nat

end Sys2Proof.Config
end

