-- ==== Sys2Proof/Machine/Numeric.lean ====
section
/-! DEFINITION. Exact arithmetic for the spectra: rounding (R1), logarithms rounded to an integer, and enclosures of
powers of ten, roots and natural logarithms between two integers over a power of ten.

A rounded logarithm of a rational number is decided on integers, with no approximation. A quantity that is not rational is
enclosed at a number of decimal digits, and the digits are doubled until both ends round alike. -/

namespace Sys2Proof.Machine

/-- Rounding of a quotient to the nearest integer, ties away from zero (R1), for a positive denominator. -/
def roundDiv (num : Int) (den : Nat) : Int :=
  if 0 ≤ num then (2 * num + den) / (2 * den) else -((2 * -num + den) / (2 * den))

/-- Rounding to the nearest integer, ties away from zero (R1). -/
def roundRat (q : Rat) : Int := roundDiv q.num q.den

/-- A value held between two limits. -/
def clampInt (lo hi x : Int) : Int := max lo (min hi x)

/-- The greatest integer from `lo` up to `lo + 2 ^ bits - 1` at which a predicate holds that holds up to some integer and
fails above it; `lo` where it holds nowhere in that range. -/
def bisect (p : Int → Bool) (lo : Int) : Nat → Int
  | 0 => lo
  | bits + 1 => if p (lo + 2 ^ bits) then bisect p (lo + 2 ^ bits) bits else bisect p lo bits

/-- 10 ^ c0 × g1 ^ c1 × g2 ^ c2 ≥ 1, decided on integers. -/
def powersAtLeastOne (c0 : Int) (g1 : Nat) (c1 : Int) (g2 : Nat) (c2 : Int) : Bool :=
  decide (10 ^ (-c0).toNat * g1 ^ (-c1).toNat * g2 ^ (-c2).toNat ≤ 10 ^ c0.toNat * g1 ^ c1.toNat * g2 ^ c2.toNat)

/-- 2c × log10(num / den) ≥ h, decided on integers. -/
def logAtLeast (c num den : Nat) (h : Int) : Bool :=
  decide (10 ^ h.toNat * den ^ (2 * c) ≤ num ^ (2 * c) * 10 ^ (-h).toNat)

/-- round(c × log10(num / den)) for positive num and den, between -32768 and 32767: the integer k with
2k - 1 ≤ 2c × log10(num / den) < 2k + 1. No rational number gives a tie. -/
def roundLog (c num den : Nat) : Int := bisect (fun k => logAtLeast c num den (2 * k - 1)) (-32768) 16

/-- The integer part of the k-th root of n, below 2 ^ bits. -/
def integerRoot (k n bits : Nat) : Nat := (bisect (fun y => decide (y.toNat ^ k ≤ n)) 0 bits).toNat

/-! ### Enclosures: a non-negative real x lies between lo / 10 ^ p and hi / 10 ^ p -/

/-- An enclosure at a number of digits p that the functions below take as an argument. -/
structure Enclosure where
  lo : Nat
  hi : Nat
  deriving DecidableEq, Repr

/-- Quotient rounded up. -/
def ceilDiv (a b : Nat) : Nat := (a + b - 1) / b

/-- A sum of enclosed values. -/
def Enclosure.add (x y : Enclosure) : Enclosure := ⟨x.lo + y.lo, x.hi + y.hi⟩

/-- A difference of enclosed values that is not negative. -/
def Enclosure.sub (x y : Enclosure) : Enclosure := ⟨x.lo - y.hi, x.hi - y.lo⟩

/-- A product of enclosed values. -/
def Enclosure.mul (p : Nat) (x y : Enclosure) : Enclosure := ⟨x.lo * y.lo / 10 ^ p, ceilDiv (x.hi * y.hi) (10 ^ p)⟩

/-- An enclosed value times a rational number. -/
def Enclosure.scale (x : Enclosure) (num den : Nat) : Enclosure := ⟨x.lo * num / den, ceilDiv (x.hi * num) den⟩

/-- The enclosure of 0. -/
def Enclosure.zero : Enclosure := ⟨0, 0⟩

/-- A sum of a list of enclosed values. -/
def Enclosure.sum (xs : List Enclosure) : Enclosure := xs.foldr Enclosure.add Enclosure.zero

/-- The power n of a value that is y / 10 ^ p or up to one part in 10 ^ p more, for 1 ≤ y / 10 ^ p. -/
def powerOfRoot (p y n : Nat) : Enclosure :=
  ⟨y ^ n * 10 ^ p / 10 ^ (p * n), ceilDiv ((y + 1) ^ n * 10 ^ p) (10 ^ (p * n))⟩

/-- 10 ^ (1 / 1000) with p digits, rounded down. -/
def tenRoot (p : Nat) : Nat := integerRoot 1000 (10 ^ (1000 * p + 1)) (4 * p + 4)

/-- 10 ^ (e / 1000) for any integer e. -/
def pow10 (p : Nat) (e : Int) : Enclosure :=
  (powerOfRoot p (tenRoot p) (e % 1000).toNat).scale (10 ^ (e / 1000).toNat) (10 ^ (-(e / 1000)).toNat)

/-- q ^ (1 / 1000) with p digits, rounded down, for q = num / den from 1 to 10. -/
def rationalRoot (p num den : Nat) : Nat := integerRoot 1000 (num * 10 ^ (1000 * p) / den) (4 * p + 4)

/-- q ^ (d / 1000) for q = num / den from 1 to 10. -/
def powRational (p num den : Nat) (d : Int) : Enclosure :=
  let x := powerOfRoot p (rationalRoot p num den) d.natAbs
  if 0 ≤ d then x else ⟨10 ^ (2 * p) / x.hi, ceilDiv (10 ^ (2 * p)) x.lo⟩

/-- The terms of the series of ln from the odd power `t` of z on: each power is the one before it times z². -/
def logSeries (p : Nat) (zz : Enclosure) : Nat → Nat → Enclosure → Enclosure
  | 0, _, t => ⟨0, 7 * t.hi⟩
  | n + 1, odd, t => (t.scale 2 odd).add (logSeries p zz n (odd + 2) (t.mul p zz))

/-- ln(num / den) for num / den from 1 to 10: 2 (z + z³/3 + z⁵/5 + …) with z = (num - den) / (num + den), at most 9/11,
where the terms left out add to less than 7 times the next power of z. -/
def lnRational (p num den : Nat) : Enclosure :=
  let z : Enclosure := ⟨(num - den) * 10 ^ p / (num + den), ceilDiv ((num - den) * 10 ^ p) (num + den)⟩
  logSeries p (z.mul p z) (6 * p) 1 z

/-- 1 / odd / m ^ odd. -/
def arctanTerm (p m odd : Nat) : Enclosure := ⟨10 ^ p / (odd * m ^ odd), ceilDiv (10 ^ p) (odd * m ^ odd)⟩

/-- What is left of the series 1/m - 1/(3m³) + 1/(5m⁵) - … for arctan(1 / m) from an odd power on, without its sign: a term less
what is left after it, which lies between 0 and its own first term. -/
def arctanRest (p m : Nat) : Nat → Nat → Enclosure
  | 0, odd => ⟨0, (arctanTerm p m odd).hi⟩
  | n + 1, odd => (arctanTerm p m odd).sub (arctanRest p m n (odd + 2))

/-- π = 16 arctan(1/5) - 4 arctan(1/239). -/
def piEnclosure (p : Nat) : Enclosure := ((arctanRest p 5 p 1).scale 16 1).sub ((arctanRest p 239 p 1).scale 4 1)

/-! ### Roundings of enclosed values -/

/-- The first digits at which an enclosure is taken. -/
def firstDigits : Nat := 60

/-- How often the digits may be doubled (assumption 4). The number is a bound for the recursion and no limit on the precision:
60 × 2 ^ 100000 digits are more than any effective bound for the sums rounded here asks for. -/
def doublings : Nat := 100000

/-- What both ends of an enclosure round to, with the digits doubled until they agree or the fuel ends. -/
def settleRounding {α : Type} [DecidableEq α] (ends : Nat → α × α) (p : Nat) : Nat → Option α
  | 0 => none
  | fuel + 1 =>
    let e := ends p
    if e.1 = e.2 then some e.1 else settleRounding ends (2 * p) fuel

/-- The largest of a list of levels. -/
def maxLevel (ls : List Int) : Int := ls.foldl max (ls.headD 0)

/-- The two roundings of 1000 × log10((Σ 10 ^ (l / 1000)) / c), one from each end of the enclosure. -/
def logSumEnds (ls : List Int) (c p : Nat) : Int × Int :=
  let top := maxLevel ls
  let s := Enclosure.sum (ls.map fun l => pow10 p (l - top))
  (top + roundLog 1000 s.lo (c * 10 ^ p), top + roundLog 1000 s.hi (c * 10 ^ p))

/-- round(1000 × log10((Σ 10 ^ (l / 1000)) / c)) over a list of integer levels in cdB.

The sum and every tie are polynomials of degree below 2000 with integer coefficients in 10 ^ (1/2000), whose minimal
polynomial is X ^ 2000 - 10. A tie has odd exponents and the sum even ones, so they differ, and by the norm they differ by
more than 10 ^ -67000. Twelve doublings of 60 digits pass that, so the fuel never ends (assumption 32). -/
def roundLogSum (ls : List Int) (c : Nat) : Int :=
  (settleRounding (logSumEnds ls c) firstDigits 12).getD (logSumEnds ls c firstDigits).1

end Sys2Proof.Machine
end

