-- ==== Sys2Proof/Syntax.lean ====
section
/-! DEFINITION. The commands of the part: one constructor of `Instr` per row of spec/opcode_table.json. A request row carries
the fields R186 gives its message, raw as the host sends them; an event row carries what the event brings with it. -/

namespace Sys2Proof

/-- The four rates of the line link (R169). -/
inductive Rate
  | r115200 | r460800 | r921600 | r3000000
  deriving DecidableEq, Repr

/-- What the check of R170 covers of a frame, less its length: kind, tag and payload (R184). -/
structure Frame where
  kind : Byte
  tag : Byte
  payload : List Byte
  deriving DecidableEq, Repr

/-- Why a frame is bad at its event (R170): a framing error, a length above 250, or a failed check. -/
inductive BadCause
  | framingError | lengthAbove250 | checkMismatch
  deriving DecidableEq, Repr

/-- How a request reaches the part: the rate at which its frame completes, and the tag the host chose (R171, R184). -/
structure Header where
  rate : Rate
  tag : Byte
  deriving DecidableEq, Repr

/-- The fields of SITE_SET (R3, R186). -/
structure SiteSetFields where
  site : Byte
  carrier : Word
  voltage : Byte
  current : Byte
  blanking : Byte
  deglitch : Byte
  warmUp : Word
  retryLimit : Byte
  levelRange : Byte
  deriving DecidableEq, Repr

/-- One band entry of PLAN_PUT: target, then minimum (R186). -/
structure BandFields where
  target : Half
  minimum : Half
  deriving DecidableEq, Repr

/-- One jitter band entry of PLAN_PUT (R186). -/
structure JitterFields where
  fLo : Word
  fHi : Word
  limit : Word
  deriving DecidableEq, Repr

/-- The payload layout of PLAN_PUT (R186). -/
structure PlanFields where
  slot : Byte
  startBand : Byte
  stopBand : Byte
  bands : Vector BandFields 6
  maxDuration : Word
  earlyStop : Byte
  snapshot : Half
  margin : Half
  maskPresent : Byte
  mask : Byte
  jitterCount : Byte
  jitter : Vector JitterFields 4
  spurPresent : Byte
  spurThreshold : Half
  spurLimit : Half
  spurReport : Byte
  tolerancePresent : Byte
  tolerance : Word
  deriving DecidableEq, Repr

/-- One vertex position of MASK_PUT: offset in Hz and signed limit (R186). -/
structure VertexFields where
  offset : Word
  limit : Half
  deriving DecidableEq, Repr

/-- The fields of MASK_PUT (R48, R186). -/
structure MaskFields where
  slot : Byte
  count : Byte
  vertices : Vector VertexFields 16
  deriving DecidableEq, Repr

/-- The fields of CAL_START: lane, kind code and the four range selections (R159, R186). -/
structure CalStartFields where
  lane : Byte
  kind : Byte
  ranges : Vector Byte 4
  deriving DecidableEq, Repr

/-- A request the part knows, by the kinds of R186, with its payload's fields. -/
inductive Request
  | ident
  | status
  | eventsMask (mask : Byte)
  | eventsClear (kinds : Byte)
  | reset
  | siteSet (fields : SiteSetFields)
  | sitePower (site code : Byte)
  | siteClear (site : Byte)
  | siteRead (site : Byte)
  | refSet (mode frequency window : Byte)
  | refRead
  | planPut (fields : PlanFields)
  | planGet (slot : Byte)
  | planDrop (slot : Byte)
  | maskPut (fields : MaskFields)
  | maskGet (slot : Byte)
  | maskDrop (slot : Byte)
  | binmapPut (bins : Vector Byte 9)
  | binmapGet
  | jobSubmit (site plan group priority : Byte)
  | jobRead (job : Half)
  | jobAbort (selector : Byte) (value : Half)
  | groupRelease (group : Byte)
  | snapTake (lane : Byte) (job : Half)
  | snapRead (lane : Byte) (job : Half) (band : Byte)
  | snapHold (code : Byte)
  | resultList
  | resultRead (job : Half) (part : Byte)
  | resultRelease (job : Half)
  | calStart (fields : CalStartFields)
  | calCancel (lane : Byte)
  | calRead (lane : Byte)
  | calStore
  | calRevert (selector : Byte)
  deriving DecidableEq, Repr

/-- What one average adds to the sums of one bin: its complex cross product of A and B, its A power and its B power, in
V²/Hz (R88). -/
structure BinSums where
  re : Rat
  im : Rat
  a : Rat
  b : Rat
  deriving DecidableEq, Repr

/-- What a capture disturbance is (R87). -/
inductive Disturbance
  | trackingSlip | detectorOverload
  deriving DecidableEq, Repr

/-- The commands of the part: the rows of spec/opcode_table.json, in the table's order. Measured quantities are the exact
values the hardware meets: frequencies in Hz (absent when no carrier cycle was counted, and when the reference input carries no
signal), levels in dBm, offsets in ppb,
gain errors in cdB. -/
inductive Instr
  | powerOnReset
  | goodFrame (rate : Rate) (frame : Frame)
  | badFrame (rate : Rate) (cause : BadCause)
  | frameGapTimeout (rate : Rate)
  | frameTransmitEnd
  | ident (h : Header)
  | status (h : Header)
  | eventsMask (h : Header) (mask : Byte)
  | eventsClear (h : Header) (kinds : Byte)
  | reset (h : Header)
  | siteSet (h : Header) (fields : SiteSetFields)
  | sitePowerOn (h : Header) (site : Byte)
  | sitePowerOff (h : Header) (site : Byte)
  | siteClear (h : Header) (site : Byte)
  | siteRead (h : Header) (site : Byte)
  | supplyInhibitExpiry
  | blankingExpiry (site : SiteId)
  | currentLimitCrossing (site : SiteId) (above : Bool)
  | overcurrent (site : SiteId)
  | retryExpiry (site : SiteId)
  | warmUpExpiry (site : SiteId)
  | carrierCheckGateEnd (site : SiteId) (frequency : Option Rat) (level : Rat)
  | recheckExpiry (site : SiteId)
  | recheckGateEnd (site : SiteId) (frequency : Option Rat) (level : Rat)
  | levelReading (site : SiteId) (level : Rat)
  | refSet (h : Header) (mode frequency window : Byte)
  | refRead (h : Header)
  | referencePresentEvent
  | referenceAbsentEvent
  | windowEnd (offset : Rat)
  | holdoverExpiry
  | planPut (h : Header) (fields : PlanFields)
  | planGet (h : Header) (slot : Byte)
  | planDrop (h : Header) (slot : Byte)
  | maskPut (h : Header) (fields : MaskFields)
  | maskGet (h : Header) (slot : Byte)
  | maskDrop (h : Header) (slot : Byte)
  | binmapPut (h : Header) (bins : Vector Byte 9)
  | binmapGet (h : Header)
  | jobSubmit (h : Header) (site plan group priority : Byte)
  | jobRead (h : Header) (job : Half)
  | jobAbort (h : Header) (selector : Byte) (value : Half)
  | groupRelease (h : Header) (group : Byte)
  | recountGateEnd (lane : LaneId) (frequency : Option Rat) (level : Rat)
  | lockEvent (lane : LaneId)
  | lockTimerExpiry (lane : LaneId)
  | bandCompletion (lane : LaneId) (band : BandId) (sums : List BinSums)
  | captureDisturbance (lane : LaneId) (cause : Disturbance)
  | snapshotTimerExpiry (lane : LaneId)
  | maxDurationExpiry (lane : LaneId)
  | evaluationEnd (lane : LaneId)
  | snapTake (h : Header) (lane : Byte) (job : Half)
  | snapRead (h : Header) (lane : Byte) (job : Half) (band : Byte)
  | snapHold (h : Header) (code : Byte)
  | resultList (h : Header)
  | resultRead (h : Header) (job : Half) (part : Byte)
  | resultRelease (h : Header) (job : Half)
  | calStart (h : Header) (fields : CalStartFields)
  | calChannelLock (lane : LaneId) (channel : ChanId)
  | calLockTimerExpiry (lane : LaneId) (channel : ChanId)
  | measurementEvent (lane : LaneId) (gainA gainB : Rat)
  | calCancel (h : Header) (lane : Byte)
  | calRead (h : Header) (lane : Byte)
  | calStore (h : Header)
  | storeCompletion
  | calRevert (h : Header) (selector : Byte)
  | referenceInputQualifyChange (signal : Option Rat)
  deriving DecidableEq, Repr

end Sys2Proof
end

