-- ==== Sys2Proof/Machine/State.lean ====
section
/-! DEFINITION. The state of the part as plain data: every record the chapters of the manual give a block, the queue of the
commands that wait, and the model's own few fields (INVENTORY.md, State, lists each with its rule and reset value). -/

namespace Sys2Proof.Machine

/-- Why a step ends in a fault. The manual names no event that stops the part, so there is no reason
(assumption 20). -/
inductive Fault
  deriving DecidableEq, Repr

/-- Why a step has no meaning. -/
inductive Refusal
  /-- Raised by the dispatcher for a row of the opcode table that has no meaning yet. Safe. -/
  | notModelled (mnemonic : String)
  deriving DecidableEq, Repr

/-! ### Site controller (chapter 1) -/

/-- The nine site states (R2, section 1.2). -/
inductive SiteState
  | off | ramp | warming | checking | ready | measuring | noCarrier | retryWait | faultLatched
  deriving DecidableEq, Repr

/-- The six fields SITE_SET stages (R4). -/
structure SupplyConfig where
  carrier : Nat
  voltage : Fin 4
  current : Fin 4
  blanking : Fin 4
  deglitch : Fin 2
  retryLimit : Nat
  deriving DecidableEq, Repr

/-- The eight configuration fields of R3: the six that can be staged, and the two that never are. -/
structure SiteConfig where
  supply : SupplyConfig
  warmUp : Nat
  levelRange : Fin 3
  deriving DecidableEq, Repr

/-- What runs at a site (section 1.2): the blanking timer, the warm-up timer with the time spent, a count gate, the
recheck timer or the retry timer. -/
inductive SiteTimer
  | stopped
  | blanking
  | warmUp (spent : Nat)
  | checkGate
  | recheckWait
  | recheckGate
  | retry
  deriving DecidableEq, Repr

/-- The current monitor of a site (R12): armed or not, whether the current stands above the limit, and whether a deglitch
interval runs. -/
structure CurrentMonitor where
  armed : Bool
  above : Bool
  deglitching : Bool
  deriving DecidableEq, Repr

/-- The four classes of a level reading (R19). -/
inductive LevelClass
  | absent | low | within | high
  deriving DecidableEq, Repr

/-- The level flag of a site (R2). -/
inductive LevelFlag
  | within | low | high
  deriving DecidableEq, Repr

/-- The tag of a frequency count (R34). -/
inductive CountTag
  | internal | referenced | unreferenced
  deriving DecidableEq, Repr

/-- The outcome of a frequency count (R18): gate end uptime, tag, and the frequency error in ppb where one was found. -/
structure CountRecord where
  gateEnd : Word
  tag : CountTag
  error : Option Int
  deriving DecidableEq, Repr

/-- The site record of R2, with what runs at the site and what its monitors hold (R12, R19). Level readings are in steps
of 0.1 dB. `qualifying` is the class of the last reading where that is not the settled class (R19). -/
structure Site where
  configured : Bool
  applied : SiteConfig
  staged : Option SupplyConfig
  state : SiteState
  entered : Word
  powerPending : Bool
  faultCount : Nat
  levelReading : Option Int
  levelFlag : Option LevelFlag
  lastCount : Option CountRecord
  timer : SiteTimer
  monitor : CurrentMonitor
  settled : Option LevelClass
  qualifying : Option LevelClass
  deriving DecidableEq, Repr

/-! ### Timebase unit (chapter 2) -/

/-- The reference mode (R25). -/
inductive RefMode
  | internal | external
  deriving DecidableEq, Repr

/-- The frequency expected at the reference input (R25). -/
inductive RefFreq
  | mhz10 | mhz100
  deriving DecidableEq, Repr

/-- The length of a comparison window (R25). -/
inductive RefWindow
  | s1 | s4 | s16
  deriving DecidableEq, Repr

/-- The discipline state (R25, section 2.2). -/
inductive Discipline
  | free | acquiring | locked | holdover
  deriving DecidableEq, Repr

/-- The timebase record of R25, with the steering (R27, R29 to R31) and what the external reference input carries now (R28): no
signal, or a signal with its frequency in Hz as the master oscillator measures it (assumption 11). -/
structure Timebase where
  mode : RefMode
  frequency : RefFreq
  window : RefWindow
  discipline : Discipline
  entered : Word
  goodCount : Nat
  windowStart : Option Word
  lastOffset : Option Int
  holdover : Option Nat
  present : Bool
  uptime : Word
  steering : Int
  input : Option Rat
  deriving DecidableEq, Repr

/-! ### Plan table (chapter 3) -/

/-- The averaging target and minimum of a band (R38). -/
structure BandTarget where
  target : Nat
  minimum : Nat
  deriving DecidableEq, Repr

/-- A jitter band of a plan (R38): edges in Hz, limit in fs. -/
structure JitterBand where
  fLo : Nat
  fHi : Nat
  limit : Nat
  deriving DecidableEq, Repr

/-- The spur rule of a plan (R38). -/
structure SpurRule where
  threshold : Int
  limit : Int
  report : Nat
  deriving DecidableEq, Repr

/-- A stored plan (R38). -/
structure Plan where
  startBand : BandId
  stopBand : BandId
  bands : Vector BandTarget 6
  maxDuration : Nat
  earlyStop : Bool
  snapshot : Nat
  margin : Int
  mask : Option MaskId
  jitter : List JitterBand
  spur : Option SpurRule
  tolerance : Option Nat
  deriving DecidableEq, Repr

/-- A vertex of a mask (R48). -/
structure Vertex where
  offset : Nat
  limit : Int
  deriving DecidableEq, Repr

/-- The nine bin classes (R52). -/
inductive BinClass
  | pass | failFrequency | failMask | failJitter | failSpur | inconclusive | noCarrier | siteFault | aborted
  deriving DecidableEq, Repr

/-! ### Spectra, results (chapters 5 to 8) -/

/-- A grid point of a segment (R136): no data, or M, F and E with the flags FL, SP and CL. -/
inductive Point
  | noData
  | data (m f e : Int) (fl sp cl : Bool)
  deriving DecidableEq, Repr

/-- The contents of a segment (R136). -/
structure Segment where
  band : BandId
  points : List Point
  accepted : Nat
  rejected : Nat
  deriving DecidableEq, Repr

/-- A spur: offset in Hz, level in cdBc (R108). -/
structure Spur where
  offset : Nat
  level : Int
  deriving DecidableEq, Repr

/-- A criterion outcome (R122). -/
inductive Criterion
  | notApplied | pass | fail | inconclusive
  deriving DecidableEq, Repr

/-- A jitter entry of a result (R111) with the copy of its jitter band (R148): value in fs and integrated noise in cdBc,
absent for NO_DATA. -/
structure JitterEntry where
  band : JitterBand
  value : Option Nat
  noise : Option Int
  bound : Bool
  sat : Bool
  outcome : Criterion
  deriving DecidableEq, Repr

/-- The mask tally of a result (R125). -/
structure MaskTally where
  checked : Nat
  failed : Nat
  inconclusive : Nat
  noData : Nat
  deriving DecidableEq, Repr

/-- The four criterion outcomes of a result and its mask tally (R133). -/
structure Criteria where
  frequency : Criterion
  mask : Criterion
  jitter : Criterion
  spur : Criterion
  tally : MaskTally
  deriving DecidableEq, Repr

/-- The primary cause of a FAIL (R131). -/
inductive Cause
  | frequency | mask | jitter | spur
  deriving DecidableEq, Repr

/-- The verdict of a job (R130, R132). -/
inductive Verdict
  | pass | fail | inconclusive | noCarrier | siteFault | aborted
  deriving DecidableEq, Repr

/-- Why a job ended (R79). -/
inductive EndReason
  | complete | earlyPass | earlyFail | timeout | hostAbort | siteOff | noLane | laneTune | siteFault | noCarrier
  deriving DecidableEq, Repr

/-- The result parts of R133 that a job gains at its end, with the plan copies of R148. -/
structure Result where
  verdict : Verdict
  binClass : BinClass
  bin : Fin 16
  cause : Option Cause
  startBand : BandId
  stopBand : BandId
  criteria : Option Criteria
  jitter : Option (List JitterEntry)
  spurs : Option (List Spur)
  spectrum : Option (List Segment)
  deriving DecidableEq, Repr

/-- Published segments with their sequence number (R139). -/
structure Snapshot where
  seq : Nat
  segments : List Segment
  deriving DecidableEq, Repr

/-- The buffer set of a running job (R139; assumption 22): how many segments a role has, whether N and F are present, the
contents of W, N and F where they have any, and the publish count. -/
structure BufferSet where
  bands : Nat
  roles : Bool
  w : Option (List Segment)
  n : Option Snapshot
  f : Option Snapshot
  published : Nat
  deriving DecidableEq, Repr

/-! ### Job controller (chapter 4) -/

/-- The priority class of a job (R55). -/
inductive Priority
  | normal | urgent
  deriving DecidableEq, Repr

/-- The job states (R55). -/
inductive JobState
  | held | queued | tuning | gangWait | acquiring | evaluating | done
  deriving DecidableEq, Repr

/-- The flags of a job (R55). -/
structure JobFlags where
  level : Bool
  refHoldover : Bool
  refLost : Bool
  calQuick : Bool
  calDefault : Bool
  deriving DecidableEq, Repr

/-- The tag of a coefficient (R155). -/
inductive CoefTag
  | default | full | quick
  deriving DecidableEq, Repr

/-- A coefficient in cdB with its tag (R155). -/
structure Coef where
  c : Int
  tag : CoefTag
  deriving DecidableEq, Repr

/-- The coefficients a job latches at acquisition start (R85). -/
structure Latched where
  a : Coef
  b : Coef
  deriving DecidableEq, Repr

/-- The accepted and rejected counts of a band (R55). -/
structure BandCount where
  accepted : Nat
  rejected : Nat
  deriving DecidableEq, Repr

/-- A job record (R55), with its buffer set while it has one (R139) and its result once it is DONE (R148). -/
structure Job where
  id : Nat
  site : SiteId
  plan : PlanId
  group : Fin 16
  priority : Priority
  state : JobState
  seq : Nat
  gang : Option (List Nat)
  lane : Option LaneId
  attempts : Nat
  flags : JobFlags
  recount : Option CountRecord
  latched : Option Latched
  started : Option Word
  duration : Option Nat
  counts : Option (Vector BandCount 6)
  reason : Option EndReason
  result : Option Result
  buffer : Option BufferSet
  deriving DecidableEq, Repr

/-- The lane states (R62). -/
inductive LaneState
  | idle | reserved | tuning | gangWait | acquiring | evaluating | calibrating | outOfService
  deriving DecidableEq, Repr

/-- What a lane in TUNING runs: its recount gate (R70), then its lock timer (R71). -/
inductive TunePhase
  | recount | locking
  deriving DecidableEq, Repr

/-- A channel in a calibration step (R160): no step, its lock timer running, locked, or its timer expired. -/
inductive ChannelLock
  | idle | waiting | locked | expired
  deriving DecidableEq, Repr

/-- A receive channel: its synthesizer's setting in units of 10^-9 Hz (R71, R160), and its part in a calibration step. -/
structure Channel where
  synth : Nat
  lock : ChannelLock
  deriving DecidableEq, Repr

/-- A selected band of an acquisition record (R84): its sums per bin, its counts, its completions so far, whether an
average is in progress, and the spoiled marker. -/
structure BandAcq where
  band : BandId
  sums : List BinSums
  accepted : Nat
  rejected : Nat
  completions : Nat
  inProgress : Bool
  spoiled : Bool
  deriving DecidableEq, Repr

/-- The acquisition record of a lane (R84), with the carrier nominal of R116 and the end reason fixed at acquisition end
(R103). A timer is present while it runs, with its length in ms. -/
structure Acquisition where
  bands : List BandAcq
  latched : Latched
  nominal : Nat
  maxTimer : Option Nat
  snapTimer : Option Nat
  reason : Option EndReason
  deriving DecidableEq, Repr

/-- The lane record of R62, with the lane's connection in the switch matrix, its tuning phase, its channels, whether its
input is at the calibration source (R160), and its acquisition record. -/
structure Lane where
  state : LaneState
  calPending : Bool
  tuneFailures : Nat
  job : Option Nat
  connected : Option SiteId
  tune : Option TunePhase
  channels : Vector Channel 2
  source : Option RangeId
  acquisition : Option Acquisition
  deriving DecidableEq, Repr

/-! ### Calibration unit (chapter 9) -/

/-- The status of a calibration record (R158). -/
inductive CalStatus
  | none | pending | running | done | bad | cancelled
  deriving DecidableEq, Repr

/-- The kind of a calibration (R158). -/
inductive CalKind
  | full | quick
  deriving DecidableEq, Repr

/-- The outcome of a calibration step for one channel and range (R158). -/
inductive StepResult
  | notRun | good | limit | noLock
  deriving DecidableEq, Repr

/-- The calibration record of a lane (R158). Results and values are indexed by channel, then range: channel A first. -/
structure CalRecord where
  status : CalStatus
  kind : Option CalKind
  ranges : Vector Bool 4
  outOfService : Option Bool
  step : Option RangeId
  started : Option Word
  ended : Option Word
  results : Vector StepResult 8
  measured : Vector (Option Int) 8
  deriving DecidableEq, Repr

/-- A coefficient set: per lane, channel A ranges 1 to 4 and then channel B (R155). -/
abbrev CoefSet := Vector (Vector Coef 8) 4

/-- The calibration unit (R155 to R158). `checkMatches` is whether the stored set's check value matches its contents, and
`image` is the image of a store write in progress (R163), so the store is busy exactly while it is present. -/
structure CalUnit where
  working : CoefSet
  stored : CoefSet
  checkMatches : Bool
  image : Option CoefSet
  records : Vector CalRecord 4
  deriving DecidableEq, Repr

/-! ### Link port and event unit (chapter 10) -/

/-- The link state with the rate that is present in LOCKED (R168). -/
inductive Link
  | search
  | locked (rate : Rate)
  deriving DecidableEq, Repr

/-- The request in hand (R168): its kind, its tag, and its reply's payload. -/
structure InHand where
  kind : Byte
  tag : Byte
  reply : List Byte
  deriving DecidableEq, Repr

/-- What the line to the host carries (R168), at the rate at which its transmission began. -/
inductive Transmitter
  | idle
  | reply (rate : Rate) (frame : Frame)
  | notice (rate : Rate) (frame : Frame)
  deriving DecidableEq, Repr

/-- The port record of R168. -/
structure Port where
  link : Link
  badCount : Nat
  queue : List Frame
  inHand : Option InHand
  noticeDue : Bool
  transmitter : Transmitter
  deriving DecidableEq, Repr

/-- The event unit's two sets, one bit per kind (R177, R185). -/
structure Events where
  pending : Byte
  mask : Byte
  deriving DecidableEq, Repr

/-! ### The whole part -/

/-- The state of the part. `head` is the identity of the head the RESERVED lanes are held for (section 4.4). The last three
fields are the model's own: whether the event being taken has called for a reconsideration, the number of replies formed since
power was first applied, and the commands that wait (assumptions 19, 23). -/
structure State where
  port : Port
  events : Events
  sites : Vector Site 16
  inhibit : Bool
  timebase : Timebase
  plans : Vector (Option Plan) 32
  masks : Vector (Option (List Vertex)) 8
  binMap : Vector (Fin 16) 9
  jobs : List Job
  nextId : Nat
  nextSeq : Nat
  head : Option (List Nat)
  lanes : Vector Lane 4
  freeSegments : Nat
  results : List Nat
  hold : Bool
  cal : CalUnit
  reconsider : Bool
  replies : Nat
  pending : List Instr
  deriving DecidableEq, Repr

/-! ### The values after power-on -/

/-- The configuration fields of an unconfigured site: zero codes and zero values (R6). -/
def SiteConfig.zero : SiteConfig := ⟨⟨0, 0, 0, 0, 0, 0⟩, 0, 0⟩

/-- An idle current monitor (R6, R7). -/
def CurrentMonitor.idle : CurrentMonitor := ⟨false, false, false⟩

/-- A site record after either reset (R6). -/
def Site.reset : Site where
  configured := false
  applied := SiteConfig.zero
  staged := none
  state := .off
  entered := 0
  powerPending := false
  faultCount := 0
  levelReading := none
  levelFlag := none
  lastCount := none
  timer := .stopped
  monitor := CurrentMonitor.idle
  settled := none
  qualifying := none

/-- The timebase record after power-on (R37). -/
def Timebase.reset : Timebase where
  mode := .internal
  frequency := .mhz10
  window := .s4
  discipline := .free
  entered := 0
  goodCount := 0
  windowStart := none
  lastOffset := none
  holdover := none
  present := false
  uptime := 0
  steering := 0
  input := none

/-- A lane record after either reset (R81). -/
def Lane.reset : Lane where
  state := .idle
  calPending := false
  tuneFailures := 0
  job := none
  connected := none
  tune := none
  channels := Vector.replicate 2 ⟨0, .idle⟩
  source := none
  acquisition := none

/-- The default coefficient (R155). -/
def Coef.default : Coef := ⟨0, .default⟩

/-- The default coefficient set (R157). -/
def CoefSet.default : CoefSet := Vector.replicate 4 (Vector.replicate 8 Coef.default)

/-- A calibration record after either reset (R157). -/
def CalRecord.reset : CalRecord where
  status := .none
  kind := none
  ranges := Vector.replicate 4 false
  outOfService := none
  step := none
  started := none
  ended := none
  results := Vector.replicate 8 .notRun
  measured := Vector.replicate 8 none

/-- The calibration unit of a part on which no store has ever completed (R156, R157; assumption 5). -/
def CalUnit.reset : CalUnit where
  working := CoefSet.default
  stored := CoefSet.default
  checkMatches := false
  image := none
  records := Vector.replicate 4 CalRecord.reset

/-- The port record after power-on (R168). -/
def Port.reset : Port where
  link := .search
  badCount := 0
  queue := []
  inHand := none
  noticeDue := false
  transmitter := .idle

/-- The default bin map: each class to its own index (R52). -/
def defaultBinMap : Vector (Fin 16) 9 := #v[0, 1, 2, 3, 4, 5, 6, 7, 8]

/-- The part right after a power-on reset (R6, R8, R37, R54, R81, R154, R157, R168, R177), with no command waiting. -/
def State.reset : State where
  port := Port.reset
  events := ⟨0, 0⟩
  sites := Vector.replicate 16 Site.reset
  inhibit := true
  timebase := Timebase.reset
  plans := Vector.replicate 32 none
  masks := Vector.replicate 8 none
  binMap := defaultBinMap
  jobs := []
  nextId := 1
  nextSeq := 1
  head := none
  lanes := Vector.replicate 4 Lane.reset
  freeSegments := Config.segments
  results := []
  hold := false
  cal := CalUnit.reset
  reconsider := false
  replies := 0
  pending := []

end Sys2Proof.Machine
end

