-- ==== Sys2Proof/Machine/Spectrum.lean ====
section
/-! DEFINITION. From sums to points (R89 to R95) and the spur stage (R106 to R110): pure functions of a band's sums and
counts, the latched coefficients and the plan. -/

namespace Sys2Proof.Machine

/-! ### Bin levels (R90 to R92) -/

/-- A level held within −25,000 to +2,000 cdB (R90). -/
def holdLevel (x : Int) : Int := clampInt (-25000) 2000 x

/-- X_b of R90: 1000 × log(|cross sum| / n), taken as 500 × log of its square. A sum of zero gives −25,000. -/
def crossLevel (x : BinSums) (n : Nat) : Int :=
  let square := x.re * x.re + x.im * x.im
  if square = 0 then -25000 else holdLevel (roundLog 500 square.num.toNat (square.den * n ^ 2))

/-- Y_A,b and Y_B,b of R90: 1000 × log(power sum / n). A sum of zero gives −25,000. -/
def powerLevel (power : Rat) (n : Nat) : Int :=
  if power ≤ 0 then -25000 else holdLevel (roundLog 1000 power.num.toNat (power.den * n))

/-- A bin after stage 1: its index, its phase noise L_b and its single-pass floor F1_b (R91). -/
structure BinLevels where
  j : Nat
  l : Int
  f1 : Int
  deriving DecidableEq, Repr

/-- Stage 1 from the integer levels of a bin (R91). -/
def stageOne (j : Nat) (x ya yb cA cB : Int) : BinLevels :=
  ⟨j, x - cA - cB - 301, roundDiv (ya + yb) 2 - cA - cB - 301⟩

/-- Stage 1 from the sums of a bin (R90, R91). -/
def binLevels (n : Nat) (cA cB : Int) (j : Nat) (x : BinSums) : BinLevels :=
  stageOne j (crossLevel x n) (powerLevel x.a n) (powerLevel x.b n) cA cB

/-- Stage 1 of a band's bins, in ascending index from the first bin (R83). -/
def bandLevels (b : BandAcq) (cA cB : Int) : List BinLevels :=
  b.sums.zipIdx.map fun x => binLevels b.accepted cA cB (Config.firstBin + x.2) x.1

/-- Stage 2: the averaging reduction D(n) = round(500 × log n) (R92). -/
def averagingReduction (n : Nat) : Int := roundLog 500 n 1

/-! ### Spur candidates and spurs (R107, R108) -/

/-- A list of levels from lowest to highest. -/
def insertLevel (x : Int) : List Int → List Int
  | [] => [x]
  | y :: ys => if x ≤ y then x :: y :: ys else y :: insertLevel x ys

/-- Levels ordered from lowest to highest. -/
def sortLevels (ls : List Int) : List Int := ls.foldr insertLevel []

/-- The lower median: the value at position ⌈c / 2⌉ of the ordered levels (R107). -/
def lowerMedian (ls : List Int) : Int := (sortLevels ls).getD ((ls.length + 1) / 2 - 1) 0

/-- What the spur stage reads of the plan and the counts (R106): floor margin, threshold and D(n). -/
structure SpurTest where
  margin : Int
  threshold : Int
  reduction : Int
  deriving DecidableEq, Repr

/-- Whether a bin of a point with lower median m is a spur candidate (R107). -/
def isCandidate (t : SpurTest) (m : Int) (b : BinLevels) : Bool :=
  decide (m + t.threshold ≤ b.l) && decide (b.f1 - t.reduction + t.margin ≤ b.l)

/-- The bins of a band cut into the bins of its points (R83). -/
def cutPoints : List Nat → List BinLevels → List (List BinLevels)
  | [], _ => []
  | c :: cs, bins => bins.take c :: cutPoints cs (bins.drop c)

/-- The bins of one point, each with whether it is a spur bin; without a spur rule none is (R106, R107). -/
def markPoint (t : Option SpurTest) (bins : List BinLevels) : List (BinLevels × Bool) :=
  match t with
  | none => bins.map fun b => (b, false)
  | some t =>
    let m := lowerMedian (bins.map BinLevels.l)
    bins.map fun b => (b, isCandidate t m b)

/-- The runs of adjacent candidates of a band, lowest index first (R108): the bins are in ascending index, and a bin that is
no candidate ends a run. -/
def spurRuns : List (BinLevels × Bool) → List BinLevels → List (List BinLevels)
  | [], [] => []
  | [], run => [run.reverse]
  | (b, true) :: rest, run => spurRuns rest (b :: run)
  | (_, false) :: rest, [] => spurRuns rest []
  | (_, false) :: rest, run => run.reverse :: spurRuns rest []

/-- The bin of a run with the highest L_b, the one with the lowest index among equals (R108). -/
def peakBin (run : List BinLevels) (first : BinLevels) : BinLevels :=
  run.foldl (fun best b => if best.l < b.l then b else best) first

/-- The spur a run forms: its offset and its level (R108). Each RBW is a power of ten, so it adds a whole number of cdB. -/
def spurOfRun (band : BandId) : List BinLevels → Option Spur
  | [] => none
  | b :: rest =>
    some ⟨(peakBin rest b).j * Config.rbw band,
      roundLogSum ((b :: rest).map BinLevels.l) 1 + 1000 * (band.val : Int)⟩

/-! ### Points (R93 to R95) -/

/-- Stages 5 and 6 for a point with data: the floor-limited decision and E (R94), then the reported range (R95). -/
def finishPoint (m f margin : Int) (sp : Bool) : Point :=
  let e := max m (f + margin)
  let hold := clampInt (-20000) (-2000)
  .data (hold m) (hold f) (hold e) (decide (m < f + margin)) sp (decide (hold m ≠ m ∨ hold f ≠ f ∨ hold e ≠ e))

/-- A point of a band with data from its bins (R93): the means leave the spur bins out. -/
def pointOfBins (reduction margin : Int) (bins : List (BinLevels × Bool)) : Point :=
  let kept := (bins.filter fun b => !b.2).map Prod.fst
  let m := roundLogSum (kept.map BinLevels.l) kept.length
  let f1 := roundLogSum (kept.map BinLevels.f1) kept.length
  finishPoint m (f1 - reduction) margin (bins.any Prod.snd)

/-- What a point computation gives for one band: its points, in ascending order, and its spurs. -/
structure BandPoints where
  segment : Segment
  spurs : List Spur
  deriving DecidableEq, Repr

/-- The point computation of one band (R89): NO_DATA for a band with no accepted average (R93), else stages 1 to 6 with the
spur stage between where the plan has a spur rule (R106). -/
def computeBand (plan : Plan) (latched : Latched) (b : BandAcq) : BandPoints :=
  if b.accepted = 0 then
    ⟨⟨b.band, List.replicate (Config.pointCount b.band) .noData, b.accepted, b.rejected⟩, []⟩
  else
    let reduction := averagingReduction b.accepted
    let test := plan.spur.map fun r => (⟨plan.margin, r.threshold, reduction⟩ : SpurTest)
    let points := (cutPoints (Config.pointBins b.band) (bandLevels b latched.a.c latched.b.c)).map (markPoint test)
    ⟨⟨b.band, points.map (pointOfBins reduction plan.margin), b.accepted, b.rejected⟩,
      (spurRuns points.flatten []).filterMap (spurOfRun b.band)⟩

/-- The outputs of one point computation (R89): a segment per selected band in ascending order, and all its spurs. -/
structure Spectrum where
  segments : List Segment
  spurs : List Spur
  deriving DecidableEq, Repr

/-- The point computation of an acquisition (R89). -/
def computeSpectrum (plan : Plan) (acq : Acquisition) : Spectrum :=
  let bands := acq.bands.map (computeBand plan acq.latched)
  ⟨bands.map BandPoints.segment, (bands.map BandPoints.spurs).flatten⟩

/-- The point at a grid index (R136: band k holds P(10k − 10) and on); NO_DATA outside the selected bands. -/
def Spectrum.point (x : Spectrum) (i : Nat) : Point :=
  let bi := min (i / 10) 5
  match x.segments.find? fun g => g.band.val = bi with
  | some g => g.points.getD (i - 10 * bi) .noData
  | none => .noData

/-- A spur placed in the order of R110: by level, highest first, then by offset, lowest first. -/
def insertSpur (x : Spur) : List Spur → List Spur
  | [] => [x]
  | y :: ys => if y.level < x.level ∨ (y.level = x.level ∧ x.offset ≤ y.offset) then x :: y :: ys else y :: insertSpur x ys

/-- The spur list of a result: the first spurs of that order, as many as the report count (R110). -/
def spurList (plan : Plan) (spurs : List Spur) : List Spur :=
  match plan.spur with
  | none => []
  | some r => (spurs.foldr insertSpur []).take r.report

end Sys2Proof.Machine
end

