-- ==== Sys2Proof/Machine/Jitter.lean ====
section
/-! DEFINITION. Jitter entries (R111 to R119): the integral of the effective values and the spurs over a jitter band, its
integrated noise, and the jitter value within the difference R116 allows. -/

namespace Sys2Proof.Machine

/-- Whether f_i ≤ f for a whole-hertz f: f_i = 10 ^ ((10 + i) / 10) (R82). -/
def gridAtMost (i f : Nat) : Bool := decide (10 ^ (10 + i) ≤ f ^ 10)

/-- Whether f ≤ f_i for a whole-hertz f (R82). -/
def gridAtLeast (i f : Nat) : Bool := decide (f ^ 10 ≤ 10 ^ (10 + i))

/-- ilo of R111: the largest grid index with f_i ≤ f_lo. -/
def lowIndex (f : Nat) : Nat := ((List.range 61).filter fun i => gridAtMost i f).getLastD 0

/-- ihi of R111: the smallest grid index with f_i ≥ f_hi. -/
def highIndex (f : Nat) : Nat := ((List.range 61).filter fun i => gridAtLeast i f).headD 60

/-- The grid indexes of the points used by a jitter band (R111). -/
def pointsUsed (b : JitterBand) : List Nat :=
  (List.range 61).filter fun i => decide (lowIndex b.fLo ≤ i) && decide (i ≤ highIndex b.fHi)

/-- An end of an integrated part of a segment: one of the segment's grid points, or an edge of the jitter band in Hz. -/
inductive Edge
  | left | right
  | hz (f : Nat)
  deriving DecidableEq, Repr

/-- S(f) × f at an edge of the segment from P_i to P_(i+1) with ends E_a and E_b (R112): at a grid point the power law
passes through its E, and at f it is S_a × (f / f_a) ^ β × f with (f / f_a) ^ 10 = f ^ 10 / 10 ^ (10 + i). -/
def densityTimesF (p i : Nat) (ea eb : Int) : Edge → Enclosure
  | .left => pow10 p (ea + 1000 + 100 * i)
  | .right => pow10 p (eb + 1000 + 100 * (i + 1))
  | .hz f => ((pow10 p ea).mul p (powRational p (f ^ 10) (10 ^ (10 + i)) (eb - ea))).scale f 1

/-- ln(f / f_a) at an edge of the segment from P_i (R113). -/
def logOverLeft (p i : Nat) : Edge → Enclosure
  | .left => Enclosure.zero
  | .right => (lnRational p 10 1).scale 1 10
  | .hz f => (lnRational p (f ^ 10) (10 ^ (10 + i))).scale 1 10

/-- The integral of R113 between two edges of a segment. β + 1 is (E_b − E_a + 100) / 100, and S(f1) f1 (f2 / f1) ^ (β + 1)
is S(f2) f2, so the power form is the difference of S(f) f over β + 1. The logarithmic form applies at E_b − E_a = −100. -/
def segmentIntegral (p i : Nat) (ea eb : Int) (f1 f2 : Edge) : Enclosure :=
  let d := eb - ea + 100
  let g1 := densityTimesF p i ea eb f1
  let g2 := densityTimesF p i ea eb f2
  if d = 0 then (densityTimesF p i ea eb .left).mul p ((logOverLeft p i f2).sub (logOverLeft p i f1))
  else if 0 < d then (g2.sub g1).scale 100 d.toNat
  else (g1.sub g2).scale 100 (-d).toNat

/-- The noise part of R114 over the segments from P_i on, `count` of them, the last one ending at f_hi. -/
def noisePart (p : Nat) (b : JitterBand) (e : Nat → Int) (i : Nat) : Nat → Enclosure
  | 0 => Enclosure.zero
  | count + 1 =>
    let f1 := if gridAtMost i b.fLo then .hz b.fLo else .left
    let f2 := if gridAtLeast (i + 1) b.fHi then .hz b.fHi else .right
    (segmentIntegral p i (e i) (e (i + 1)) f1 f2).add (noisePart p b e (i + 1) count)

/-- The spurs whose offset lies in the covered range (R114). -/
def coveredSpurs (b : JitterBand) (spurs : List Spur) : List Spur :=
  spurs.filter fun s => decide (b.fLo ≤ s.offset) && decide (s.offset ≤ b.fHi)

/-- The integrated power A of a jitter entry (R114). -/
def integratedPower (p : Nat) (b : JitterBand) (e : Nat → Int) (spurs : List Spur) : Enclosure :=
  (noisePart p b e (lowIndex b.fLo) (highIndex b.fHi - lowIndex b.fLo)).add
    (Enclosure.sum ((coveredSpurs b spurs).map fun s => pow10 p s.level))

/-- The operands of the lane's arithmetic, as the free values of Config take them. -/
def spurPairs (b : JitterBand) (spurs : List Spur) : List (Nat × Int) :=
  (coveredSpurs b spurs).map fun s => (s.offset, s.level)

/-- The two roundings of 1000 × log A, one from each end of the enclosure. -/
def noiseEnds (b : JitterBand) (e : Nat → Int) (spurs : List Spur) (p : Nat) : Int × Int :=
  let a := integratedPower p b e spurs
  (roundLog 1000 a.lo (10 ^ p), roundLog 1000 a.hi (10 ^ p))

/-- The integrated noise of an entry with data: round(1000 × log A) (R115).

The digits decide it. A is R + Σ β ln α, where R is a sum of rational multiples of 10 ^ (m/1000) and of f ^ (d/100) × 10 ^
(m/1000) for whole m, d and band edges f, each β is algebraic, and each α is 10 or a rational number. A tie T = 10 ^
(k/2000) has an odd k. T is no rational multiple of a radical of R, for then 10 ^ k would be the square of a rational
number; so R - T, a sum of real radicals that does not cancel, is not 0, and by Baker's theorem R - T + Σ β ln α is not 0
either, with a lower bound that is effective and that 60 × 2 ^ 100000 digits pass. The fuel never ends (assumption 4). -/
def integratedNoise (b : JitterBand) (e : Nat → Int) (spurs : List Spur) : Int :=
  (settleRounding (noiseEnds b e spurs) firstDigits doublings).getD (noiseEnds b e spurs firstDigits).1

/-- An enclosure of the exact jitter in fs: σt² = A / (2 π² f0²) in s² (R116). -/
def jitterEnclosure (b : JitterBand) (e : Nat → Int) (spurs : List Spur) (f0 p : Nat) : Enclosure :=
  let a := integratedPower p b e spurs
  let pi := piEnclosure p
  let scale := 10 ^ (30 + 3 * p)
  ⟨Nat.sqrt (a.lo * scale / (2 * pi.hi ^ 2 * f0 ^ 2)), Nat.sqrt (a.hi * scale / (2 * pi.lo ^ 2 * f0 ^ 2)) + 1⟩

/-- The correctly rounded value and the whole femtoseconds of the difference R116 allows, 1 fs or 0.05 % of the exact value,
whichever is larger, at an exact value of x / 10 ^ p fs. -/
def jitterAllowed (p x : Nat) : Nat × Nat := ((2 * x + 10 ^ p) / (2 * 10 ^ p), max 1 (x / (2000 * 10 ^ p)))

/-- The allowed values at each end of an enclosure of the exact jitter. -/
def jitterEnds (b : JitterBand) (e : Nat → Int) (spurs : List Spur) (f0 p : Nat) : (Nat × Nat) × (Nat × Nat) :=
  let x := jitterEnclosure b e spurs f0 p
  (jitterAllowed p x.lo, jitterAllowed p x.hi)

/-- The least and the greatest whole-femtosecond value R116 allows. Were there an exact value that no number of digits decides,
they would be those allowed at both ends of the first enclosure (assumption 3). -/
def jitterRange (b : JitterBand) (e : Nat → Int) (spurs : List Spur) (f0 : Nat) : Nat × Nat :=
  match settleRounding (jitterEnds b e spurs f0) firstDigits doublings with
  | some (value, difference) => (value - difference, value + difference)
  | none =>
    let ends := jitterEnds b e spurs f0 firstDigits
    (ends.2.1 - ends.1.2, ends.1.1 + ends.1.2)

/-- The jitter value the lane computes: some whole femtosecond within the difference of R116, the same one for the same
operands (assumption 3). -/
def computedJitter (b : JitterBand) (e : Nat → Int) (spurs : List Spur) (f0 : Nat) : Nat :=
  let r := jitterRange b e spurs f0
  r.1 + Config.jitterPick ((pointsUsed b).map e) (spurPairs b spurs) b.fLo b.fHi f0 % (r.2 - r.1 + 1)

/-- The largest jitter value that can be reported (R117). -/
def jitterMax : Nat := 4294967295

/-- E of a point, 0 where it has no data. -/
def Point.effective : Point → Int
  | .noData => 0
  | .data _ _ e _ _ _ => e

/-- Whether a point has no data. -/
def Point.isNoData : Point → Bool
  | .noData => true
  | .data _ _ _ _ _ _ => false

/-- FL of a point. -/
def Point.floorLimited : Point → Bool
  | .noData => false
  | .data _ _ _ fl _ _ => fl

/-- The judgment of a jitter entry against its limit (R126). -/
def judgeJitter (limit : Nat) (value : Option Nat) (bound : Bool) : Criterion :=
  match value with
  | none => .inconclusive
  | some v => if v ≤ limit then .pass else if bound then .inconclusive else .fail

/-- The jitter entry of a jitter band (R111, R115 to R119). -/
def jitterEntry (x : Spectrum) (f0 : Nat) (b : JitterBand) : JitterEntry :=
  let used := (pointsUsed b).map x.point
  if used.any Point.isNoData then ⟨b, none, none, false, false, judgeJitter b.limit none false⟩
  else
    let e := fun i => (x.point i).effective
    let v := computedJitter b e x.spurs f0
    let bound := used.any Point.floorLimited
    let shown := min v jitterMax
    ⟨b, some shown, some (integratedNoise b e x.spurs), bound, decide (jitterMax < v), judgeJitter b.limit (some shown) bound⟩

/-- The jitter entries of a plan, in its order (R111). -/
def jitterEntries (plan : Plan) (x : Spectrum) (f0 : Nat) : List JitterEntry := plan.jitter.map (jitterEntry x f0)

end Sys2Proof.Machine
end

