-- ==== Sys2Proof/Machine/Criteria.lean ====
section
/-! DEFINITION. Mask limits (R51), the four criteria (R122 to R128), the verdict, the primary cause and the bin class
(R130, R131), and the terminal verdicts (R132). -/

namespace Sys2Proof.Machine

/-! ### Mask limits (R51) -/

/-- Whether the line between two vertices lies at or below −h / 2 at P_i, that is −V ≥ h / 2 with V the exact limit of R51.
With W = −V1, D = V1 − V2 and l = log g, 20 (l2 − l1) times −V − h / 2 is 2 D (10 + i) + 10 (2 W − h) (l2 − l1) − 20 D l1. -/
def lineAtMost (v1 v2 : Vertex) (i : Nat) (h : Int) : Bool :=
  let d := v1.limit - v2.limit
  let c0 := 2 * d * (10 + i)
  let c2 := 10 * (2 * -v1.limit - h)
  let c1 := -c2 - 20 * d
  let g : Int := max 1 (Int.gcd c0 (Int.gcd c1 c2))
  powersAtLeastOne (c0 / g) v1.offset (c1 / g) v2.offset (c2 / g)

/-- The limit of R51 between two vertices, rounded once with ties away from zero. Limits are negative (R48). -/
def lineLimit (v1 v2 : Vertex) (i : Nat) : Int :=
  -bisect (fun k => lineAtMost v1 v2 i (2 * k - 1)) 0 15

/-- The limit a vertex list sets at P_i: none for a point outside its closed range (R51). -/
def vertexLimit (i : Nat) : List Vertex → Option Int
  | v1 :: v2 :: rest =>
    if gridAtLeast i v1.offset && gridAtMost i v2.offset then some (lineLimit v1 v2 i) else vertexLimit i (v2 :: rest)
  | _ => none

/-! ### Criteria (R122 to R128) -/

/-- The combination of judged items (R122). -/
def combineItems (items : List Criterion) : Criterion :=
  if items = [] then .notApplied
  else if .fail ∈ items then .fail
  else if .inconclusive ∈ items then .inconclusive
  else .pass

/-- The FREQUENCY criterion (R123). A recount without an error does not reach a judgment (R70); it would be inconclusive
(assumption 21). -/
def frequencyCriterion (tolerance : Option Nat) (recount : Option CountRecord) : Criterion :=
  match tolerance, recount with
  | none, _ => .notApplied
  | some _, none => .inconclusive
  | some t, some r =>
    if r.tag = .unreferenced then .inconclusive
    else match r.error with
      | none => .inconclusive
      | some e => if e.natAbs ≤ t then .pass else .fail

/-- The judgment of a checked point against its limit (R124). -/
def judgePoint (limit : Int) : Point → Criterion
  | .noData => .inconclusive
  | .data _ _ e fl _ _ => if e ≤ limit then .pass else if fl then .inconclusive else .fail

/-- The grid indexes of a plan's selected bands (R82). -/
def selectedPoints (plan : Plan) : List Nat :=
  (List.range 61).filter fun i => decide (plan.startBand.val ≤ min (i / 10) 5) && decide (min (i / 10) 5 ≤ plan.stopBand.val)

/-- The judged points of a mask: each checked point with its judgment (R51, R124). -/
def maskItems (plan : Plan) (mask : Option (List Vertex)) (x : Spectrum) : List (Point × Criterion) :=
  match mask with
  | none => []
  | some vs =>
    (selectedPoints plan).filterMap fun i =>
      (vertexLimit i vs).map fun limit => (x.point i, judgePoint limit (x.point i))

/-- The mask tally (R125). -/
def maskTally (items : List (Point × Criterion)) : MaskTally where
  checked := items.length
  failed := items.countP fun t => t.2 == .fail
  inconclusive := items.countP fun t => t.2 == .inconclusive
  noData := items.countP fun t => t.1.isNoData

/-- The SPUR criterion (R128). -/
def spurCriterion (plan : Plan) (spurs : List Spur) (emptyBand : Bool) : Criterion :=
  match plan.spur with
  | none => .notApplied
  | some r =>
    if spurs.any fun s => decide (r.limit < s.level) then .fail else if emptyBand then .inconclusive else .pass

/-- The four criteria from one point computation (R122 to R129). -/
def decideCriteria (plan : Plan) (mask : Option (List Vertex)) (recount : Option CountRecord) (acq : Acquisition)
    (x : Spectrum) (entries : List JitterEntry) : Criteria :=
  let items := maskItems plan mask x
  { frequency := frequencyCriterion plan.tolerance recount
    mask := combineItems (items.map Prod.snd)
    jitter := combineItems (entries.map JitterEntry.outcome)
    spur := spurCriterion plan x.spurs (acq.bands.any fun b => b.accepted == 0)
    tally := maskTally items }

/-- The outcomes in the order of R131. -/
def Criteria.outcomes (c : Criteria) : List Criterion := [c.frequency, c.mask, c.jitter, c.spur]

/-- Whether the flags bar a PASS (R99, R130). -/
def JobFlags.barPass (f : JobFlags) : Bool := f.level || f.refLost

/-- The verdict of an evaluated job (R130). -/
def evaluatedVerdict (c : Criteria) (f : JobFlags) : Verdict :=
  if .fail ∈ c.outcomes then .fail
  else if .inconclusive ∈ c.outcomes ∨ f.barPass then .inconclusive
  else .pass

/-- The primary cause: the first criterion that is FAIL (R131). -/
def primaryCause (c : Criteria) : Option Cause :=
  if c.frequency = .fail then some .frequency
  else if c.mask = .fail then some .mask
  else if c.jitter = .fail then some .jitter
  else if c.spur = .fail then some .spur
  else none

/-- The bin class of a verdict and its primary cause (R52, R131, R132). -/
def binClassOf : Verdict → Option Cause → BinClass
  | .pass, _ => .pass
  | .fail, some .mask => .failMask
  | .fail, some .jitter => .failJitter
  | .fail, some .spur => .failSpur
  | .fail, _ => .failFrequency
  | .inconclusive, _ => .inconclusive
  | .noCarrier, _ => .noCarrier
  | .siteFault, _ => .siteFault
  | .aborted, _ => .aborted

/-- The index of a bin class in the bin map (R52). -/
def BinClass.index : BinClass → Fin 9
  | .pass => 0
  | .failFrequency => 1
  | .failMask => 2
  | .failJitter => 3
  | .failSpur => 4
  | .inconclusive => 5
  | .noCarrier => 6
  | .siteFault => 7
  | .aborted => 8

/-- The terminal verdict of an end reason that skips evaluation (R132). -/
def terminalVerdict : EndReason → Verdict
  | .noCarrier => .noCarrier
  | .siteFault => .siteFault
  | _ => .aborted

/-- What the early-stop test decides from the provisional criteria and the flags (R99, step 3). -/
def earlyStop (c : Criteria) (f : JobFlags) : Option EndReason :=
  if .fail ∈ c.outcomes then some .earlyFail
  else if .inconclusive ∉ c.outcomes ∧ ¬f.barPass then some .earlyPass
  else none

end Sys2Proof.Machine
end

