-- ==== Sys2Proof/Decode.lean ====
section
/-! DEFINITION. What stands on the line: byte orders (R185), the request payloads of R186 both ways, the check and the frame
(R170, R184), and the byte-level assembly of frames (R170). `decodeTableWord` answers none, since no row of
spec/opcode_table.json gives bits. -/

namespace Sys2Proof

/-- The command a word spells by the table's bits: no row of the table gives bits, so none. -/
def decodeTableWord (_nbits _w : Nat) : Option Instr := none

/-! ### Byte orders (R185: least significant byte first) -/

/-- A two-byte field from its bytes in the order sent. -/
def halfOf (b0 b1 : Byte) : Half := b1 ++ b0

/-- A four-byte field from its bytes in the order sent. -/
def wordOf (b0 b1 b2 b3 : Byte) : Word := b3 ++ b2 ++ b1 ++ b0

/-- The bytes of a two-byte field in the order sent. -/
def halfBytes (x : Half) : List Byte := [x.extractLsb' 0 8, x.extractLsb' 8 8]

/-- The bytes of a four-byte field in the order sent. -/
def wordBytes (x : Word) : List Byte :=
  [x.extractLsb' 0 8, x.extractLsb' 8 8, x.extractLsb' 16 8, x.extractLsb' 24 8]

/-- The byte at an offset of a payload. -/
def byteAt (p : List Byte) (i : Nat) : Byte := p.getD i 0

/-- The two-byte field at an offset of a payload. -/
def halfAt (p : List Byte) (i : Nat) : Half := halfOf (byteAt p i) (byteAt p (i + 1))

/-- The four-byte field at an offset of a payload. -/
def wordAt (p : List Byte) (i : Nat) : Word :=
  wordOf (byteAt p i) (byteAt p (i + 1)) (byteAt p (i + 2)) (byteAt p (i + 3))

/-! ### Request payloads (R186) -/

/-- The fixed payload length of a request kind; none for a kind that is not in the table of R186. -/
def payloadLength (kind : Byte) : Option Nat :=
  match kind.toNat with
  | 0x01 => some 0
  | 0x02 => some 0
  | 0x03 => some 1
  | 0x04 => some 1
  | 0x05 => some 0
  | 0x10 => some 15
  | 0x11 => some 2
  | 0x12 => some 1
  | 0x13 => some 1
  | 0x18 => some 3
  | 0x19 => some 0
  | 0x20 => some 98
  | 0x21 => some 1
  | 0x22 => some 1
  | 0x24 => some 98
  | 0x25 => some 1
  | 0x26 => some 1
  | 0x28 => some 9
  | 0x29 => some 0
  | 0x30 => some 4
  | 0x31 => some 2
  | 0x32 => some 3
  | 0x33 => some 1
  | 0x38 => some 3
  | 0x39 => some 4
  | 0x3A => some 1
  | 0x40 => some 0
  | 0x41 => some 3
  | 0x42 => some 2
  | 0x48 => some 6
  | 0x49 => some 1
  | 0x4A => some 1
  | 0x4B => some 0
  | 0x4C => some 1
  | _ => none

/-- SITE_SET's fields at their offsets (R186). -/
def siteSetFieldsOf (p : List Byte) : SiteSetFields where
  site := byteAt p 0
  carrier := wordAt p 1
  voltage := byteAt p 5
  current := byteAt p 6
  blanking := byteAt p 7
  deglitch := byteAt p 8
  warmUp := wordAt p 9
  retryLimit := byteAt p 13
  levelRange := byteAt p 14

/-- PLAN_PUT's fields at the offsets of its layout (R186). -/
def planFieldsOf (p : List Byte) : PlanFields where
  slot := byteAt p 0
  startBand := byteAt p 1
  stopBand := byteAt p 2
  bands := Vector.ofFn fun k : Fin 6 => ⟨halfAt p (3 + 4 * k.val), halfAt p (5 + 4 * k.val)⟩
  maxDuration := wordAt p 27
  earlyStop := byteAt p 31
  snapshot := halfAt p 32
  margin := halfAt p 34
  maskPresent := byteAt p 36
  mask := byteAt p 37
  jitterCount := byteAt p 38
  jitter := Vector.ofFn fun k : Fin 4 =>
    ⟨wordAt p (39 + 12 * k.val), wordAt p (43 + 12 * k.val), wordAt p (47 + 12 * k.val)⟩
  spurPresent := byteAt p 87
  spurThreshold := halfAt p 88
  spurLimit := halfAt p 90
  spurReport := byteAt p 92
  tolerancePresent := byteAt p 93
  tolerance := wordAt p 94

/-- MASK_PUT's fields (R186). -/
def maskFieldsOf (p : List Byte) : MaskFields where
  slot := byteAt p 0
  count := byteAt p 1
  vertices := Vector.ofFn fun k : Fin 16 => ⟨wordAt p (2 + 6 * k.val), halfAt p (6 + 6 * k.val)⟩

/-- CAL_START's fields (R186). -/
def calStartFieldsOf (p : List Byte) : CalStartFields where
  lane := byteAt p 0
  kind := byteAt p 1
  ranges := Vector.ofFn fun k : Fin 4 => byteAt p (2 + k.val)

/-- The request a payload of the kind's length spells; none for a kind outside R186. -/
def requestOf (kind : Byte) (p : List Byte) : Option Request :=
  match kind.toNat with
  | 0x01 => some .ident
  | 0x02 => some .status
  | 0x03 => some (.eventsMask (byteAt p 0))
  | 0x04 => some (.eventsClear (byteAt p 0))
  | 0x05 => some .reset
  | 0x10 => some (.siteSet (siteSetFieldsOf p))
  | 0x11 => some (.sitePower (byteAt p 0) (byteAt p 1))
  | 0x12 => some (.siteClear (byteAt p 0))
  | 0x13 => some (.siteRead (byteAt p 0))
  | 0x18 => some (.refSet (byteAt p 0) (byteAt p 1) (byteAt p 2))
  | 0x19 => some .refRead
  | 0x20 => some (.planPut (planFieldsOf p))
  | 0x21 => some (.planGet (byteAt p 0))
  | 0x22 => some (.planDrop (byteAt p 0))
  | 0x24 => some (.maskPut (maskFieldsOf p))
  | 0x25 => some (.maskGet (byteAt p 0))
  | 0x26 => some (.maskDrop (byteAt p 0))
  | 0x28 => some (.binmapPut (Vector.ofFn fun k : Fin 9 => byteAt p k.val))
  | 0x29 => some .binmapGet
  | 0x30 => some (.jobSubmit (byteAt p 0) (byteAt p 1) (byteAt p 2) (byteAt p 3))
  | 0x31 => some (.jobRead (halfAt p 0))
  | 0x32 => some (.jobAbort (byteAt p 0) (halfAt p 1))
  | 0x33 => some (.groupRelease (byteAt p 0))
  | 0x38 => some (.snapTake (byteAt p 0) (halfAt p 1))
  | 0x39 => some (.snapRead (byteAt p 0) (halfAt p 1) (byteAt p 3))
  | 0x3A => some (.snapHold (byteAt p 0))
  | 0x40 => some .resultList
  | 0x41 => some (.resultRead (halfAt p 0) (byteAt p 2))
  | 0x42 => some (.resultRelease (halfAt p 0))
  | 0x48 => some (.calStart (calStartFieldsOf p))
  | 0x49 => some (.calCancel (byteAt p 0))
  | 0x4A => some (.calRead (byteAt p 0))
  | 0x4B => some .calStore
  | 0x4C => some (.calRevert (byteAt p 0))
  | _ => none

/-- What the port finds in a frame it takes (R174): a request, an unknown kind, or a wrong payload length. -/
inductive Taken
  | request (r : Request)
  | unknown
  | malformed
  deriving DecidableEq, Repr

/-- Steps 1 and 2 of R174: the kind first, then the length. -/
def decodeFrame (f : Frame) : Taken :=
  match payloadLength f.kind with
  | none => .unknown
  | some n =>
    if f.payload.length = n then
      match requestOf f.kind f.payload with
      | some r => .request r
      | none => .unknown
    else .malformed

/-- The kind of a request (R186). -/
def Request.kind : Request → Byte
  | .ident => 0x01
  | .status => 0x02
  | .eventsMask _ => 0x03
  | .eventsClear _ => 0x04
  | .reset => 0x05
  | .siteSet _ => 0x10
  | .sitePower _ _ => 0x11
  | .siteClear _ => 0x12
  | .siteRead _ => 0x13
  | .refSet _ _ _ => 0x18
  | .refRead => 0x19
  | .planPut _ => 0x20
  | .planGet _ => 0x21
  | .planDrop _ => 0x22
  | .maskPut _ => 0x24
  | .maskGet _ => 0x25
  | .maskDrop _ => 0x26
  | .binmapPut _ => 0x28
  | .binmapGet => 0x29
  | .jobSubmit _ _ _ _ => 0x30
  | .jobRead _ => 0x31
  | .jobAbort _ _ => 0x32
  | .groupRelease _ => 0x33
  | .snapTake _ _ => 0x38
  | .snapRead _ _ _ => 0x39
  | .snapHold _ => 0x3A
  | .resultList => 0x40
  | .resultRead _ _ => 0x41
  | .resultRelease _ => 0x42
  | .calStart _ => 0x48
  | .calCancel _ => 0x49
  | .calRead _ => 0x4A
  | .calStore => 0x4B
  | .calRevert _ => 0x4C

/-- The bytes of SITE_SET's fields in payload order (R186). -/
def SiteSetFields.bytes (f : SiteSetFields) : List Byte :=
  [f.site] ++ wordBytes f.carrier ++ [f.voltage, f.current, f.blanking, f.deglitch] ++ wordBytes f.warmUp ++
    [f.retryLimit, f.levelRange]

/-- The bytes of the PLAN_PUT layout (R186). -/
def PlanFields.bytes (f : PlanFields) : List Byte :=
  [f.slot, f.startBand, f.stopBand] ++
    (f.bands.toList.map fun b => halfBytes b.target ++ halfBytes b.minimum).flatten ++ wordBytes f.maxDuration ++
    [f.earlyStop] ++ halfBytes f.snapshot ++ halfBytes f.margin ++ [f.maskPresent, f.mask, f.jitterCount] ++
    (f.jitter.toList.map fun b => wordBytes b.fLo ++ wordBytes b.fHi ++ wordBytes b.limit).flatten ++ [f.spurPresent] ++
    halfBytes f.spurThreshold ++ halfBytes f.spurLimit ++ [f.spurReport, f.tolerancePresent] ++ wordBytes f.tolerance

/-- The bytes of MASK_PUT's fields (R186). -/
def MaskFields.bytes (f : MaskFields) : List Byte :=
  [f.slot, f.count] ++ (f.vertices.toList.map fun v => wordBytes v.offset ++ halfBytes v.limit).flatten

/-- The payload of a request: its fields in the order of R186. -/
def Request.payload : Request → List Byte
  | .ident | .status | .reset | .refRead | .binmapGet | .resultList | .calStore => []
  | .eventsMask m => [m]
  | .eventsClear k => [k]
  | .siteSet f => f.bytes
  | .sitePower s c => [s, c]
  | .siteClear s => [s]
  | .siteRead s => [s]
  | .refSet m f w => [m, f, w]
  | .planPut f => f.bytes
  | .planGet s => [s]
  | .planDrop s => [s]
  | .maskPut f => f.bytes
  | .maskGet s => [s]
  | .maskDrop s => [s]
  | .binmapPut b => b.toList
  | .jobSubmit s p g u => [s, p, g, u]
  | .jobRead j => halfBytes j
  | .jobAbort s v => [s] ++ halfBytes v
  | .groupRelease g => [g]
  | .snapTake l j => [l] ++ halfBytes j
  | .snapRead l j b => [l] ++ halfBytes j ++ [b]
  | .snapHold c => [c]
  | .resultRead j p => halfBytes j ++ [p]
  | .resultRelease j => halfBytes j
  | .calStart f => [f.lane, f.kind] ++ f.ranges.toList
  | .calCancel l => [l]
  | .calRead l => [l]
  | .calRevert s => [s]

/-- The frame that carries a request with a tag (R184). -/
def Request.frame (r : Request) (tag : Byte) : Frame := ⟨r.kind, tag, r.payload⟩

/-- The kind of the reply to a request kind: the kind plus 0x80, and 0xFF from 0x7F upward (R174). -/
def replyKind (kind : Byte) : Byte := if 0x7F ≤ kind.toNat then 0xFF else kind + 0x80

/-! ### The frame and its check (R170, R184) -/

/-- One bit of the CRC: polynomial 0x1021, most significant bit first (R170). -/
def crcShift (c : BitVec 16) : BitVec 16 := if c.msb then (c <<< 1) ^^^ 0x1021 else c <<< 1

/-- One byte of the CRC (R170). -/
def crcByte (c : BitVec 16) (b : Byte) : BitVec 16 := Nat.repeat crcShift 8 (c ^^^ (b.zeroExtend 16 <<< 8))

/-- The CRC-16 of R170 with initial value 0xFFFF, no reflection and no final inversion. -/
def crc16 (bs : List Byte) : BitVec 16 := bs.foldl crcByte 0xFFFF

/-- What the check covers: length, kind, tag and payload (R184). -/
def Frame.covered (f : Frame) : List Byte := BitVec.ofNat 8 f.payload.length :: f.kind :: f.tag :: f.payload

/-- The check's two bytes, high byte first (R184). -/
def checkBytes (bs : List Byte) : List Byte := [(crc16 bs).extractLsb' 8 8, (crc16 bs).extractLsb' 0 8]

/-- A frame on the line: sync, what the check covers, and the check (R184). -/
def Frame.bytes (f : Frame) : List Byte := 0xB6 :: (f.covered ++ checkBytes f.covered)

/-- What a decoder meets on the line: a byte, a byte with a framing error, or the end of 2 ms without a byte (R169, R170). -/
inductive LineEvent
  | byte (b : Byte)
  | framingError
  | gap
  deriving DecidableEq, Repr

/-- The ten bits of a byte on the line, in the order sent (R169): the start bit, low; eight data bits, the least significant
first; the stop bit, high. -/
def byteBits (b : Byte) : List Bool := [false] ++ ((List.range 8).map fun k => b.getLsbD k) ++ [true]

/-- The number whose binary digits are some bits, the least significant first. -/
def numberOfBits : List Bool → Nat
  | [] => 0
  | b :: bs => (if b then 1 else 0) + 2 * numberOfBits bs

/-- What a decoder finds in ten bits from a start bit on (R169): the byte of the eight data bits, with a framing error where the
stop bit is low; nothing where they are not ten bits that begin with a start bit. -/
def receiveBits : List Bool → Option LineEvent
  | [false, d0, d1, d2, d3, d4, d5, d6, d7, stop] =>
    some (if stop then .byte (BitVec.ofNat 8 (numberOfBits [d0, d1, d2, d3, d4, d5, d6, d7])) else .framingError)
  | _ => none

/-- The bits per second of a rate (R169). -/
def Rate.bitsPerSecond : Rate → Nat
  | .r115200 => 115200
  | .r460800 => 460800
  | .r921600 => 921600
  | .r3000000 => 3000000

/-- A frame on the line, bit by bit, least significant bit of each byte first (R169, R184). -/
def Frame.bits (f : Frame) : List Bool := (f.bytes.map byteBits).flatten

/-- A decoder of R170 (assumption 9): hunting, or assembling a frame from the bytes after its sync, oldest first. -/
inductive Decoder
  | hunting
  | assembling (got : List Byte)
  deriving DecidableEq, Repr

/-- What a decoder passes to the port (R170). -/
inductive Completion
  | nothing
  | good (f : Frame)
  | bad (cause : BadCause)
  | gapBroken
  deriving DecidableEq, Repr

/-- Step 5 of R170: the complete frame's check against the computed one. -/
def checkFrame (got : List Byte) : Completion :=
  match got with
  | len :: kind :: tag :: rest =>
    if rest.drop len.toNat = checkBytes (len :: kind :: tag :: rest.take len.toNat) then
      .good ⟨kind, tag, rest.take len.toNat⟩
    else .bad .checkMismatch
  | _ => .nothing

/-- Steps 1 to 5 of R170 for one event on the line. -/
def Decoder.feed (d : Decoder) (e : LineEvent) : Decoder × Completion :=
  match d, e with
  | .hunting, .byte b => if b = 0xB6 then (.assembling [], .nothing) else (.hunting, .nothing)
  | .hunting, .framingError => (.hunting, .bad .framingError)
  | .hunting, .gap => (.hunting, .nothing)
  | .assembling _, .framingError => (.hunting, .bad .framingError)
  | .assembling _, .gap => (.hunting, .gapBroken)
  | .assembling got, .byte b =>
    let got := got ++ [b]
    let len := (byteAt got 0).toNat
    if 250 < len then (.hunting, .bad .lengthAbove250)
    else if got.length = len + 5 then (.hunting, checkFrame got)
    else (.assembling got, .nothing)

/-- A decoder over a run of bytes: where it stands, and what it passed to the port, oldest first. -/
def Decoder.run (d : Decoder) : List Byte → Decoder × List Completion
  | [] => (d, [])
  | b :: bs =>
    let (d', c) := d.feed (.byte b)
    let (d'', cs) := Decoder.run d' bs
    (d'', if c = .nothing then cs else c :: cs)

/-- A decoder over bits that stand on the line without a pause, ten to a byte, for a number of bytes (R169, R170). -/
def Decoder.runBits (d : Decoder) (bits : List Bool) : Nat → Decoder × List Completion
  | 0 => (d, [])
  | bytes + 1 =>
    match receiveBits (bits.take 10) with
    | none => (d, [])
    | some e =>
      let (d', c) := d.feed e
      let (d'', cs) := Decoder.runBits d' (bits.drop 10) bytes
      (d'', if c = .nothing then cs else c :: cs)

end Sys2Proof
end

