-- ==== Sys2Proof/Machine/Flags.lean ====
section
/-! DEFINITION. The event kinds and their raising (R177), the job flags (R33, R78, R85), and the one-byte flag sets of
R185. -/

namespace Sys2Proof.Machine

/-- The eight event kinds (R177). -/
inductive EventKind
  | result | snapshot | siteReady | siteAlert | reference | calEnd | laneAlert | stalled
  deriving DecidableEq, Repr

/-- The bit of a kind in an event set (R185). -/
def EventKind.bit : EventKind → Byte
  | .result => 0x01
  | .snapshot => 0x02
  | .siteReady => 0x04
  | .siteAlert => 0x08
  | .reference => 0x10
  | .calEnd => 0x20
  | .laneAlert => 0x40
  | .stalled => 0x80

/-- Whether the port is LOCKED (R168). -/
def Port.isLocked (p : Port) : Bool :=
  match p.link with
  | .search => false
  | .locked _ => true

/-- A kind raised (R177): nothing while it is pending; else it is added, and notice due is set if the kind is in the mask
and the port is LOCKED. -/
def State.raise (s : State) (k : EventKind) : State :=
  if s.events.pending &&& k.bit ≠ 0 then s
  else
    { s with
      events := { s.events with pending := s.events.pending ||| k.bit }
      port := { s.port with noticeDue := s.port.noticeDue || (decide (s.events.mask &&& k.bit ≠ 0) && s.port.isLocked) } }

/-- No job flag set (R58). -/
def JobFlags.clear : JobFlags := ⟨false, false, false, false, false⟩

/-- One bit of a flag byte. -/
def flagBit (b : Bool) (i : Nat) : Byte := if b then BitVec.ofNat 8 (2 ^ i) else 0

/-- The job flags as one byte (R185). -/
def JobFlags.byte (f : JobFlags) : Byte :=
  flagBit f.level 0 ||| flagBit f.refHoldover 1 ||| flagBit f.refLost 2 ||| flagBit f.calQuick 3 ||| flagBit f.calDefault 4

/-- The point flags as one byte (R185). -/
def Point.flagByte : Point → Byte
  | .noData => flagBit true 3
  | .data _ _ _ fl sp cl => flagBit fl 0 ||| flagBit sp 1 ||| flagBit cl 2

/-- The jitter flags as one byte (R185). -/
def JitterEntry.flagByte (e : JitterEntry) : Byte :=
  flagBit e.value.isNone 0 ||| flagBit e.bound 1 ||| flagBit e.sat 2

end Sys2Proof.Machine
end

