-- ==== Sys2Proof/Machine/Operands.lean ====
section
/-! DEFINITION. The codes of R3, R26 and R185 between the bytes of a message and the model's values, the field encodings of
R185, and the reply a block forms. -/

namespace Sys2Proof.Machine

/-! ### Codes read from requests -/

/-- A number below n from a byte; none outside (a site, a lane, a slot, a code). -/
def codeBelow (n : Nat) (b : Byte) : Option (Fin n) := if h : b.toNat < n then some ⟨b.toNat, h⟩ else none

/-- A band number 1 to 6 from a byte (R40, R144). -/
def bandOf (b : Byte) : Option BandId := if b = 0 then none else codeBelow 6 (b - 1)

/-- A code 0 or 1 (R40, R141). -/
def boolCode (b : Byte) : Option Bool := if b = 0 then some false else if b = 1 then some true else none

/-- The mode code of REF_SET (R26). -/
def modeOf (b : Byte) : Option RefMode := if b = 0 then some .internal else if b = 1 then some .external else none

/-- The external frequency code of REF_SET (R26). -/
def frequencyOf (b : Byte) : Option RefFreq := if b = 0 then some .mhz10 else if b = 1 then some .mhz100 else none

/-- The window code of REF_SET (R26). -/
def windowOf (b : Byte) : Option RefWindow :=
  if b = 0 then some .s1 else if b = 1 then some .s4 else if b = 2 then some .s16 else none

/-- The priority code of JOB_SUBMIT (R57). -/
def priorityOf (b : Byte) : Option Priority := if b = 0 then some .normal else if b = 1 then some .urgent else none

/-- The kind code of CAL_START (R159). -/
def calKindOf (b : Byte) : Option CalKind := if b = 0 then some .full else if b = 1 then some .quick else none

/-- The part named by RESULT_READ (R151). -/
inductive ResultPart
  | summary | jitter | spurs
  | band (b : BandId)
  deriving DecidableEq, Repr

/-- The result part codes (R185). -/
def resultPartOf (b : Byte) : Option ResultPart :=
  if b = 0 then some .summary
  else if b = 1 then some .jitter
  else if b = 2 then some .spurs
  else (codeBelow 6 (b - 3)).map .band

/-! ### Physical values of site codes (R3) -/

/-- The supply voltage of a code, in 0.1 V (R3). -/
def supplyVoltage (c : Fin 4) : Nat := #[18, 25, 33, 50][c]

/-- The current limit of a code, in mA (R3). -/
def currentLimitMa (c : Fin 4) : Nat := #[25, 50, 100, 200][c]

/-- The blanking time of a code, in ms (R3). -/
def blankingMs (c : Fin 4) : Nat := #[1, 5, 20, 50][c]

/-- The deglitch time of a code, in µs (R3). -/
def deglitchUs (c : Fin 2) : Nat := #[20, 200][c]

/-- The window minimum of a level range code, in 0.1 dBm (R3, section 1.5). -/
def windowMin (c : Fin 3) : Int := #[-200, -100, 0][c]

/-- The window maximum of a level range code, in 0.1 dBm (R3, section 1.5). -/
def windowMax (c : Fin 3) : Int := #[-50, 50, 150][c]

/-- The presence threshold: 10.0 dB below the window minimum (R17). -/
def presenceThreshold (c : Fin 3) : Int := windowMin c - 100

/-- The class of a level in 0.1 dBm (R19). -/
def classify (c : Fin 3) (level : Rat) : LevelClass :=
  if level < presenceThreshold c then .absent
  else if level < windowMin c then .low
  else if level ≤ windowMax c then .within
  else .high

/-- The level flag of a class; ABSENT has none (R17, R20). -/
def LevelClass.flag : LevelClass → Option LevelFlag
  | .absent => none
  | .low => some .low
  | .within => some .within
  | .high => some .high

/-! ### Codes sent in replies (R185) -/

/-- Site state codes (R185). -/
def SiteState.code : SiteState → Byte
  | .off => 0
  | .ramp => 1
  | .warming => 2
  | .checking => 3
  | .ready => 4
  | .measuring => 5
  | .noCarrier => 6
  | .retryWait => 7
  | .faultLatched => 8

/-- Level flag codes (R185). -/
def LevelFlag.code : LevelFlag → Byte
  | .within => 0
  | .low => 1
  | .high => 2

/-- Job state codes (R185). -/
def JobState.code : JobState → Byte
  | .held => 0
  | .queued => 1
  | .tuning => 2
  | .gangWait => 3
  | .acquiring => 4
  | .evaluating => 5
  | .done => 6

/-- Priority codes (R185). -/
def Priority.code : Priority → Byte
  | .normal => 0
  | .urgent => 1

/-- Lane state codes (R185). -/
def LaneState.code : LaneState → Byte
  | .idle => 0
  | .reserved => 1
  | .tuning => 2
  | .gangWait => 3
  | .acquiring => 4
  | .evaluating => 5
  | .calibrating => 6
  | .outOfService => 7

/-- Reference mode codes (R185). -/
def RefMode.code : RefMode → Byte
  | .internal => 0
  | .external => 1

/-- External frequency codes (R26). -/
def RefFreq.code : RefFreq → Byte
  | .mhz10 => 0
  | .mhz100 => 1

/-- Window codes (R26). -/
def RefWindow.code : RefWindow → Byte
  | .s1 => 0
  | .s4 => 1
  | .s16 => 2

/-- Discipline state codes (R185). -/
def Discipline.code : Discipline → Byte
  | .free => 0
  | .acquiring => 1
  | .locked => 2
  | .holdover => 3

/-- Count tag codes (R185). -/
def CountTag.code : CountTag → Byte
  | .internal => 0
  | .referenced => 1
  | .unreferenced => 2

/-- Coefficient tag codes (R185). -/
def CoefTag.code : CoefTag → Byte
  | .default => 0
  | .full => 1
  | .quick => 2

/-- Verdict codes (R185). -/
def Verdict.code : Verdict → Byte
  | .pass => 0
  | .fail => 1
  | .inconclusive => 2
  | .noCarrier => 3
  | .siteFault => 4
  | .aborted => 5

/-- End reason codes (R185). -/
def EndReason.code : EndReason → Byte
  | .complete => 0
  | .earlyPass => 1
  | .earlyFail => 2
  | .timeout => 3
  | .hostAbort => 4
  | .siteOff => 5
  | .noLane => 6
  | .laneTune => 7
  | .siteFault => 8
  | .noCarrier => 9

/-- Bin class codes: the class index of R52 (R185). -/
def BinClass.code : BinClass → Byte
  | .pass => 0
  | .failFrequency => 1
  | .failMask => 2
  | .failJitter => 3
  | .failSpur => 4
  | .inconclusive => 5
  | .noCarrier => 6
  | .siteFault => 7
  | .aborted => 8

/-- Primary cause codes (R185). -/
def Cause.code : Cause → Byte
  | .frequency => 0
  | .mask => 1
  | .jitter => 2
  | .spur => 3

/-- Criterion outcome codes (R185). -/
def Criterion.code : Criterion → Byte
  | .notApplied => 0
  | .pass => 1
  | .fail => 2
  | .inconclusive => 3

/-- Calibration record status codes (R185). -/
def CalStatus.code : CalStatus → Byte
  | .none => 0
  | .pending => 1
  | .running => 2
  | .done => 3
  | .bad => 4
  | .cancelled => 5

/-- Calibration kind codes (R159). -/
def CalKind.code : CalKind → Byte
  | .full => 0
  | .quick => 1

/-- Calibration step result codes (R185). -/
def StepResult.code : StepResult → Byte
  | .notRun => 0
  | .good => 1
  | .limit => 2
  | .noLock => 3

/-- Link rate codes (R185). -/
def Rate.code : Rate → Byte
  | .r115200 => 0
  | .r460800 => 1
  | .r921600 => 2
  | .r3000000 => 3

/-- The identifiers of a clamp report (R175, R185). -/
inductive ClampId
  | warmUp | retryLimit
  | target (b : BandId)
  | minimum (b : BandId)
  | maxDuration | snapshotInterval | floorMargin | spurThreshold | spurLimit | spurReport | freqTolerance
  deriving DecidableEq, Repr

/-- Clamp identifier codes (R185). -/
def ClampId.code : ClampId → Byte
  | .warmUp => 0x01
  | .retryLimit => 0x02
  | .target b => 0x10 + BitVec.ofNat 8 b.val
  | .minimum b => 0x18 + BitVec.ofNat 8 b.val
  | .maxDuration => 0x20
  | .snapshotInterval => 0x21
  | .floorMargin => 0x22
  | .spurThreshold => 0x23
  | .spurLimit => 0x24
  | .spurReport => 0x25
  | .freqTolerance => 0x26

/-! ### Field encodings (R185) -/

/-- Fields of a reply: a byte, or none where the manual leaves the content undefined. -/
abbrev Fields := List (Option Byte)

/-- One byte. -/
def one (b : Byte) : Fields := [some b]

/-- One byte from a number. -/
def u8 (n : Nat) : Fields := [some (BitVec.ofNat 8 n)]

/-- One byte from a yes or no. -/
def flag (b : Bool) : Fields := one (if b then 1 else 0)

/-- An unsigned two-byte field. -/
def u16 (n : Nat) : Fields := (halfBytes (BitVec.ofNat 16 n)).map some

/-- An unsigned four-byte field. -/
def u32 (n : Nat) : Fields := (wordBytes (BitVec.ofNat 32 n)).map some

/-- A four-byte field from a word. -/
def word32 (w : Word) : Fields := (wordBytes w).map some

/-- A signed two-byte field, two's complement. -/
def s16 (x : Int) : Fields := (halfBytes (BitVec.ofInt 16 x)).map some

/-- A signed four-byte field, two's complement. -/
def s32 (x : Int) : Fields := (wordBytes (BitVec.ofInt 32 x)).map some

/-- Bytes of undefined content. -/
def undefinedBytes (n : Nat) : Fields := List.replicate n none

/-- An optional field of n bytes: a presence flag, then the field or undefined content (R185). -/
def optField {α : Type} (n : Nat) (f : α → Fields) : Option α → Fields
  | none => flag false ++ undefinedBytes n
  | some x => flag true ++ f x

/-- A field of n bytes with no presence flag of its own: undefined content where it is absent (R187). -/
def orUndefined {α : Type} (n : Nat) (f : α → Fields) : Option α → Fields
  | none => undefinedBytes n
  | some x => f x

/-- A clamp report: a count, then the identifiers in ascending order of their codes (R175, R187). -/
def clampReport (ids : List ClampId) : Fields := u8 ids.length ++ ids.map fun i => some i.code

/-! ### Replies -/

/-- The reply status codes (R174, R185). -/
inductive Status
  | ok | malformed | unknown | outOfRange | noSuch | inUse | full | wrongState
  deriving DecidableEq, Repr

/-- Status codes (R185). -/
def Status.code : Status → Byte
  | .ok => 0
  | .malformed => 1
  | .unknown => 2
  | .outOfRange => 3
  | .noSuch => 4
  | .inUse => 5
  | .full => 6
  | .wrongState => 7

/-- What a block answers: a status, and after OK the fields the request's rule names (R174). -/
structure Reply where
  status : Status
  fields : Fields
  deriving DecidableEq, Repr

/-- A refusal: the status alone (R174). -/
def Reply.refuse (st : Status) : Reply := ⟨st, []⟩

/-- OK with fields (R187). -/
def Reply.ok (fields : Fields) : Reply := ⟨.ok, fields⟩

/-- The payload of the n-th reply: the status byte, then the fields, with free bytes where the content is undefined. -/
def Reply.payload (r : Reply) (n : Nat) : List Byte :=
  (one r.status.code ++ r.fields).zipIdx.map fun x => x.1.getD (Config.freeByte n x.2)

/-- A refused request: nothing changes, and the reply is the status alone (R174). -/
def refuseWith (st : Status) (s : State) : State × Reply := (s, Reply.refuse st)

/-- A carried-out request whose reply is the status byte alone (R187). -/
def accept (s : State) : State × Reply := (s, Reply.ok [])

end Sys2Proof.Machine
end

