-- ==== Sys2Proof/Machine/Ops.lean ====
section
/-! DEFINITION. The named operations over the part's records: sites, lanes, jobs, segments, counts. -/

namespace Sys2Proof.Machine

/-! ### Records -/

/-- The uptime at the event (R35). -/
def State.now (s : State) : Word := s.timebase.uptime

/-- The record of a site. -/
def State.site (s : State) (i : SiteId) : Site := s.sites[i]

/-- A site's record replaced. -/
def State.setSite (s : State) (i : SiteId) (x : Site) : State := { s with sites := s.sites.set i x }

/-- The record of a lane. -/
def State.lane (s : State) (l : LaneId) : Lane := s.lanes[l]

/-- A lane's record replaced. -/
def State.setLane (s : State) (l : LaneId) (x : Lane) : State := { s with lanes := s.lanes.set l x }

/-- The record with a job id (R55). -/
def State.job? (s : State) (id : Nat) : Option Job := s.jobs.find? fun j => j.id == id

/-- A job record changed. -/
def State.updateJob (s : State) (id : Nat) (f : Job → Job) : State :=
  { s with jobs := s.jobs.map fun j => if j.id = id then f j else j }

/-- The job a lane serves (R62). -/
def State.laneJob? (s : State) (l : LaneId) : Option Job := (s.lane l).job.bind s.job?

/-- The job a lane serves, if it is at a stage. A lane and its job are at one stage (R55, R62;
assumption 28). -/
def State.jobOn (s : State) (l : LaneId) (st : JobState) : Option Job := (s.laneJob? l).filter fun j => j.state == st

/-- The calibration record of a lane (R158). -/
def State.calRecord (s : State) (l : LaneId) : CalRecord := s.cal.records[l]

/-- A lane's calibration record replaced. -/
def State.setCalRecord (s : State) (l : LaneId) (r : CalRecord) : State :=
  { s with cal := { s.cal with records := s.cal.records.set l r } }

/-- The arbiter will reconsider after this event's own effects (R65). -/
def State.callArbiter (s : State) : State := { s with reconsider := true }

/-- The free segments of the pool replaced (R135). -/
def State.setFree (s : State) (n : Nat) : State := { s with freeSegments := n }

/-- An id appended to the result list (R149); the close of the event puts what it appended in order. -/
def State.addResult (s : State) (id : Nat) : State := { s with results := s.results ++ [id] }

/-- The identity of the head replaced (R65). -/
def State.setHead (s : State) (h : Option (List Nat)) : State := { s with head := h }

/-- The reconsideration an event called for has been made (R65). -/
def State.reconsidered (s : State) : State := { s with reconsider := false }

/-- The arbiter will reconsider if a condition holds. -/
def State.callArbiterIf (s : State) (b : Bool) : State := if b then s.callArbiter else s

/-! ### Plans (R38, R47, R49) -/

/-- A plan with nothing in it, for a job whose slot is EMPTY; no run meets one (R47; assumption 21). -/
def Plan.blank : Plan where
  startBand := 0
  stopBand := 0
  bands := Vector.replicate 6 ⟨0, 0⟩
  maxDuration := 0
  earlyStop := false
  snapshot := 0
  margin := 0
  mask := none
  jitter := []
  spur := none
  tolerance := none

/-- The plan of a job, read through its slot (R47). -/
def State.planOf (s : State) (j : Job) : Plan := s.plans[j.plan].getD Plan.blank

/-- The number of selected bands nb (R38). -/
def Plan.bandCount (p : Plan) : Nat := p.stopBand.val - p.startBand.val + 1

/-- Whether a band is selected (R38). -/
def Plan.selects (p : Plan) (b : BandId) : Bool := decide (p.startBand ≤ b) && decide (b ≤ p.stopBand)

/-- The selected bands in ascending order (R38). -/
def Plan.selected (p : Plan) : List BandId := (List.finRange 6).filter p.selects

/-- The segments a job on the plan needs (R38). -/
def Plan.segments (p : Plan) : Nat := p.bandCount * (if 0 < p.snapshot then 3 else 1)

/-- The use count of a plan slot: the jobs that name it and are not DONE (R47). -/
def State.useCount (s : State) (p : PlanId) : Nat := s.jobs.countP fun j => j.plan == p && j.state != .done

/-- Whether a LOADED plan slot names the mask (R49). -/
def State.maskReferenced (s : State) (m : MaskId) : Bool :=
  (List.finRange 32).any fun p => (s.plans[p]).any fun x => x.mask == some m

/-- Whether a plan slot with a use count above 0 names the mask (R49). -/
def State.maskBusy (s : State) (m : MaskId) : Bool :=
  (List.finRange 32).any fun p => ((s.plans[p]).any fun x => x.mask == some m) && decide (0 < s.useCount p)

/-- The vertices the plan's mask slot holds (R51). -/
def State.maskOf (s : State) (p : Plan) : Option (List Vertex) := p.mask.bind fun m => s.masks[m]

/-! ### Segments (R135, R139) -/

/-- The segments a buffer set holds (R137, R139). -/
def BufferSet.size (b : BufferSet) : Nat := b.bands * (if b.roles then 3 else 1)

/-- A buffer set at its allocation (R137, R139). -/
def BufferSet.fresh (p : Plan) : BufferSet := ⟨p.bandCount, decide (0 < p.snapshot), none, none, none, 0⟩

/-- The segments a job's buffer set holds. -/
def Job.bufferSize (j : Job) : Nat := (j.buffer.map BufferSet.size).getD 0

/-- The segments a job's spectrum holds. -/
def Job.spectrumSize (j : Job) : Nat := ((j.result.bind Result.spectrum).map List.length).getD 0

/-- A job's whole buffer set returned to the pool, which makes the arbiter reconsider (R138). -/
def State.returnBuffer (s : State) (j : Job) : State :=
  ((s.setFree (s.freeSegments + j.bufferSize)).updateJob j.id fun j => { j with buffer := none }).callArbiterIf
    j.buffer.isSome

/-! ### Jobs: age, groups, gangs (R56, R60, R61) -/

/-- How far a job's submit sequence lies behind the next-sequence value, modulo 2 ^ 32 (R56). -/
def State.age (s : State) (j : Job) : Nat := (s.nextSeq + 2 ^ 32 - j.seq) % 2 ^ 32

/-- A job placed in a list ordered oldest first. -/
def State.insertByAge (s : State) (j : Job) : List Job → List Job
  | [] => [j]
  | k :: ks => if s.age k ≤ s.age j then j :: k :: ks else k :: s.insertByAge j ks

/-- Jobs ordered oldest first (R149). -/
def State.oldestFirst (s : State) (js : List Job) : List Job := js.foldr s.insertByAge []

/-- The age of the job with an id (R56). -/
def State.idAge (s : State) (id : Nat) : Nat := ((s.job? id).map s.age).getD 0

/-- An id placed in a list of ids ordered by age, oldest first. -/
def State.insertId (s : State) (id : Nat) : List Nat → List Nat
  | [] => [id]
  | k :: ks => if s.idAge k ≤ s.idAge id then id :: k :: ks else k :: s.insertId id ks

/-- Ids in the order of submit sequence, oldest first (R149). -/
def State.idsOldestFirst (s : State) (ids : List Nat) : List Nat := ids.foldr s.insertId []

/-- The order of the result list after an event that found it as `before` (R149): the ids that stood keep their order, and the
ids that the event appended follow in order of submit sequence. -/
def State.orderEnds (s : State) (before : List Nat) : State :=
  { s with results := (s.results.filter fun id => before.contains id) ++
      s.idsOldestFirst (s.results.filter fun id => !before.contains id) }

/-- Whether a job runs: TUNING, GANG_WAIT or ACQUIRING (R33, section 4.7). -/
def JobState.running : JobState → Bool
  | .tuning | .gangWait | .acquiring => true
  | .held | .queued | .evaluating | .done => false

/-- Whether a job waits: HELD or QUEUED (section 4.7). -/
def JobState.waiting : JobState → Bool
  | .held | .queued => true
  | .tuning | .gangWait | .acquiring | .evaluating | .done => false

/-- The held set of a group (R60). -/
def State.heldSet (s : State) (g : Fin 16) : List Job := s.jobs.filter fun j => j.state == .held && j.group == g

/-- An ended job leaves its gang (R61): its id leaves the other members' gang fields, and its own becomes absent. -/
def State.leaveGang (s : State) (id : Nat) : State :=
  { s with jobs := s.jobs.map fun j => if j.id = id then { j with gang := none } else
      { j with gang := j.gang.map fun g => g.filter (· != id) } }

/-- The remaining members of a job's gang, itself included. -/
def State.gangOf (s : State) (j : Job) : List Job :=
  match j.gang with
  | none => []
  | some ids => s.jobs.filter fun k => ids.contains k.id

/-! ### Counts (R18, R34) -/

/-- The tag of a count whose gate ends now (R34). -/
def Timebase.countTag (t : Timebase) : CountTag :=
  match t.mode, t.discipline with
  | .internal, _ => .internal
  | .external, .locked | .external, .holdover => .referenced
  | .external, .free | .external, .acquiring => .unreferenced

/-- The start condition (R32). -/
def Timebase.startCondition (t : Timebase) : Bool :=
  match t.mode with
  | .internal => true
  | .external => t.discipline == .locked

/-- The frequency error of a count in ppb (R18): absent when no cycle was counted or its magnitude exceeds 500,000 ppb before
rounding; else rounded to the nearest multiple of 10 ppb, ties away from zero. -/
def frequencyError (nominal : Nat) (frequency : Option Rat) : Option Int :=
  frequency.bind fun f =>
    let e : Rat := (f / (nominal : Rat) - 1) * 1000000000
    let span : Rat := (Config.errorSpanPpb : Int)
    if e < -span ∨ span < e then none else some (10 * roundRat (e / 10))

/-- The record of a count whose gate ends now at a site (R18). -/
def State.countAt (s : State) (i : SiteId) (frequency : Option Rat) : CountRecord :=
  ⟨s.now, s.timebase.countTag, frequencyError (s.site i).applied.supply.carrier frequency⟩

/-- The presence decision of a gate (R17): mean level in dBm at or above the presence threshold, and the error present. -/
def carrierPresent (x : Site) (count : CountRecord) (level : Rat) : Bool :=
  decide ((presenceThreshold x.applied.levelRange : Rat) ≤ 10 * level) && count.error.isSome

end Sys2Proof.Machine
end

