-- ==== Sys2Proof/Machine/SiteOps.lean ====
section
/-! DEFINITION. The site state machine's shared operations (chapter 1): entries of a site to its states, the supply, and the
site events a change raises. -/

namespace Sys2Proof.Machine

/-- Whether a state's supply output is on (R7). -/
def SiteState.supplied : SiteState → Bool
  | .ramp | .warming | .checking | .ready | .measuring | .noCarrier => true
  | .off | .retryWait | .faultLatched => false

/-- The states in which an overcurrent event is taken (R13). -/
def SiteState.monitored : SiteState → Bool
  | .warming | .checking | .ready | .measuring | .noCarrier => true
  | .off | .ramp | .retryWait | .faultLatched => false

/-- A site entering an unsupplied state (R7): the monitor is disarmed, any interval, timer or gate stops, and the level
reading, the level flag and the settled class go. The last count is kept. -/
def Site.switchOff (x : Site) (st : SiteState) (now : Word) : Site :=
  { x with
    state := st
    entered := now
    timer := .stopped
    monitor := CurrentMonitor.idle
    levelReading := none
    levelFlag := none
    settled := none
    qualifying := none }

/-- Entry to RAMP (R11): the staged configuration is applied and removed, the supply goes on, and the blanking timer starts
with the current monitor disarmed. -/
def Site.enterRamp (x : Site) (now : Word) : Site :=
  { x with
    applied := { x.applied with supply := x.staged.getD x.applied.supply }
    staged := none
    state := .ramp
    entered := now
    timer := .blanking
    monitor := CurrentMonitor.idle }

/-- Entry to CHECKING with its count gate (R16, R17). -/
def Site.enterChecking (x : Site) (now : Word) : Site :=
  { x with state := .checking, entered := now, timer := .checkGate }

/-- Entry to WARMING at blanking expiry (R11, R16): the monitor is armed, with a deglitch interval if the current already
stands above the limit (R12). A warm-up of 0 expires at the entry. -/
def Site.enterWarming (x : Site) (now : Word) : Site :=
  let y := { x with
    state := .warming
    entered := now
    timer := .warmUp 0
    monitor := ⟨true, x.monitor.above, x.monitor.above⟩ }
  if x.applied.warmUp = 0 then y.enterChecking now else y

/-- Entry to READY after a gate that found the carrier (R17, R22): the fault count is 0, and the settled class and the level
flag are those of the gate's mean level. No reading before the entry counts as the first of two (assumption 34). -/
def Site.enterReady (x : Site) (now : Word) (level : LevelClass) : Site :=
  { x with
    state := .ready
    entered := now
    timer := .stopped
    faultCount := 0
    settled := some level
    qualifying := none
    levelFlag := level.flag }

/-- Entry to NO_CARRIER (R17, R20 to R22): the recheck timer starts, the fault count is kept, and the level flag and the
settled class go. -/
def Site.enterNoCarrier (x : Site) (now : Word) : Site :=
  { x with
    state := .noCarrier
    entered := now
    timer := .recheckWait
    levelFlag := none
    settled := none
    qualifying := none }

/-- The release of a MEASURING site (R23): it becomes READY with its level flag and settled class kept. -/
def Site.release (x : Site) (now : Word) : Site := { x with state := .ready, entered := now, timer := .stopped, faultCount := 0 }

/-- The connection of a READY site to a lane (R23). -/
def Site.connect (x : Site) (now : Word) : Site := { x with state := .measuring, entered := now }

/-- A site's record replaced at its entry to READY: SITE_READY is raised and the arbiter reconsiders (R24, R65). -/
def State.siteReady (s : State) (i : SiteId) (x : Site) : State := ((s.setSite i x).raise .siteReady).callArbiter

/-- A site's record replaced at its entry to NO_CARRIER, RETRY_WAIT or FAULT_LATCHED: SITE_ALERT is raised, and the arbiter
reconsiders if the site left READY (R24, R65). -/
def State.siteAlert (s : State) (i : SiteId) (x : Site) : State :=
  ((s.setSite i x).raise .siteAlert).callArbiterIf ((s.site i).state == .ready)

/-- The connection of a site in the switch matrix opened (R62). -/
def State.openConnection (s : State) (i : SiteId) : State :=
  { s with lanes := s.lanes.map fun l => if l.connected = some i then { l with connected := none } else l }

/-- A lane's site released (R23): the connection is opened, and the site becomes READY if it is still MEASURING. -/
def State.releaseSite (s : State) (l : LaneId) : State :=
  match (s.lane l).connected with
  | none => s
  | some i =>
    let s := s.setLane l { s.lane l with connected := none }
    if (s.site i).state = .measuring then s.siteReady i ((s.site i).release s.now) else s

/-- The retry time in ms after an overcurrent event (R14). -/
def retryMs (faultCount : Nat) : Nat := if faultCount ≤ 2 then 10 else 1000

/-- The site after an overcurrent event (R13). -/
def Site.overcurrent (x : Site) (now : Word) : Site :=
  let c := x.faultCount + 1
  if c ≤ x.applied.supply.retryLimit then
    { x.switchOff .retryWait now with faultCount := c, timer := .retry }
  else { x.switchOff .faultLatched now with faultCount := c }

end Sys2Proof.Machine
end

