-- ==== Sys2Proof/Machine/JobOps.lean ====
section
/-! DEFINITION. The job controller's shared operations: calibration begin, lane release (R80), job end (R79), acquisition
start (R84, R85), gang start (R73) and acquisition end (R103). -/

namespace Sys2Proof.Machine

/-! ### Calibration begin (R159, R160) -/

/-- A calibration step's start (R160, step 1): input at the source, both synthesizers at the centre, both lock timers
running. -/
def State.beginStep (s : State) (l : LaneId) (r : RangeId) : State :=
  (s.setLane l { s.lane l with
      source := some r
      channels := Vector.replicate 2 ⟨Config.rangeCentre r * 10 ^ 9, .waiting⟩ }).setCalRecord l
    { s.calRecord l with step := some r }

/-- The first range of a range set at or above a lower bound. -/
def nextRange (ranges : Vector Bool 4) (from_ : Nat) : Option RangeId :=
  (List.finRange 4).find? fun r => decide (from_ ≤ r.val) && ranges[r]

/-- A lane entering CALIBRATING (R63, R159): the record, which already holds kind and range set, takes status RUNNING, and
the first step starts. -/
def State.beginCalibration (s : State) (l : LaneId) (outOfService : Bool) : State :=
  let s := s.setLane l { s.lane l with state := .calibrating, calPending := false }
  let s := s.setCalRecord l { s.calRecord l with
    status := .running, outOfService := some outOfService, started := some s.now, ended := none }
  match nextRange (s.calRecord l).ranges 0 with
  | some r => s.beginStep l r
  | none => s

/-! ### Lane release (R80) -/

/-- A lane without its job, its tuning and its acquisition record (R80, R84). -/
def Lane.withoutJob (x : Lane) : Lane := { x with job := none, tune := none, acquisition := none }

/-- Lane release (R80): to CALIBRATING with cal-pending set, else to IDLE. -/
def State.releaseLane (s : State) (l : LaneId) : State :=
  let s := s.setLane l (s.lane l).withoutJob
  if (s.lane l).calPending then s.beginCalibration l false
  else (s.setLane l { s.lane l with state := .idle }).callArbiter

/-! ### Job end (R79) -/

/-- The result of a job that ends with a verdict (R52, R131, R133, R148): its bin looked up now, its plan's bands copied. -/
def State.resultFor (s : State) (j : Job) (v : Verdict) (cause : Option Cause) : Result where
  verdict := v
  binClass := binClassOf v cause
  bin := s.binMap[(binClassOf v cause).index]
  cause := cause
  startBand := (s.planOf j).startBand
  stopBand := (s.planOf j).stopBand
  criteria := none
  jitter := none
  spurs := none
  spectrum := none

/-- Steps 1 to 5 of R79: the record becomes DONE with its result, its id joins the result list, and RESULT is raised. -/
def State.recordEnd (s : State) (id : Nat) (reason : EndReason) (r : Result) : State :=
  let s := (s.leaveGang id).updateJob id fun j =>
    { j with state := .done, reason := some reason, result := some r, lane := none, buffer := none }
  ((s.addResult id).raise .result).callArbiter

/-- The lane a running job has (R55). -/
def Job.servingLane (j : Job) : Option LaneId := if j.state.running then j.lane else none

/-- The end of a job that is not evaluated, but for its site and lane (R79, R132): its buffer set returns, and its terminal
result is recorded. -/
def State.endRecord (s : State) (reason : EndReason) (j : Job) : State :=
  (s.returnBuffer j).recordEnd j.id reason ((s.returnBuffer j).resultFor j (terminalVerdict reason) none)

/-- A job that ends before acquisition end (R75, R77, R79, R105, R132): its site is released if still connected, its buffer
set returns, its terminal result is recorded and its lane released. A job in EVALUATING or DONE is not reached. -/
def State.endTerminal (reason : EndReason) (s : State) (id : Nat) : State :=
  match s.job? id with
  | none => s
  | some j =>
    if j.state = .evaluating ∨ j.state = .done then s
    else match j.servingLane with
      | none => s.endRecord reason j
      | some l => ((s.releaseSite l).endRecord reason j).releaseLane l

/-- Jobs ended by one event, oldest first (R149). -/
def State.endJobs (s : State) (reason : EndReason) (js : List Job) : State :=
  ((s.oldestFirst js).map Job.id).foldl (State.endTerminal reason) s

/-- The waiting jobs of a site (section 4.7). -/
def State.waitingAt (s : State) (i : SiteId) : List Job := s.jobs.filter fun j => j.site == i && j.state.waiting

/-! ### Acquisition start (R84, R85) -/

/-- The working entry of a lane, a channel and a carrier range (R155). -/
def CoefSet.entry (set : CoefSet) (l : LaneId) (ch : ChanId) (r : RangeId) : Coef :=
  set[l][4 * ch.val + r.val]'(by omega)

/-- What a lane latches for a carrier nominal (R85). -/
def State.latchFor (s : State) (l : LaneId) (nominal : Nat) : Latched :=
  let r := Config.carrierRange nominal
  ⟨s.cal.working.entry l 0 r, s.cal.working.entry l 1 r⟩

/-- The flags a job gains from its latched tags (R85). -/
def JobFlags.withTags (f : JobFlags) (x : Latched) : JobFlags :=
  { f with
    calQuick := f.calQuick || x.a.tag == .quick || x.b.tag == .quick
    calDefault := f.calDefault || x.a.tag == .default || x.b.tag == .default }

/-- A band at acquisition start (R84): sums zero, counts 0, an average in progress, the spoiled marker clear. -/
def BandAcq.fresh (b : BandId) : BandAcq where
  band := b
  sums := List.replicate (Config.binCount b) ⟨0, 0, 0, 0⟩
  accepted := 0
  rejected := 0
  completions := 0
  inProgress := true
  spoiled := false

/-- The acquisition record at acquisition start (R84). -/
def Acquisition.fresh (p : Plan) (x : Latched) (nominal : Nat) : Acquisition where
  bands := p.selected.map BandAcq.fresh
  latched := x
  nominal := nominal
  maxTimer := some p.maxDuration
  snapTimer := if 0 < p.snapshot then some p.snapshot else none
  reason := none

/-- Acquisition start of a job on its lane (R73, R84, R85). -/
def State.startAcquisition (s : State) (j : Job) (l : LaneId) : State :=
  let nominal := (s.site j.site).applied.supply.carrier
  let x := s.latchFor l nominal
  (s.updateJob j.id fun j =>
    { j with
      state := .acquiring
      latched := some x
      started := some s.now
      counts := some (Vector.replicate 6 ⟨0, 0⟩)
      flags := j.flags.withTags x }).setLane l
    { s.lane l with
      state := .acquiring
      tune := none
      acquisition := some (Acquisition.fresh (s.planOf j) x nominal) }

/-- The members that start now (R73): each waits in GANG_WAIT and its gang has no member in TUNING. -/
def State.startingMembers (s : State) : List Job :=
  s.jobs.filter fun j => j.state == .gangWait && (s.gangOf j).all fun k => k.state != .tuning

/-- The common start of every gang that can start after this event (R73). -/
def State.startGangs (s : State) : State :=
  s.startingMembers.foldl (fun s j => match j.lane with
    | some l => s.startAcquisition j l
    | none => s) s

/-! ### Acquisition end (R103) -/

/-- A band that stops accumulating (R103). -/
def BandAcq.freeze (b : BandAcq) : BandAcq := { b with inProgress := false, spoiled := false }

/-- An acquisition record at acquisition end: averages in progress discarded, timers stopped, reason fixed (R103). -/
def Acquisition.freeze (a : Acquisition) (reason : EndReason) : Acquisition :=
  { a with bands := a.bands.map BandAcq.freeze, maxTimer := none, snapTimer := none, reason := some reason }

/-- Acquisition end of a job on a lane at a duration in ms (R103). -/
def State.endAcquisition (s : State) (l : LaneId) (j : Job) (a : Acquisition) (reason : EndReason) (duration : Nat) : State :=
  let s := s.setLane l { s.lane l with state := .evaluating, acquisition := some (a.freeze reason) }
  let s := s.updateJob j.id fun j => { j with state := .evaluating, duration := some duration }
  s.releaseSite l

end Sys2Proof.Machine
end

