-- ==== Sys2Proof/Machine/Arbiter.lean ====
section
/-! DEFINITION. The arbiter (R64 to R69): the candidates and their order, the head, reservation, and assignment. -/

namespace Sys2Proof.Machine

/-! ### Candidates (R64) -/

/-- The members of the candidate a job belongs to: itself, or its gang's remaining members (R64). -/
def State.candidateOf (s : State) (j : Job) : List Job :=
  match j.gang with
  | none => [j]
  | some _ => s.gangOf j

/-- Whether a job stands for a candidate: every member of the candidate is QUEUED and none is older (R61, R64). -/
def State.leads (s : State) (j : Job) : Bool :=
  j.state == .queued && (s.candidateOf j).all fun k => k.state == .queued && decide (s.age k ≤ s.age j)

/-- Whether a candidate is URGENT: any member is (R61). -/
def candidateUrgent (c : List Job) : Bool := c.any fun j => j.priority == .urgent

/-- The candidates in the order of R64: URGENT first, and oldest first within a class. -/
def State.candidates (s : State) : List (List Job) :=
  let cs := (s.oldestFirst (s.jobs.filter s.leads)).map s.candidateOf
  cs.filter candidateUrgent ++ cs.filter fun c => !candidateUrgent c

/-- Whether all of a candidate's sites are READY (R65). -/
def State.sitesReady (s : State) (c : List Job) : Bool := c.all fun j => (s.site j.site).state == .ready

/-- The head (R65): none while the start condition fails, else the first candidate all of whose sites are READY. -/
def State.findHead (s : State) : Option (List Job) :=
  if s.timebase.startCondition then s.candidates.find? s.sitesReady else none

/-- The segment count of a candidate (R64). -/
def State.segmentNeed (s : State) (c : List Job) : Nat := (c.map fun j => (s.planOf j).segments).sum

/-! ### Lanes -/

/-- The number of lanes in a state. -/
def State.lanesIn (s : State) (st : LaneState) : Nat := (List.finRange 4).countP fun l => (s.lane l).state == st

/-- The lanes in service: those not OUT_OF_SERVICE (R66). -/
def State.lanesInService (s : State) : Nat := 4 - s.lanesIn .outOfService

/-- Every lane in one state put into another. -/
def State.moveLanes (s : State) (from_ to_ : LaneState) : State :=
  { s with lanes := s.lanes.map fun x => if x.state = from_ then { x with state := to_ } else x }

/-- Every RESERVED lane returned to IDLE (R67, R68). -/
def State.unreserve (s : State) : State := s.moveLanes .reserved .idle

/-- Every IDLE lane reserved (R67). -/
def State.reserve (s : State) : State := s.moveLanes .idle .reserved

/-! ### Assignment (R69) -/

/-- The lanes open to assignment, in ascending number: IDLE and RESERVED (R69). -/
def State.openLanes (s : State) : List LaneId :=
  (List.finRange 4).filter fun l => (s.lane l).state == .idle || (s.lane l).state == .reserved

/-- A member placed in a list ordered by ascending site number. -/
def insertBySite (j : Job) : List Job → List Job
  | [] => [j]
  | k :: ks => if j.site ≤ k.site then j :: k :: ks else k :: insertBySite j ks

/-- A candidate's members in ascending site number (R69). -/
def bySite (c : List Job) : List Job := c.foldr insertBySite []

/-- One member assigned to its lane (R69, steps 1 and 3 to 6): buffer set allocated, site connected and MEASURING, job and
lane TUNING with the recount begun, and LEVEL set if the site's level flag is not IN. -/
def State.assignOne (s : State) (j : Job) (l : LaneId) : State :=
  let p := s.planOf j
  let site := s.site j.site
  let s := s.setSite j.site (site.connect s.now)
  let s := s.updateJob j.id fun j => { j with
    state := .tuning
    lane := some l
    buffer := some (BufferSet.fresh p)
    flags := { j.flags with level := j.flags.level || site.levelFlag != some .within } }
  (s.setLane l { s.lane l with
    state := .tuning, job := some j.id, connected := some j.site, tune := some .recount, acquisition := none }).setFree
    (s.freeSegments - p.segments)

/-- Assignment of a whole head (R69): the lowest open lanes, members in ascending site number, and every RESERVED lane not
chosen returned to IDLE. -/
def State.assign (s : State) (c : List Job) : State :=
  (((bySite c).zip s.openLanes).foldl (fun s x => s.assignOne x.1 x.2) s).unreserve.setHead none

/-! ### Reconsideration (R65 to R68) -/

/-- What the arbiter does with a head that passes R66 (the table of R67), and whether it assigned it. -/
def State.serveHead (s : State) (c : List Job) : State × Bool :=
  let need := c.length
  let idle := s.lanesIn .idle
  let held := s.lanesIn .reserved
  if s.segmentNeed c ≤ s.freeSegments then
    if need ≤ idle + held then (s.assign c, true) else (s.reserve, false)
  else if idle + held < need then (s.reserve.raise .stalled, false)
  else if idle < need then (s.raise .stalled, false)
  else (s.unreserve.raise .stalled, false)

/-- The identity of a head: its members' ids (R65). -/
def headId (c : List Job) : List Nat := c.map Job.id

/-- The reservations of an earlier head returned (R68), and the head's identity recorded. -/
def State.takeHead (s : State) (c : List Job) : State :=
  if s.head = some (headId c) then s else s.unreserve.setHead (some (headId c))

/-- The arbiter finds the head and takes it through R66 and R67, and finds the head again after an assignment or after
members ended NO_LANE. Each such turn takes a candidate from the waiting jobs, so `fuel` above their number suffices. -/
def State.reconsiderWith : Nat → State → State
  | 0, s => s
  | fuel + 1, s =>
    match s.findHead with
    | none => s.unreserve.setHead none
    | some c =>
      let s := s.takeHead c
      if s.lanesInService < c.length then reconsiderWith fuel (s.endJobs .noLane c)
      else
        let r := s.serveHead c
        if r.2 then reconsiderWith fuel r.1 else r.1

/-- The reconsideration an event called for, after that event's own effects (R65). -/
def State.arbitrate (s : State) : State :=
  if s.reconsider then (State.reconsiderWith (s.jobs.length + 1) s).reconsidered else s

end Sys2Proof.Machine
end

