-- ==== Sys2Proof/Machine/Finish.lean ====
section
/-! DEFINITION. What closes every event: the common start of gangs (R73), the arbiter's reconsideration (R65), and the
transmitter going on to the next waiting frame (R176, R178), and the order of the results (R149). -/

namespace Sys2Proof.Machine

/-- What the event unit and the mask have in common (R178). -/
def Events.due (e : Events) : Byte := e.pending &&& e.mask

/-- The EVENT_NOTICE frame: kind 0x7F, tag 0, the due kinds and the uptime (R178, R184). -/
def noticeFrame (kinds : Byte) (uptime : Word) : Frame := ⟨0x7F, 0, kinds :: wordBytes uptime⟩

/-- The reply frame of the request in hand (R174). -/
def InHand.frame (h : InHand) : Frame := ⟨replyKind h.kind, h.tag, h.reply⟩

/-- The port with an idle transmitter in LOCKED (R176, R178): the reply in hand goes first; else a due notice is formed,
and nothing is sent when pending set and mask have no kind in common. -/
def State.beginFrame (s : State) (rate : Rate) : State :=
  match s.port.inHand with
  | some h => { s with port := { s.port with transmitter := .reply rate h.frame } }
  | none =>
    if s.port.noticeDue then
      let p := { s.port with noticeDue := false }
      if s.events.due = 0 then { s with port := p }
      else { s with port := { p with transmitter := .notice rate (noticeFrame s.events.due s.now) } }
    else s

/-- The transmitter begins the next waiting frame if it can (R176): in LOCKED, while idle. -/
def State.settlePort (s : State) : State :=
  match s.port.link, s.port.transmitter with
  | .locked rate, .idle => s.beginFrame rate
  | _, _ => s

/-- What follows every event's own effects (assumption 29). -/
def State.finish (s : State) : State := s.startGangs.arbitrate.settlePort

/-- The close of an event that met the state `s₀`: what follows its own effects, and the ids of all jobs the event ended in
order of submit sequence (R149). -/
def State.close (s s₀ : State) : State := s.finish.orderEnds s₀.results

end Sys2Proof.Machine
end

