-- ==== Sys2Proof/Machine/Sites.lean ====
section
/-! DEFINITION. Chapter 1: the SITE requests, and the meanings of the site channel's events. -/

namespace Sys2Proof.Machine

open Host

/-! ### SITE_SET (R3, R4) -/

/-- The stored warm-up time (R3): at most 600,000 ms, rounded down to a multiple of 100 ms. -/
def clampWarmUp (sent : Nat) : Nat := min sent 600000 / 100 * 100

/-- The stored retry limit (R3). -/
def clampRetry (sent : Nat) : Nat := min sent 7

/-- The clamp report of SITE_SET (R3, R175). -/
def siteClamps (f : SiteSetFields) : List ClampId :=
  (if clampWarmUp f.warmUp.toNat = f.warmUp.toNat then [] else [.warmUp]) ++
    (if clampRetry f.retryLimit.toNat = f.retryLimit.toNat then [] else [.retryLimit])

/-- The legal configuration a SITE_SET carries, clamped; none where R3 refuses it. -/
def siteConfigOf (f : SiteSetFields) : Option SiteConfig := do
  let voltage ← codeBelow 4 f.voltage
  let current ← codeBelow 4 f.current
  let blanking ← codeBelow 4 f.blanking
  let deglitch ← codeBelow 2 f.deglitch
  let levelRange ← codeBelow 3 f.levelRange
  if 5000000 ≤ f.carrier.toNat ∧ f.carrier.toNat ≤ 1600000000 then
    some ⟨⟨f.carrier.toNat, voltage, current, blanking, deglitch, clampRetry f.retryLimit.toNat⟩,
      clampWarmUp f.warmUp.toNat, levelRange⟩
  else none

/-- Whether a state takes a configuration at once (R4). -/
def SiteState.appliesAtOnce : SiteState → Bool
  | .off | .faultLatched => true
  | .ramp | .warming | .checking | .ready | .measuring | .noCarrier | .retryWait => false

/-- Warm-up expiry at a SITE_SET that changes the warm-up time to one already spent (R16). -/
def Site.warmUpChanged (x : Site) (old : Nat) (now : Word) : Site :=
  match x.timer with
  | .warmUp spent => if x.applied.warmUp ≠ old ∧ x.applied.warmUp ≤ spent then x.enterChecking now else x
  | _ => x

/-- The site after an accepted SITE_SET (R4, R16, R19); a changed level range starts qualification again (assumption 14). -/
def Site.configure (x : Site) (c : SiteConfig) (now : Word) : Site :=
  if x.state.appliesAtOnce then { x with configured := true, applied := c, staged := none }
  else
    { x with
      applied := { x.applied with warmUp := c.warmUp, levelRange := c.levelRange }
      staged := some c.supply
      qualifying := if c.levelRange = x.applied.levelRange then x.qualifying else none
      : Site }.warmUpChanged x.applied.warmUp now

/-- SITE_SET (R3, R4). -/
def State.siteSet (s : State) (f : SiteSetFields) : State × Reply :=
  match codeBelow 16 f.site, siteConfigOf f with
  | some i, some c => (s.setSite i ((s.site i).configure c s.now), Reply.ok (clampReport (siteClamps f)))
  | _, _ => refuseWith .outOfRange s

/-! ### SITE_POWER, SITE_CLEAR, SITE_READ (R5, R9, R10, R15) -/

/-- SITE_POWER on (R9). -/
def State.powerOn (s : State) (i : SiteId) : State × Reply :=
  let x := s.site i
  if x.configured = false ∨ x.state = .faultLatched then refuseWith .wrongState s
  else if x.state = .off then
    if s.inhibit then accept (s.setSite i { x with powerPending := true })
    else accept (s.setSite i (x.enterRamp s.now))
  else accept s

/-- The jobs of a site that its events can end: the running one and the waiting ones (section 4.7). -/
def State.endableAt (s : State) (i : SiteId) : List Job :=
  s.jobs.filter fun j => j.site == i && (j.state.running || j.state.waiting)

/-- SITE_POWER off (R10, R76, R77): nothing in FAULT_LATCHED; else the site is OFF, its connection open, and the jobs that
waited for it or ran on it end SITE_OFF. -/
def State.powerOff (s : State) (i : SiteId) : State × Reply :=
  let x := s.site i
  match x.state with
  | .faultLatched => accept s
  | .off => accept ((s.setSite i { x with powerPending := false }).endJobs .siteOff (s.endableAt i))
  | _ =>
    let off := (s.setSite i { x.switchOff .off s.now with faultCount := 0 }).openConnection i
    accept ((off.endJobs .siteOff (s.endableAt i)).callArbiterIf (x.state == .ready))

/-- SITE_POWER (R9, R10, R186): the site number is checked first and then the code. -/
def State.sitePower (s : State) (site code : Byte) : State × Reply :=
  match codeBelow 16 site, boolCode code with
  | some i, some true => s.powerOn i
  | some i, some false => s.powerOff i
  | _, _ => refuseWith .outOfRange s

/-- SITE_CLEAR (R15). -/
def State.siteClear (s : State) (site : Byte) : State × Reply :=
  match codeBelow 16 site with
  | none => refuseWith .outOfRange s
  | some i =>
    let x := s.site i
    if x.state = .faultLatched then accept (s.setSite i { x with state := .off, entered := s.now, faultCount := 0 })
    else refuseWith .wrongState s

/-- The supply fields of a configuration as SITE_READ sends them (R189). -/
def SupplyConfig.fields (c : SupplyConfig) : Fields :=
  u32 c.carrier ++ u8 c.voltage.val ++ u8 c.current.val ++ u8 c.blanking.val ++ u8 c.deglitch.val

/-- A frequency count as replies send it: gate end uptime, tag, error presence, error (R188, R189). -/
def CountRecord.fields (c : CountRecord) : Fields := word32 c.gateEnd ++ one c.tag.code ++ optField 4 s32 c.error

/-- The site record as SITE_READ sends it after the status byte (R189). -/
def Site.fields (i : SiteId) (x : Site) : Fields :=
  u8 i.val ++ flag x.configured ++ x.applied.supply.fields ++ u32 x.applied.warmUp ++ u8 x.applied.supply.retryLimit ++
    u8 x.applied.levelRange.val ++ optField 9 (fun c => SupplyConfig.fields c ++ u8 c.retryLimit) x.staged ++
    one x.state.code ++ word32 x.entered ++ flag x.powerPending ++ u8 x.faultCount ++ optField 2 s16 x.levelReading ++
    optField 1 (fun f => one (LevelFlag.code f)) x.levelFlag ++ optField 10 CountRecord.fields x.lastCount

/-- SITE_READ (R5). -/
def State.siteRead (s : State) (site : Byte) : State × Reply :=
  match codeBelow 16 site with
  | none => refuseWith .outOfRange s
  | some i => (s, Reply.ok ((s.site i).fields i))

/-! ### The events of a site channel -/

/-- SUPPLY_INHIBIT_EXPIRY (R8): the inhibit ends, and every site with power pending enters RAMP. -/
def State.supplyInhibitExpiry (s : State) : State :=
  if s.inhibit then
    { s with
      inhibit := false
      sites := s.sites.map fun x => if x.powerPending then { x with powerPending := false : Site }.enterRamp s.now else x }
  else s

/-- The meaning of SUPPLY_INHIBIT_EXPIRY. -/
def execSupplyInhibitExpiry (s : State) : Outcome State Fault Refusal := .next (s.supplyInhibitExpiry.close s)

/-- BLANKING_EXPIRY (R11): the site enters WARMING, and CHECKING at once with a warm-up of 0 (R16). -/
def State.blankingExpiry (s : State) (i : SiteId) : State :=
  if (s.site i).timer = .blanking then s.setSite i ((s.site i).enterWarming s.now) else s

/-- The meaning of BLANKING_EXPIRY. -/
def execBlankingExpiry (i : SiteId) (s : State) : Outcome State Fault Refusal := .next ((s.blankingExpiry i).close s)

/-- CURRENT_LIMIT_CROSSING (R12): while the monitor is armed, a rise above the limit starts the deglitch interval, and a
fall to or below it abandons the interval. With the supply off no current flows. -/
def State.currentCrossing (s : State) (i : SiteId) (above : Bool) : State :=
  let x := s.site i
  if x.state.supplied then
    s.setSite i { x with monitor := ⟨x.monitor.armed, above, x.monitor.armed && above⟩ }
  else s

/-- The meaning of CURRENT_LIMIT_CROSSING. -/
def execCurrentLimitCrossing (i : SiteId) (above : Bool) (s : State) : Outcome State Fault Refusal :=
  .next ((s.currentCrossing i above).close s)

/-- The jobs an overcurrent event ends (R76, R77): the running one, and the waiting ones if the site latched. -/
def State.faultedJobs (s : State) (i : SiteId) (st : SiteState) : List Job :=
  s.jobs.filter fun j => j.site == i && (j.state.running || (j.state.waiting && st == .faultLatched))

/-- OVERCURRENT (R12, R13): the end of a deglitch interval that runs. The supply goes off, the event is counted, then
RETRY_WAIT or FAULT_LATCHED with SITE_ALERT; a connected lane is opened (assumption 26). -/
def State.overcurrent (s : State) (i : SiteId) : State :=
  if (s.site i).state.monitored && (s.site i).monitor.deglitching then
    let x := (s.site i).overcurrent s.now
    ((s.siteAlert i x).openConnection i).endJobs .siteFault (s.faultedJobs i x.state)
  else s

/-- The meaning of OVERCURRENT. -/
def execOvercurrent (i : SiteId) (s : State) : Outcome State Fault Refusal := .next ((s.overcurrent i).close s)

/-- RETRY_EXPIRY (R14): the site enters RAMP with its fault count. -/
def State.retryExpiry (s : State) (i : SiteId) : State :=
  if (s.site i).timer = .retry then s.setSite i ((s.site i).enterRamp s.now) else s

/-- The meaning of RETRY_EXPIRY. -/
def execRetryExpiry (i : SiteId) (s : State) : Outcome State Fault Refusal := .next ((s.retryExpiry i).close s)

/-- WARM_UP_EXPIRY (R16): the site enters CHECKING. -/
def State.warmUpExpiry (s : State) (i : SiteId) : State :=
  match (s.site i).timer with
  | .warmUp _ => s.setSite i ((s.site i).enterChecking s.now)
  | _ => s

/-- The meaning of WARM_UP_EXPIRY. -/
def execWarmUpExpiry (i : SiteId) (s : State) : Outcome State Fault Refusal := .next ((s.warmUpExpiry i).close s)

/-- A gate end that found the carrier (R17, R22): last count written, READY. -/
def State.gateFound (s : State) (i : SiteId) (count : CountRecord) (level : Rat) : State :=
  let x := { s.site i with lastCount := some count }
  s.siteReady i (x.enterReady s.now (classify x.applied.levelRange (10 * level)))

/-- The waiting jobs of a site without a carrier end NO_CARRIER (R76). -/
def State.endWaiting (s : State) (i : SiteId) : State := s.endJobs .noCarrier (s.waitingAt i)

/-- CARRIER_CHECK_GATE_END (R17, R18). -/
def State.carrierCheckGateEnd (s : State) (i : SiteId) (frequency : Option Rat) (level : Rat) : State :=
  if (s.site i).timer = .checkGate then
    let count := s.countAt i frequency
    if carrierPresent (s.site i) count level then s.gateFound i count level
    else (s.siteAlert i ({ s.site i with lastCount := some count }.enterNoCarrier s.now)).endWaiting i
  else s

/-- The meaning of CARRIER_CHECK_GATE_END. -/
def execCarrierCheckGateEnd (i : SiteId) (frequency : Option Rat) (level : Rat) (s : State) :
    Outcome State Fault Refusal := .next ((s.carrierCheckGateEnd i frequency level).close s)

/-- RECHECK_EXPIRY (R22): the recheck gate starts. -/
def State.recheckExpiry (s : State) (i : SiteId) : State :=
  if (s.site i).timer = .recheckWait then s.setSite i { s.site i with timer := .recheckGate } else s

/-- The meaning of RECHECK_EXPIRY. -/
def execRecheckExpiry (i : SiteId) (s : State) : Outcome State Fault Refusal := .next ((s.recheckExpiry i).close s)

/-- RECHECK_GATE_END (R22): as the carrier check, but a site without a carrier stays in NO_CARRIER and waits again. -/
def State.recheckGateEnd (s : State) (i : SiteId) (frequency : Option Rat) (level : Rat) : State :=
  if (s.site i).timer = .recheckGate then
    let count := s.countAt i frequency
    if carrierPresent (s.site i) count level then s.gateFound i count level
    else (s.setSite i { s.site i with lastCount := some count, timer := .recheckWait }).endWaiting i
  else s

/-- The meaning of RECHECK_GATE_END. -/
def execRecheckGateEnd (i : SiteId) (frequency : Option Rat) (level : Rat) (s : State) : Outcome State Fault Refusal :=
  .next ((s.recheckGateEnd i frequency level).close s)

/-! ### The level monitor (R19 to R21) -/

/-- A level reading in steps of 0.1 dB, held within −60.0 to +25.0 dBm (R19). -/
def readingOf (level : Rat) : Int := clampInt (-600) 250 (roundRat (10 * level))

/-- The site record with a new reading (R19), and the class of the class-change event it raises, if any: the second of two
consecutive readings in one class other than the settled class. A reading taken without a settled class, before a carrier check
or recheck sets one, is not the first of two (the model's choice, assumption 34). -/
def Site.read (x : Site) (reading : Int) : Site × Option LevelClass :=
  let x := { x with levelReading := some reading }
  let c := classify x.applied.levelRange reading
  match x.settled with
  | none => ({ x with qualifying := none }, none)
  | some settled =>
    if c = settled then ({ x with qualifying := none }, none)
    else if x.qualifying = some c then ({ x with qualifying := none, settled := some c }, some c)
    else ({ x with qualifying := some c }, none)

/-- The LEVEL flag set on the running job of a site (R78). -/
def State.flagLevel (s : State) (i : SiteId) : State :=
  { s with jobs := s.jobs.map fun j =>
      if j.site = i ∧ j.state.running = true then { j with flags := { j.flags with level := true } } else j }

/-- A class-change event (R20, R21): in READY and MEASURING it sets the level flag or takes the site to NO_CARRIER; in other
states it has done its part by updating the settled class (R19). -/
def State.classChange (s : State) (i : SiteId) (c : LevelClass) : State :=
  let x := s.site i
  match x.state, c with
  | .ready, .absent => (s.siteAlert i (x.enterNoCarrier s.now)).endWaiting i
  | .ready, _ => s.setSite i { x with levelFlag := c.flag }
  | .measuring, .absent =>
    ((s.siteAlert i (x.enterNoCarrier s.now)).openConnection i).endJobs .noCarrier (s.endableAt i)
  | .measuring, .within => s.setSite i { x with levelFlag := c.flag }
  | .measuring, _ => (s.setSite i { x with levelFlag := c.flag }).flagLevel i
  | _, _ => s

/-- LEVEL_READING (R19): the monitor runs while the supply is on. -/
def State.levelReading (s : State) (i : SiteId) (level : Rat) : State :=
  if (s.site i).state.supplied then
    let r := (s.site i).read (readingOf level)
    match r.2 with
    | none => s.setSite i r.1
    | some c => (s.setSite i r.1).classChange i c
  else s

/-- The meaning of LEVEL_READING. -/
def execLevelReading (i : SiteId) (level : Rat) (s : State) : Outcome State Fault Refusal :=
  .next ((s.levelReading i level).close s)

end Sys2Proof.Machine
end

