-- ==== Sys2Proof/Machine/JobCommands.lean ====
section
/-! DEFINITION. Chapter 4: the requests JOB_SUBMIT, JOB_READ, JOB_ABORT and GROUP_RELEASE. -/

namespace Sys2Proof.Machine

/-! ### JOB_SUBMIT (R56 to R58) -/

/-- The id after an id: 65535 is followed by 1 (R56). -/
def followingId (n : Nat) : Nat := if n = 65535 then 1 else n + 1

/-- The first id from a value on that no record holds, within a number of steps (R56). -/
def State.freshId (s : State) : Nat → Nat → Nat
  | 0, n => n
  | steps + 1, n => if (s.job? n).isSome then s.freshId steps (followingId n) else n

/-- The next-sequence value after one submission (R56). -/
def followingSeq (n : Nat) : Nat := if n = 4294967295 then 1 else n + 1

/-- The site check of R57: configured, and neither OFF without power pending nor FAULT_LATCHED. -/
def Site.acceptsJobs (x : Site) : Bool :=
  x.configured && (match x.state with
    | .off => x.powerPending
    | .faultLatched => false
    | _ => true)

/-- A record at its acceptance (R58). -/
def Job.fresh (id seq : Nat) (site : SiteId) (plan : PlanId) (group : Fin 16) (priority : Priority) : Job where
  id := id
  site := site
  plan := plan
  group := group
  priority := priority
  state := if group = 0 then .queued else .held
  seq := seq
  gang := none
  lane := none
  attempts := 0
  flags := JobFlags.clear
  recount := none
  latched := none
  started := none
  duration := none
  counts := none
  reason := none
  result := none
  buffer := none

/-- The first check of R57 that fails, once the four numbers are legal. -/
def State.submitRefusal (s : State) (site : SiteId) (plan : PlanId) (group : Fin 16) : Option Status :=
  if 64 ≤ s.jobs.length then some .full
  else if s.plans[plan] = none then some .noSuch
  else if (s.site site).acceptsJobs = false then some .wrongState
  else if group ≠ 0 ∧ 4 ≤ (s.heldSet group).length then some .full
  else if group ≠ 0 ∧ ((s.heldSet group).any fun j => j.site == site) = true then some .inUse
  else none

/-- The record added to the table, with the next-id and next-sequence values moved on (R56, R58). -/
def State.addJob (s : State) (j : Job) : State :=
  { s with jobs := s.jobs ++ [j], nextId := followingId j.id, nextSeq := followingSeq j.seq }

/-- An accepted JOB_SUBMIT (R58): DONE at once for a site in NO_CARRIER, else QUEUED, or HELD in a group. -/
def State.submit (s : State) (site : SiteId) (plan : PlanId) (group : Fin 16) (priority : Priority) : State × Reply :=
  let j := Job.fresh (s.freshId 65 s.nextId) s.nextSeq site plan group priority
  let s := s.addJob j
  if (s.site site).state = .noCarrier then
    (s.endTerminal .noCarrier j.id, Reply.ok (u16 j.id ++ one JobState.done.code))
  else
    (s.callArbiterIf (group == 0), Reply.ok (u16 j.id ++ one j.state.code))

/-- JOB_SUBMIT (R57, R58). -/
def State.jobSubmit (s : State) (site plan group priority : Byte) : State × Reply :=
  match codeBelow 16 site, codeBelow 32 plan, codeBelow 16 group, priorityOf priority with
  | some i, some p, some g, some u =>
    match s.submitRefusal i p g with
    | some st => refuseWith st s
    | none => s.submit i p g u
  | _, _, _, _ => refuseWith .outOfRange s

/-! ### JOB_READ (R59, R187) -/

/-- A coefficient as replies send it: signed value, then tag (R188). -/
def Coef.fields (c : Coef) : Fields := s16 c.c ++ one c.tag.code

/-- The recount block of R188. -/
def Job.recountBlock (j : Job) : Fields := optField 10 CountRecord.fields j.recount

/-- The latched block of R188: coefficients, then start uptime, which a record has from acquisition start (R55). -/
def Job.latchedBlock (j : Job) : Fields :=
  optField 10 (fun x => Coef.fields x.1.a ++ Coef.fields x.1.b ++ word32 x.2)
    (j.latched.bind fun x => j.started.map fun t => ((x, t) : Latched × Word))

/-- The band counts block of R188: 0 for bands outside the selection. -/
def Job.countsBlock (j : Job) : Fields :=
  optField 24 (fun (v : Vector BandCount 6) => (v.toList.map fun b => u16 b.accepted ++ u16 b.rejected).flatten) j.counts

/-- Bytes 16 to 62 of the summary (R188). -/
def Job.sharedBlocks (j : Job) : Fields := j.recountBlock ++ j.latchedBlock ++ j.countsBlock

/-- The gang of a JOB_READ: a count and four id places, unused ones 0 (R187). -/
def gangFields (g : Option (List Nat)) : Fields :=
  let ids := g.getD []
  u8 ids.length ++ ((List.range 4).map fun k => u16 (ids.getD k 0)).flatten

/-- A job record as JOB_READ sends it (R59, R187). -/
def Job.fields (j : Job) : Fields :=
  u16 j.id ++ u8 j.site.val ++ u8 j.plan.val ++ u8 j.group.val ++ one j.priority.code ++ one j.state.code ++ u32 j.seq ++
    gangFields j.gang ++ optField 1 (fun (l : LaneId) => u8 l.val) j.lane ++ u8 j.attempts ++ one j.flags.byte ++
    j.sharedBlocks ++ optField 4 u32 j.duration ++ optField 1 (fun r => one (EndReason.code r)) j.reason ++
    optField 2 (fun r => one (Verdict.code r.verdict) ++ u8 r.bin.val) j.result

/-- JOB_READ (R59). Id 0 is held by no record. -/
def State.jobRead (s : State) (id : Half) : State × Reply :=
  match s.job? id.toNat with
  | none => refuseWith .noSuch s
  | some j => (s, Reply.ok j.fields)

/-! ### JOB_ABORT (R74, R75) -/

/-- Whether an abort ends a job (R74, R75). -/
def JobState.abortable (st : JobState) : Bool := st.running || st.waiting

/-- The addressed jobs that an abort can end are ended, and counted (R74). -/
def State.abortWhere (s : State) (p : Job → Bool) : State × Reply :=
  let js := s.jobs.filter fun j => p j && j.state.abortable
  (s.endJobs .hostAbort js, Reply.ok (u8 js.length))

/-- JOB_ABORT by job id (R74). -/
def State.abortJob (s : State) (id : Nat) : State × Reply :=
  match s.job? id with
  | none => refuseWith .noSuch s
  | some j => if j.state.abortable then s.abortWhere fun k => k.id == id else refuseWith .wrongState s

/-- JOB_ABORT (R74): selector 0 job id, 1 site, 2 group, 3 all. -/
def State.jobAbort (s : State) (selector : Byte) (value : Half) : State × Reply :=
  let v := value.toNat
  if selector = 0 then s.abortJob v
  else if selector = 1 then
    if v ≤ 15 then s.abortWhere fun j => j.site.val == v else refuseWith .outOfRange s
  else if selector = 2 then
    if 1 ≤ v ∧ v ≤ 15 then s.abortWhere fun j => j.group.val == v else refuseWith .outOfRange s
  else if selector = 3 then s.abortWhere fun _ => true
  else refuseWith .outOfRange s

/-! ### GROUP_RELEASE (R60) -/

/-- The held jobs of a group become one gang in QUEUED (R60). The gang lists its ids in the order of acceptance (the model's
choice, assumption 35). -/
def State.releaseGroup (s : State) (g : Fin 16) : State :=
  let ids := (s.heldSet g).map Job.id
  State.callArbiter { s with jobs := s.jobs.map fun j =>
      if j.state = .held ∧ j.group = g then { j with state := .queued, gang := some ids } else j }

/-- GROUP_RELEASE (R60). -/
def State.groupRelease (s : State) (group : Byte) : State × Reply :=
  match codeBelow 16 group with
  | none => refuseWith .outOfRange s
  | some g =>
    if g = 0 then refuseWith .outOfRange s
    else if s.heldSet g = [] then refuseWith .noSuch s
    else (s.releaseGroup g, Reply.ok (u8 (s.heldSet g).length))

end Sys2Proof.Machine
end

