-- ==== Sys2Proof/Machine/ResultStore.lean ====
section
/-! DEFINITION. Chapter 8: the requests SNAP_TAKE, SNAP_READ, SNAP_HOLD, RESULT_LIST, RESULT_READ and RESULT_RELEASE. -/

namespace Sys2Proof.Machine

/-! ### Segments on the line (R136, R188) -/

/-- A value without data (R185). -/
def noDataValue : Int := -32768

/-- A point entry: M, F and E, then the flags (R188). -/
def Point.fields (p : Point) : Fields :=
  (match p with
    | .noData => s16 noDataValue ++ s16 noDataValue ++ s16 noDataValue
    | .data m f e _ _ _ => s16 m ++ s16 f ++ s16 e) ++ one p.flagByte

/-- A band segment (R188). -/
def Segment.fields (g : Segment) : Fields :=
  u8 g.band.number ++ u8 g.points.length ++ u16 g.accepted ++ u16 g.rejected ++ (g.points.map Point.fields).flatten

/-! ### SNAP_TAKE, SNAP_READ, SNAP_HOLD (R141 to R144) -/

/-- The exchange of a take (R142): N and F exchanged when N is newer than F, or F is empty and N is not. -/
def BufferSet.take (b : BufferSet) : BufferSet :=
  match b.n, b.f with
  | some n, some f => if f.seq < n.seq then { b with n := some f, f := some n } else b
  | some n, none => { b with n := none, f := some n }
  | none, _ => b

/-- The exchange of a publish with the hold off (R140): the fill becomes N, what N held becomes W. -/
def BufferSet.publish (b : BufferSet) (fill : List Segment) : BufferSet :=
  { b with n := some ⟨b.published + 1, fill⟩, w := b.n.map Snapshot.segments, published := b.published + 1 }

/-- A snapshot expiry's fill, published unless the hold is on (R140). -/
def BufferSet.fill (b : BufferSet) (fill : List Segment) (hold : Bool) : BufferSet :=
  if hold then { b with w := some fill } else b.publish fill

/-- The job and buffer set a SNAP request finds through its lane (R139, R142, R144): the lane serves the job, and the job's
snapshot interval is above 0. -/
def State.snapTarget (s : State) (l : LaneId) (id : Nat) : Option (Job × BufferSet) :=
  match s.laneJob? l with
  | none => none
  | some j =>
    if id ≠ 0 ∧ id ≠ j.id then none
    else j.buffer.bind fun b => if b.roles then some (j, b) else none

/-- SNAP_TAKE (R142). -/
def State.snapTake (s : State) (lane : Byte) (id : Half) : State × Reply :=
  match codeBelow 4 lane with
  | none => refuseWith .outOfRange s
  | some l => match s.snapTarget l id.toNat with
    | none => refuseWith .wrongState s
    | some (j, b) =>
      (s.updateJob j.id (fun j => { j with buffer := some b.take }),
        Reply.ok (u16 j.id ++ optField 2 u16 (b.take.f.map Snapshot.seq) ++ u16 b.take.published))

/-- SNAP_READ (R144). -/
def State.snapRead (s : State) (lane : Byte) (id : Half) (band : Byte) : State × Reply :=
  match codeBelow 4 lane, bandOf band with
  | some l, some k => match s.snapTarget l id.toNat with
    | none => refuseWith .wrongState s
    | some (j, b) => match b.f with
      | none => refuseWith .wrongState s
      | some f => match f.segments.find? fun g => g.band == k with
        | none => refuseWith .noSuch s
        | some g => (s, Reply.ok (u16 j.id ++ u16 f.seq ++ g.fields))
  | _, _ => refuseWith .outOfRange s

/-- SNAP_HOLD (R141). -/
def State.snapHold (s : State) (code : Byte) : State × Reply :=
  match boolCode code with
  | none => refuseWith .outOfRange s
  | some b => accept { s with hold := b }

/-! ### RESULT_LIST, RESULT_READ, RESULT_RELEASE (R150 to R152) -/

/-- RESULT_LIST (R150): the count, then the oldest ids, up to 16. -/
def State.resultList (s : State) : State × Reply :=
  (s, Reply.ok (u8 s.results.length ++ ((s.results.take Config.listedIds).map u16).flatten))

/-- The four criterion outcomes (R188). -/
def Criteria.outcomeFields (c : Criteria) : Fields :=
  one c.frequency.code ++ one c.mask.code ++ one c.jitter.code ++ one c.spur.code

/-- The mask tally (R188). -/
def MaskTally.fields (t : MaskTally) : Fields := u8 t.checked ++ u8 t.failed ++ u8 t.inconclusive ++ u8 t.noData

/-- The end reason of a record, which a DONE record has (R79). -/
def Job.reasonFields (j : Job) : Fields := orUndefined 1 (fun r => one (EndReason.code r)) j.reason

/-- The summary part after the status byte (R151, R188). -/
def Job.summaryFields (j : Job) (r : Result) : Fields :=
  u16 j.id ++ u8 j.site.val ++ u8 j.plan.val ++ u8 r.startBand.number ++ u8 r.stopBand.number ++ u8 j.group.val ++
    one j.priority.code ++ one r.verdict.code ++ j.reasonFields ++ one r.binClass.code ++ u8 r.bin.val ++
    optField 1 (fun c => one (Cause.code c)) r.cause ++ one j.flags.byte ++ j.sharedBlocks ++ optField 4 u32 j.duration ++
    optField 4 Criteria.outcomeFields r.criteria ++ orUndefined 4 (fun c => MaskTally.fields c.tally) r.criteria ++
    flag r.spectrum.isSome

/-- A jitter entry (R185, R188). -/
def JitterEntry.fields (e : JitterEntry) : Fields :=
  u32 e.band.fLo ++ u32 e.band.fHi ++ u32 e.band.limit ++ u32 (e.value.getD 0) ++ s16 (e.noise.getD noDataValue) ++
    one e.flagByte ++ one e.outcome.code

/-- A spur entry (R188). -/
def Spur.fields (x : Spur) : Fields := u32 x.offset ++ s16 x.level

/-- A list part: presence, count, entries; count 0 for a terminal result (R188). -/
def listPart {α : Type} (f : α → Fields) : Option (List α) → Fields
  | none => flag false ++ u8 0
  | some xs => flag true ++ u8 xs.length ++ (xs.map f).flatten

/-- A part of a result (R151); none for a band it has no segment of. -/
def Job.partFields (j : Job) (r : Result) : ResultPart → Option Fields
  | .summary => some (j.summaryFields r)
  | .jitter => some (listPart JitterEntry.fields r.jitter)
  | .spurs => some (listPart Spur.fields r.spurs)
  | .band b => (r.spectrum.bind fun gs => gs.find? fun g => g.band == b).map Segment.fields

/-- RESULT_READ (R151). -/
def State.resultRead (s : State) (id : Half) (part : Byte) : State × Reply :=
  match resultPartOf part with
  | none => refuseWith .outOfRange s
  | some p => match s.job? id.toNat with
    | none => refuseWith .noSuch s
    | some j => match j.result with
      | none => refuseWith .wrongState s
      | some r => match j.partFields r p with
        | none => refuseWith .noSuch s
        | some fields => (s, Reply.ok fields)

/-- A DONE record removed (R152). -/
def State.dropJob (s : State) (j : Job) : State :=
  { s with
    jobs := s.jobs.filter fun k => k.id != j.id
    results := s.results.filter fun i => i != j.id
    freeSegments := s.freeSegments + j.spectrumSize }.callArbiterIf (decide (0 < j.spectrumSize))

/-- RESULT_RELEASE (R152). -/
def State.resultRelease (s : State) (id : Half) : State × Reply :=
  match s.job? id.toNat with
  | none => refuseWith .noSuch s
  | some j => if j.state = .done then accept (s.dropJob j) else refuseWith .wrongState s

end Sys2Proof.Machine
end

