-- ==== Sys2Proof/Machine/Acquisitions.lean ====
section
/-! DEFINITION. The meanings of the lanes' events: tuning (R70 to R73), averages (R86 to R88), the early-stop test (R98 to
R100), snapshots (R96, R140), the time limit (R101) and evaluation (R104, R146). -/

namespace Sys2Proof.Machine

open Host

/-! ### Tuning (R70 to R73) -/

/-- The synthesizer setting for a carrier nominal and a frequency error, in units of 10 ^ -9 Hz (R71). -/
def synthSetting (nominal : Nat) (error : Int) : Nat := (nominal * (10 ^ 9 + error)).toNat

/-- A recount written into the site's last count and the job's recount field (R70). -/
def State.writeRecount (s : State) (i : SiteId) (id : Nat) (count : CountRecord) : State :=
  (s.setSite i { s.site i with lastCount := some count }).updateJob id fun j => { j with recount := some count }

/-- A recount that found the carrier (R71): both synthesizers set, the lock timer running. -/
def State.beginLock (s : State) (l : LaneId) (setting : Nat) : State :=
  s.setLane l { s.lane l with
    tune := some .locking, channels := (s.lane l).channels.map fun c => { c with synth := setting } }

/-- A recount without a carrier (R70): the site enters NO_CARRIER with SITE_ALERT and opens its connection, and its running
and waiting jobs end NO_CARRIER. -/
def State.loseCarrier (s : State) (i : SiteId) : State :=
  ((s.siteAlert i ((s.site i).enterNoCarrier s.now)).openConnection i).endJobs .noCarrier (s.endableAt i)

/-- A recount gate that ends at a connected site, for the job with an id (R70, R71). -/
def State.takeRecount (s : State) (l : LaneId) (i : SiteId) (id : Nat) (frequency : Option Rat) (level : Rat) : State :=
  let count := s.countAt i frequency
  let s := s.writeRecount i id count
  if carrierPresent (s.site i) count level then
    s.beginLock l (synthSetting (s.site i).applied.supply.carrier (count.error.getD 0))
  else s.loseCarrier i

/-- RECOUNT_GATE_END (R70, R71). A connected site is MEASURING (R62; assumption 28). -/
def State.recountGateEnd (s : State) (l : LaneId) (frequency : Option Rat) (level : Rat) : State :=
  match (s.lane l).tune, (s.lane l).connected, (s.lane l).job with
  | some .recount, some i, some id =>
    if (s.site i).state = .measuring then s.takeRecount l i id frequency level else s
  | _, _, _ => s

/-- The meaning of RECOUNT_GATE_END. -/
def execRecountGateEnd (l : LaneId) (frequency : Option Rat) (level : Rat) (s : State) : Outcome State Fault Refusal :=
  .next ((s.recountGateEnd l frequency level).close s)

/-- A gang member that completed tuning waits for the others (R73). -/
def State.enterGangWait (s : State) (j : Job) (l : LaneId) : State :=
  (s.updateJob j.id fun j => { j with state := .gangWait }).setLane l { s.lane l with state := .gangWait, tune := none }

/-- LOCK_EVENT (R71, R73): the failure count returns to 0; a single job starts, a gang member enters GANG_WAIT. -/
def State.lockEvent (s : State) (l : LaneId) : State :=
  match (s.lane l).tune, s.jobOn l .tuning with
  | some .locking, some j =>
    let s := s.setLane l { s.lane l with tuneFailures := 0 }
    match j.gang with
    | none => s.startAcquisition j l
    | some _ => s.enterGangWait j l
  | _, _ => s

/-- The meaning of LOCK_EVENT. -/
def execLockEvent (l : LaneId) (s : State) : Outcome State Fault Refusal := .next ((s.lockEvent l).close s)

/-- Step 4 of R72 for a single job with attempts left: back to QUEUED, with its sequence, flags and recount kept. -/
def State.requeue (s : State) (j : Job) : State :=
  (s.updateJob j.id fun j => { j with state := .queued, attempts := j.attempts + 1, lane := none }).callArbiter

/-- Step 4 of R72. -/
def State.tuneOutcome (s : State) (j : Job) : State :=
  if j.gang = none ∧ j.attempts < 2 then s.requeue j
  else s.recordEnd j.id .laneTune (s.resultFor j (terminalVerdict .laneTune) none)

/-- Step 5 of R72: the third consecutive failure takes the lane out of service with LANE_ALERT, by way of a pending
calibration if there is one. -/
def State.releaseFailed (s : State) (l : LaneId) : State :=
  if (s.lane l).tuneFailures < 3 then s.releaseLane l
  else
    let s := (s.setLane l (s.lane l).withoutJob).raise .laneAlert
    if (s.lane l).calPending then s.beginCalibration l true
    else (s.setLane l { s.lane l with state := .outOfService }).callArbiter

/-- LOCK_TIMER_EXPIRY (R72). -/
def State.lockTimerExpiry (s : State) (l : LaneId) : State :=
  match (s.lane l).tune, s.jobOn l .tuning with
  | some .locking, some j =>
    let s := s.setLane l { s.lane l with tuneFailures := (s.lane l).tuneFailures + 1 }
    let s := (s.returnBuffer j).releaseSite l
    (s.tuneOutcome j).releaseFailed l
  | _, _ => s

/-- The meaning of LOCK_TIMER_EXPIRY. -/
def execLockTimerExpiry (l : LaneId) (s : State) : Outcome State Fault Refusal := .next ((s.lockTimerExpiry l).close s)

/-! ### Averages (R86 to R88) -/

/-- An average added to the sums of one bin (R88). -/
def addBin (x y : BinSums) : BinSums := ⟨x.re + y.re, x.im + y.im, x.a + y.a, x.b + y.b⟩

/-- An average added to the sums of a band's bins, in ascending index; a bin the average does not carry adds nothing
(assumption 15). -/
def addSums : List BinSums → List BinSums → List BinSums
  | x :: xs, y :: ys => addBin x y :: addSums xs ys
  | xs, _ => xs

/-- A rejected completion (R87): the sums stand, the rejected count is held at 65535, and the next average begins clean. -/
def BandAcq.reject (b : BandAcq) : BandAcq :=
  { b with rejected := min 65535 (b.rejected + 1), completions := b.completions + 1, spoiled := false }

/-- An accepted completion against the band's target (R86, R88). -/
def BandAcq.accept (b : BandAcq) (target : Nat) (sums : List BinSums) : BandAcq :=
  { b with
    sums := addSums b.sums sums
    accepted := b.accepted + 1
    completions := b.completions + 1
    inProgress := decide (b.accepted + 1 < target) }

/-- A completion of a band's average in progress (R86 to R88). -/
def BandAcq.complete (b : BandAcq) (target : Nat) (sums : List BinSums) : BandAcq :=
  if b.spoiled then b.reject else b.accept target sums

/-- The acquisition of a lane in ACQUIRING. -/
def State.running? (s : State) (l : LaneId) : Option (Job × Acquisition) :=
  match s.jobOn l .acquiring, (s.lane l).acquisition with
  | some j, some a => some (j, a)
  | _, _ => none

/-- A band's record in an acquisition. -/
def Acquisition.find (a : Acquisition) (b : BandId) : Option BandAcq := a.bands.find? fun x => x.band == b

/-- A band's record replaced. -/
def Acquisition.replace (a : Acquisition) (x : BandAcq) : Acquisition :=
  { a with bands := a.bands.map fun y => if y.band = x.band then x else y }

/-- Whether every selected band has reached its target (R100). -/
def Acquisition.complete (a : Acquisition) (p : Plan) : Bool :=
  a.bands.all fun x => decide (p.bands[x.band].target ≤ x.accepted)

/-- Whether every selected band holds its minimum (R98). -/
def Acquisition.minimumsMet (a : Acquisition) (p : Plan) : Bool :=
  a.bands.all fun x => decide (p.bands[x.band].minimum ≤ x.accepted)

/-- The provisional criteria of an evaluation point (R99, R129). -/
def State.provisional (s : State) (j : Job) (a : Acquisition) : Criteria :=
  let p := s.planOf j
  let x := computeSpectrum p a
  decideCriteria p (s.maskOf p) j.recount a x (jitterEntries p x a.nominal)

/-- What an accepted completion of a band ends the acquisition with, if anything (R98 to R100). -/
def State.completionEnds (s : State) (j : Job) (a : Acquisition) (b : BandId) : Option EndReason :=
  let p := s.planOf j
  if a.complete p then some .complete
  else if b = p.startBand ∧ a.minimumsMet p = true ∧ p.earlyStop = true then earlyStop (s.provisional j a) j.flags
  else none

/-- The acquisition duration in ms of an acquisition that ends at a completion (R103): the band's completions so far, each
its per-average time (assumption 27). -/
def completionDuration (x : BandAcq) : Nat := (roundDiv (x.completions * Config.averageTime x.band : Nat) 100).toNat

/-- A band's counts in the job record follow its acquisition record (R87, R88). -/
def State.followCounts (s : State) (j : Job) (x : BandAcq) : State :=
  s.updateJob j.id fun j => { j with counts := j.counts.map fun v => v.set x.band ⟨x.accepted, x.rejected⟩ }

/-- A completion of a band's average in progress on a lane (R86 to R88, R98 to R100). -/
def State.completeBand (s : State) (l : LaneId) (j : Job) (a : Acquisition) (x : BandAcq) (sums : List BinSums) : State :=
  let y := x.complete (s.planOf j).bands[x.band].target sums
  let a := a.replace y
  let s := (s.setLane l { s.lane l with acquisition := some a }).followCounts j y
  if x.spoiled then s
  else match s.completionEnds j a x.band with
    | some reason => s.endAcquisition l j a reason (completionDuration y)
    | none => s

/-- BAND_COMPLETION (R86 to R88): a band with no average in progress takes no completion. -/
def State.bandCompletion (s : State) (l : LaneId) (band : BandId) (sums : List BinSums) : State :=
  match s.running? l with
  | none => s
  | some (j, a) => match a.find band with
    | none => s
    | some x => if x.inProgress then s.completeBand l j a x sums else s

/-- The meaning of BAND_COMPLETION. -/
def execBandCompletion (l : LaneId) (band : BandId) (sums : List BinSums) (s : State) : Outcome State Fault Refusal :=
  .next ((s.bandCompletion l band sums).close s)

/-- A band reached by a disturbance (R87): its average in progress is spoiled. -/
def BandAcq.disturb (b : BandAcq) : BandAcq := { b with spoiled := b.spoiled || b.inProgress }

/-- CAPTURE_DISTURBANCE (R87), of either cause: taken in ACQUIRING alone. -/
def State.captureDisturbance (s : State) (l : LaneId) : State :=
  match s.running? l with
  | none => s
  | some (_, a) => s.setLane l { s.lane l with acquisition := some { a with bands := a.bands.map BandAcq.disturb } }

/-- The meaning of CAPTURE_DISTURBANCE: a tracking slip and a detector overload act alike (R87). -/
def execCaptureDisturbance (l : LaneId) (_cause : Disturbance) (s : State) : Outcome State Fault Refusal :=
  .next ((s.captureDisturbance l).close s)

/-! ### Snapshots and the time limit (R96, R101, R140) -/

/-- A snapshot fill: W is filled, and published with SNAPSHOT raised unless the hold is on (R140). -/
def State.snapshot (s : State) (j : Job) (a : Acquisition) : State :=
  let fill := (computeSpectrum (s.planOf j) a).segments
  let t := s.updateJob j.id fun j => { j with buffer := j.buffer.map fun b => b.fill fill s.hold }
  if s.hold then t else t.raise .snapshot

/-- SNAPSHOT_TIMER_EXPIRY (R96, R140). -/
def State.snapshotTimerExpiry (s : State) (l : LaneId) : State :=
  match s.running? l with
  | none => s
  | some (j, a) => if a.snapTimer.isSome then s.snapshot j a else s

/-- The meaning of SNAPSHOT_TIMER_EXPIRY. -/
def execSnapshotTimerExpiry (l : LaneId) (s : State) : Outcome State Fault Refusal :=
  .next ((s.snapshotTimerExpiry l).close s)

/-- MAX_DURATION_EXPIRY (R101): the acquisition ends TIMEOUT after the whole time limit. -/
def State.maxDurationExpiry (s : State) (l : LaneId) : State :=
  match s.running? l with
  | none => s
  | some (j, a) => match a.maxTimer with
    | some limit => s.endAcquisition l j a .timeout limit
    | none => s

/-- The meaning of MAX_DURATION_EXPIRY. -/
def execMaxDurationExpiry (l : LaneId) (s : State) : Outcome State Fault Refusal := .next ((s.maxDurationExpiry l).close s)

/-! ### Evaluation (R104, R130, R146, R148) -/

/-- The result of an evaluated job (R104, R130, R131, R133, R146): its spectrum is the final fill. -/
def State.evaluate (s : State) (j : Job) (a : Acquisition) : Result :=
  let p := s.planOf j
  let x := computeSpectrum p a
  let entries := jitterEntries p x a.nominal
  let c := decideCriteria p (s.maskOf p) j.recount a x entries
  let v := evaluatedVerdict c j.flags
  { s.resultFor j v (if v = .fail then primaryCause c else none) with
    criteria := some c
    jitter := some entries
    spurs := some (spurList p x.spurs)
    spectrum := some x.segments }

/-- The segments of N and F, which return to the pool at evaluation end (R146). -/
def BufferSet.returned (b : BufferSet) : Nat := b.size - b.bands

/-- EVALUATION_END (R104, R146): the job ends with its result, N and F return, and the lane is released. -/
def State.evaluationEnd (s : State) (l : LaneId) : State :=
  match s.jobOn l .evaluating, (s.lane l).acquisition with
  | some j, some a =>
    let r := s.evaluate j a
    let s := s.setFree (s.freeSegments + (j.buffer.map BufferSet.returned).getD 0)
    (s.recordEnd j.id (a.reason.getD .complete) r).releaseLane l
  | _, _ => s

/-- The meaning of EVALUATION_END. -/
def execEvaluationEnd (l : LaneId) (s : State) : Outcome State Fault Refusal := .next ((s.evaluationEnd l).close s)

end Sys2Proof.Machine
end

