-- ==== Sys2Proof/Machine/PlanTable.lean ====
section
/-! DEFINITION. Chapter 3: the requests of the plan table, for plan slots, mask slots and the bin map. -/

namespace Sys2Proof.Machine

/-! ### PLAN_PUT (R39 to R44) -/

/-- A field clamped into a range. -/
def clampNat (lo hi x : Nat) : Nat := min hi (max lo x)

/-- An optional field by its presence flag (R40): none for a flag other than 0 or 1. -/
def presence {α : Type} (flag : Byte) (x : α) : Option (Option α) :=
  (boolCode flag).map fun b => if b then some x else none

/-- What the structural check of R40 finds in a PLAN_PUT. -/
structure PlanShape where
  startBand : BandId
  stopBand : BandId
  earlyStop : Bool
  mask : Option MaskId
  spur : Bool
  tolerance : Bool
  jitterCount : Nat
  deriving DecidableEq, Repr

/-- The mask field of a PLAN_PUT (R40): a present mask slot must be one of the eight. -/
def maskFieldOf (flag slot : Byte) : Option (Option MaskId) :=
  match presence flag slot with
  | none => none
  | some none => some none
  | some (some m) => (codeBelow 8 m).map some

/-- The structural check (R40). -/
def planShapeOf (f : PlanFields) : Option PlanShape := do
  let start ← bandOf f.startBand
  let stop ← bandOf f.stopBand
  let early ← boolCode f.earlyStop
  let mask ← maskFieldOf f.maskPresent f.mask
  let spur ← boolCode f.spurPresent
  let tolerance ← boolCode f.tolerancePresent
  if start ≤ stop ∧ f.jitterCount.toNat ≤ 4 then some ⟨start, stop, early, mask, spur, tolerance, f.jitterCount.toNat⟩
  else none

/-- The grid index of a band's last point (R41). -/
def lastPoint (b : BandId) : Nat := Config.firstPoint b + Config.pointCount b - 1

/-- The jitter bands within the count, in the order sent (R40). -/
def jitterBandsOf (f : PlanFields) (count : Nat) : List JitterBand :=
  (f.jitter.toList.take count).map fun b => ⟨b.fLo.toNat, b.fHi.toNat, b.limit.toNat⟩

/-- The check of a jitter band against the selected span, by the exact grid offsets, and of its limit (R41). -/
def jitterBandLegal (x : PlanShape) (b : JitterBand) : Bool :=
  gridAtMost (Config.firstPoint x.startBand) b.fLo && decide (b.fLo < b.fHi) && gridAtLeast (lastPoint x.stopBand) b.fHi &&
    decide (1 ≤ b.limit) && decide (b.limit ≤ 1000000)

/-- A band entry after clamping (R42): the minimum against the stored target. -/
def clampTarget (t : BandFields) : BandTarget :=
  let target := clampNat 1 4096 t.target.toNat
  ⟨target, clampNat 1 target t.minimum.toNat⟩

/-- The floor margin after clamping: into 0 to 2000, then rounded down to a multiple of 50 (R42). -/
def clampMargin (x : Int) : Int := clampInt 0 2000 x / 50 * 50

/-- The snapshot interval after clamping: 0 stays 0 (R42). -/
def clampSnapshot (x : Nat) : Nat := if x = 0 then 0 else clampNat 100 10000 x

/-- The spur rule after clamping (R42). -/
def clampSpur (f : PlanFields) : SpurRule :=
  ⟨clampNat 600 4000 f.spurThreshold.toNat, clampInt (-14000) (-2000) f.spurLimit.toInt, min f.spurReport.toNat 8⟩

/-- The stored form of a plan that passed checks 3 and 4 (R40, R42). -/
def storedPlan (f : PlanFields) (x : PlanShape) : Plan where
  startBand := x.startBand
  stopBand := x.stopBand
  bands := Vector.ofFn fun b => if x.startBand ≤ b ∧ b ≤ x.stopBand then clampTarget f.bands[b] else ⟨0, 0⟩
  maxDuration := clampNat 100 600000 f.maxDuration.toNat
  earlyStop := x.earlyStop
  snapshot := clampSnapshot f.snapshot.toNat
  margin := clampMargin f.margin.toInt
  mask := x.mask
  jitter := jitterBandsOf f x.jitterCount
  spur := if x.spur then some (clampSpur f) else none
  tolerance := if x.tolerance then some (min f.tolerance.toNat 1000000) else none

/-- An identifier where a stored value differs from the value sent. -/
def reportIf (moved : Bool) (i : ClampId) : List ClampId := if moved then [i] else []

/-- The clamp report of a PLAN_PUT, in ascending order of the identifiers' codes (R42, R175). -/
def planClamps (f : PlanFields) (p : Plan) : List ClampId :=
  (p.selected.map fun b => reportIf (p.bands[b].target != f.bands[b].target.toNat) (.target b)).flatten ++
    (p.selected.map fun b => reportIf (p.bands[b].minimum != f.bands[b].minimum.toNat) (.minimum b)).flatten ++
    reportIf (p.maxDuration != f.maxDuration.toNat) .maxDuration ++
    reportIf (p.snapshot != f.snapshot.toNat) .snapshotInterval ++
    reportIf (p.margin != f.margin.toInt) .floorMargin ++
    (match p.spur with
      | none => []
      | some r => reportIf (r.threshold != f.spurThreshold.toNat) .spurThreshold ++
          reportIf (r.limit != f.spurLimit.toInt) .spurLimit ++ reportIf (r.report != f.spurReport.toNat) .spurReport) ++
    (match p.tolerance with
      | none => []
      | some t => reportIf (t != f.tolerance.toNat) .freqTolerance)

/-- The maximum duration is at least the time every selected band needs for its minimum (R43), in units of 0.01 ms. -/
def durationSuffices (p : Plan) : Bool :=
  p.selected.all fun b => decide (Config.averageTime b * p.bands[b].minimum ≤ 100 * p.maxDuration)

/-- PLAN_PUT's checks 3 to 7 on the content (R39), for a slot that may be replaced: the plan to store, or the refusal. -/
def State.checkPlan (s : State) (f : PlanFields) : Except Status Plan :=
  match planShapeOf f with
  | none => .error .outOfRange
  | some x =>
    let p := storedPlan f x
    if !(jitterBandsOf f x.jitterCount).all (jitterBandLegal x) then .error .outOfRange
    else if !durationSuffices p then .error .outOfRange
    else if p.mask.any fun m => (s.masks[m]).isNone then .error .noSuch
    else .ok p

/-- PLAN_PUT (R39 to R44). -/
def State.planPut (s : State) (f : PlanFields) : State × Reply :=
  match codeBelow 32 f.slot with
  | none => refuseWith .outOfRange s
  | some i =>
    if s.useCount i ≠ 0 then refuseWith .inUse s
    else match s.checkPlan f with
      | .error st => refuseWith st s
      | .ok p => ({ s with plans := s.plans.set i (some p) }, Reply.ok (clampReport (planClamps f p)))

/-! ### PLAN_GET, PLAN_DROP (R45, R46) -/

/-- A stored plan as the PLAN_PUT fields that PLAN_GET sends: what was not stored reads as zeros (R45). -/
def Plan.toFields (slot : PlanId) (p : Plan) : PlanFields where
  slot := BitVec.ofNat 8 slot.val
  startBand := BitVec.ofNat 8 p.startBand.number
  stopBand := BitVec.ofNat 8 p.stopBand.number
  bands := p.bands.map fun b => ⟨BitVec.ofNat 16 b.target, BitVec.ofNat 16 b.minimum⟩
  maxDuration := BitVec.ofNat 32 p.maxDuration
  earlyStop := if p.earlyStop then 1 else 0
  snapshot := BitVec.ofNat 16 p.snapshot
  margin := BitVec.ofInt 16 p.margin
  maskPresent := if p.mask.isSome then 1 else 0
  mask := (p.mask.map fun m => BitVec.ofNat 8 m.val).getD 0
  jitterCount := BitVec.ofNat 8 p.jitter.length
  jitter := Vector.ofFn fun k => match p.jitter[k.val]? with
    | some b => ⟨BitVec.ofNat 32 b.fLo, BitVec.ofNat 32 b.fHi, BitVec.ofNat 32 b.limit⟩
    | none => ⟨0, 0, 0⟩
  spurPresent := if p.spur.isSome then 1 else 0
  spurThreshold := (p.spur.map fun r => BitVec.ofInt 16 r.threshold).getD 0
  spurLimit := (p.spur.map fun r => BitVec.ofInt 16 r.limit).getD 0
  spurReport := (p.spur.map fun r => BitVec.ofNat 8 r.report).getD 0
  tolerancePresent := if p.tolerance.isSome then 1 else 0
  tolerance := (p.tolerance.map fun t => BitVec.ofNat 32 t).getD 0

/-- PLAN_GET (R45, R187). -/
def State.planGet (s : State) (slot : Byte) : State × Reply :=
  match codeBelow 32 slot with
  | none => refuseWith .outOfRange s
  | some i => match s.plans[i] with
    | none => refuseWith .noSuch s
    | some p => (s, Reply.ok ((p.toFields i).bytes.map some ++ u8 (s.useCount i)))

/-- PLAN_DROP (R46). -/
def State.planDrop (s : State) (slot : Byte) : State × Reply :=
  match codeBelow 32 slot with
  | none => refuseWith .outOfRange s
  | some i => match s.plans[i] with
    | none => refuseWith .noSuch s
    | some _ =>
      if s.useCount i ≠ 0 then refuseWith .inUse s else accept { s with plans := s.plans.set i none }

/-! ### Masks (R48 to R50) -/

/-- The vertices a MASK_PUT carries within its count (R48). -/
def verticesOf (f : MaskFields) : List Vertex :=
  (f.vertices.toList.take f.count.toNat).map fun v => ⟨v.offset.toNat, v.limit.toInt⟩

/-- Offsets strictly increasing (R48, check 5). -/
def offsetsRise : List Vertex → Bool
  | v :: w :: rest => decide (v.offset < w.offset) && offsetsRise (w :: rest)
  | _ => true

/-- Checks 3 to 6 of R48. -/
def maskLegal (f : MaskFields) : Bool :=
  decide (2 ≤ f.count.toNat) && decide (f.count.toNat ≤ 16) &&
    (verticesOf f).all (fun v => decide (10 ≤ v.offset) && decide (v.offset ≤ 10000000)) && offsetsRise (verticesOf f) &&
    (verticesOf f).all fun v => decide (-20000 ≤ v.limit) && decide (v.limit ≤ -4000)

/-- MASK_PUT (R48, R49). -/
def State.maskPut (s : State) (f : MaskFields) : State × Reply :=
  match codeBelow 8 f.slot with
  | none => refuseWith .outOfRange s
  | some m =>
    if s.maskBusy m then refuseWith .inUse s
    else if maskLegal f then accept { s with masks := s.masks.set m (some (verticesOf f)) }
    else refuseWith .outOfRange s

/-- A vertex place of MASK_GET: zeros where unused (R50). -/
def vertexFields (vs : List Vertex) (k : Nat) : Fields :=
  match vs[k]? with
  | some v => u32 v.offset ++ s16 v.limit
  | none => u32 0 ++ s16 0

/-- MASK_GET (R50, R187). -/
def State.maskGet (s : State) (slot : Byte) : State × Reply :=
  match codeBelow 8 slot with
  | none => refuseWith .outOfRange s
  | some m => match s.masks[m] with
    | none => refuseWith .noSuch s
    | some vs => (s, Reply.ok (u8 vs.length ++ ((List.range 16).map (vertexFields vs)).flatten ++
        flag (s.maskReferenced m) ++ flag (s.maskBusy m)))

/-- MASK_DROP (R49). -/
def State.maskDrop (s : State) (slot : Byte) : State × Reply :=
  match codeBelow 8 slot with
  | none => refuseWith .outOfRange s
  | some m => match s.masks[m] with
    | none => refuseWith .noSuch s
    | some _ =>
      if s.maskReferenced m then refuseWith .inUse s else accept { s with masks := s.masks.set m none }

/-! ### The bin map (R53) -/

/-- A bin sent for a class; 0 stands for a number above 15, which R53 refuses before it is used. -/
def binOf (b : Byte) : Fin 16 := (codeBelow 16 b).getD 0

/-- BINMAP_PUT (R53). -/
def State.binmapPut (s : State) (bins : Vector Byte 9) : State × Reply :=
  if bins.all fun b => decide (b.toNat < 16) then accept { s with binMap := bins.map binOf } else refuseWith .outOfRange s

/-- BINMAP_GET (R53). -/
def State.binmapGet (s : State) : State × Reply := (s, Reply.ok (s.binMap.toList.map fun b => some (BitVec.ofNat 8 b.val)))

end Sys2Proof.Machine
end

