-- ==== Sys2Proof/Machine/Calibration.lean ====
section
/-! DEFINITION. Chapter 9: the CAL requests and the meanings of the calibration unit's events. -/

namespace Sys2Proof.Machine

open Host

/-! ### CAL_START (R63, R159) -/

/-- The range set of a request (R159): range 2 alone for QUICK; for FULL the selections, each 0 or 1 and at least one 1. -/
def rangeSetOf (kind : CalKind) (ranges : Vector Byte 4) : Option (Vector Bool 4) :=
  match kind with
  | .quick => some #v[false, true, false, false]
  | .full =>
    if ranges.all (fun b => (boolCode b).isSome) && ranges.any (fun b => b == 1) then some (ranges.map fun b => b == 1)
    else none

/-- The record of an accepted CAL_START before it runs (R158, R159): PENDING, every step NOT_RUN, nothing measured. -/
def CalRecord.claimed (kind : CalKind) (ranges : Vector Bool 4) : CalRecord :=
  { CalRecord.reset with status := .pending, kind := some kind, ranges := ranges }

/-- Whether a lane serves a job (R63). -/
def LaneState.serving : LaneState → Bool
  | .tuning | .gangWait | .acquiring | .evaluating => true
  | .idle | .reserved | .calibrating | .outOfService => false

/-- A claim on a lane that enters CALIBRATING at once (R63): the arbiter reconsiders where the lane was RESERVED or
OUT_OF_SERVICE (R65). -/
def State.claimNow (s : State) (l : LaneId) (kind : CalKind) (ranges : Vector Bool 4) : State :=
  let st := (s.lane l).state
  ((s.setCalRecord l (CalRecord.claimed kind ranges)).beginCalibration l (st == .outOfService)).callArbiterIf
    (st == .reserved || st == .outOfService)

/-- A claim on a lane that serves a job (R63): cal-pending is set and the job continues. -/
def State.claimLater (s : State) (l : LaneId) (kind : CalKind) (ranges : Vector Bool 4) : State :=
  (s.setLane l { s.lane l with calPending := true }).setCalRecord l (CalRecord.claimed kind ranges)

/-- The claim of R63, with the reply of R159. -/
def State.claim (s : State) (l : LaneId) (kind : CalKind) (ranges : Vector Bool 4) : State × Reply :=
  let x := s.lane l
  if x.state = .calibrating ∨ x.calPending = true then refuseWith .inUse s
  else if x.state.serving then (s.claimLater l kind ranges, Reply.ok (one CalStatus.pending.code))
  else (s.claimNow l kind ranges, Reply.ok (one CalStatus.running.code))

/-- CAL_START (R159). -/
def State.calStart (s : State) (f : CalStartFields) : State × Reply :=
  match codeBelow 4 f.lane, calKindOf f.kind with
  | some l, some k => match rangeSetOf k f.ranges with
    | none => refuseWith .outOfRange s
    | some r => s.claim l k r
  | _, _ => refuseWith .outOfRange s

/-! ### The steps (R160, R161) -/

/-- The place of a channel and a range in a lane's vectors of eight: channel A first (R155, R158). -/
def calIndex (ch : ChanId) (r : RangeId) : Fin 8 := ⟨4 * ch.val + r.val, by omega⟩

/-- A channel's part in the step replaced. -/
def Lane.setLock (x : Lane) (ch : ChanId) (k : ChannelLock) : Lane :=
  { x with channels := x.channels.set ch { x.channels[ch] with lock := k } }

/-- Whether a channel's lock timer runs in a calibration step (R160). -/
def Lane.calWaiting (x : Lane) (ch : ChanId) : Bool := x.state == .calibrating && x.channels[ch].lock == .waiting

/-- CAL_CHANNEL_LOCK (R160, step 2). -/
def State.calChannelLock (s : State) (l : LaneId) (ch : ChanId) : State :=
  if (s.lane l).calWaiting ch then s.setLane l ((s.lane l).setLock ch .locked) else s

/-- The meaning of CAL_CHANNEL_LOCK. -/
def execCalChannelLock (l : LaneId) (ch : ChanId) (s : State) : Outcome State Fault Refusal :=
  .next ((s.calChannelLock l ch).close s)

/-- A step result written into the record. -/
def CalRecord.setResult (x : CalRecord) (ch : ChanId) (r : RangeId) (k : StepResult) : CalRecord :=
  { x with results := x.results.set (calIndex ch r) k }

/-- CAL_LOCK_TIMER_EXPIRY (R160, step 2): the channel takes no part, and its result is NO_LOCK. -/
def State.calLockTimerExpiry (s : State) (l : LaneId) (ch : ChanId) : State :=
  if (s.lane l).calWaiting ch then
    let s := s.setLane l ((s.lane l).setLock ch .expired)
    match (s.calRecord l).step with
    | some r => s.setCalRecord l ((s.calRecord l).setResult ch r .noLock)
    | none => s
  else s

/-- The meaning of CAL_LOCK_TIMER_EXPIRY. -/
def execCalLockTimerExpiry (l : LaneId) (ch : ChanId) (s : State) : Outcome State Fault Refusal :=
  .next ((s.calLockTimerExpiry l ch).close s)

/-- A measured gain error as a value in cdB (R160, step 3). -/
def measuredGain (gain : Rat) : Int := clampInt (-32768) 32767 (roundRat gain)

/-- A working entry written. -/
def CoefSet.write (set : CoefSet) (l : LaneId) (i : Fin 8) (c : Coef) : CoefSet := set.set l (set[l].set i c)

/-- What a GOOD value writes into the working set (R160, step 3): the step's range for FULL, all four ranges for QUICK. -/
def CoefSet.writeGood (set : CoefSet) (l : LaneId) (ch : ChanId) (r : RangeId) (kind : CalKind) (c : Int) : CoefSet :=
  match kind with
  | .full => set.write l (calIndex ch r) ⟨c, .full⟩
  | .quick => (List.finRange 4).foldl (fun set q => set.write l (calIndex ch q) ⟨c, .quick⟩) set

/-- One channel at the measurement event (R160, steps 3 and 4); a channel that has not locked takes no part (assumption 16). -/
def State.measureChannel (s : State) (l : LaneId) (r : RangeId) (ch : ChanId) (gain : Rat) : State :=
  let x := s.calRecord l
  let c := measuredGain gain
  if (s.lane l).channels[ch].lock = .locked then
    let good := c.natAbs ≤ 600
    let y := { x with measured := x.measured.set (calIndex ch r) (some c) }.setResult ch r (if good then .good else .limit)
    let s := s.setCalRecord l y
    if good then
      { s with cal := { s.cal with working := s.cal.working.writeGood l ch r (x.kind.getD .full) c } }
    else s
  else s.setCalRecord l (x.setResult ch r .noLock)

/-- A lane's input back at the switch matrix, with no step (R161, R162). -/
def Lane.leaveSource (x : Lane) : Lane :=
  { x with source := none, channels := x.channels.map fun c => { c with lock := .idle } }

/-- A calibration's end (R161, R162): the record takes the outcome, CAL_END is raised, and the lane returns to IDLE, or to
OUT_OF_SERVICE when it started there and the outcome is not DONE. -/
def State.endCalibration (s : State) (l : LaneId) (outcome : CalStatus) : State :=
  let r := s.calRecord l
  let x := (s.lane l).leaveSource
  let back : Bool := outcome != .done && r.outOfService == some true
  (((s.setCalRecord l { r with status := outcome, step := none, ended := some s.now }).setLane l
    { x with
      state := if back then .outOfService else .idle
      tuneFailures := if outcome = .done then 0 else x.tuneFailures }).raise .calEnd).callArbiter

/-- The outcome of a calibration whose last step has been measured (R161): DONE when every step result of the range set is
GOOD for both channels. -/
def CalRecord.outcome (x : CalRecord) : CalStatus :=
  if (List.finRange 4).all fun r => !x.ranges[r] || (x.results[calIndex 0 r] == .good && x.results[calIndex 1 r] == .good)
  then .done else .bad

/-- MEASUREMENT_EVENT (R160, R161). -/
def State.measurementEvent (s : State) (l : LaneId) (gainA gainB : Rat) : State :=
  match (s.lane l).state, (s.calRecord l).step with
  | .calibrating, some r =>
    let s := (s.measureChannel l r 0 gainA).measureChannel l r 1 gainB
    match nextRange (s.calRecord l).ranges (r.val + 1) with
    | some q => s.beginStep l q
    | none => s.endCalibration l (s.calRecord l).outcome
  | _, _ => s

/-- The meaning of MEASUREMENT_EVENT. -/
def execMeasurementEvent (l : LaneId) (gainA gainB : Rat) (s : State) : Outcome State Fault Refusal :=
  .next ((s.measurementEvent l gainA gainB).close s)

/-! ### CAL_CANCEL, CAL_STORE, CAL_REVERT, CAL_READ (R162 to R165) -/

/-- A PENDING calibration cancelled (R162). -/
def State.cancelPending (s : State) (l : LaneId) : State :=
  ((s.setLane l { s.lane l with calPending := false }).setCalRecord l
    { s.calRecord l with status := .cancelled, ended := some s.now }).raise .calEnd

/-- CAL_CANCEL (R162). -/
def State.calCancel (s : State) (lane : Byte) : State × Reply :=
  match codeBelow 4 lane with
  | none => refuseWith .outOfRange s
  | some l => match (s.calRecord l).status with
    | .running => accept (s.endCalibration l .cancelled)
    | .pending => accept (s.cancelPending l)
    | .none | .done | .bad | .cancelled => refuseWith .wrongState s

/-- The store busy flag (R156, R163). -/
def CalUnit.busy (c : CalUnit) : Bool := c.image.isSome

/-- Whether the store state is VALID (R156): INVALID while a write is in progress (assumption 17). -/
def CalUnit.valid (c : CalUnit) : Bool := c.checkMatches && !c.busy

/-- CAL_STORE (R163): the write clears the old check value before it writes the entries (R156). Until the completion the stored
entries are the old ones (the model's choice, assumption 36). -/
def State.calStore (s : State) : State × Reply :=
  if s.cal.busy then refuseWith .inUse s
  else accept { s with cal := { s.cal with image := some s.cal.working, checkMatches := false } }

/-- STORE_COMPLETION (R163): all 32 entries are replaced at once (assumption 36). -/
def State.storeCompletion (s : State) : State :=
  match s.cal.image with
  | none => s
  | some c => { s with cal := { s.cal with stored := c, checkMatches := true, image := none } }

/-- The meaning of STORE_COMPLETION. -/
def execStoreCompletion (s : State) : Outcome State Fault Refusal := .next (s.storeCompletion.close s)

/-- A lane's entries set to the default (R164). -/
def CoefSet.revert (set : CoefSet) (l : LaneId) : CoefSet := set.set l (Vector.replicate 8 Coef.default)

/-- CAL_REVERT (R164): a lane number, or 4 for all lanes (R186). -/
def State.calRevert (s : State) (selector : Byte) : State × Reply :=
  if selector = 4 then accept { s with cal := { s.cal with working := CoefSet.default } }
  else match codeBelow 4 selector with
    | none => refuseWith .outOfRange s
    | some l => accept { s with cal := { s.cal with working := s.cal.working.revert l } }

/-- A range set as bits 0 to 3 (R187). -/
def rangeBits (v : Vector Bool 4) : Byte := flagBit v[0] 0 ||| flagBit v[1] 1 ||| flagBit v[2] 2 ||| flagBit v[3] 3

/-- A lane's coefficients, channel A ranges 1 to 4 and then B (R187). -/
def coefFields (v : Vector Coef 8) : Fields := (v.toList.map Coef.fields).flatten

/-- The calibration record as CAL_READ sends it (R187): what a record of status NONE lacks has undefined content
(assumption 25). -/
def CalRecord.fields (x : CalRecord) : Fields :=
  one x.status.code ++ orUndefined 1 (fun k => one (CalKind.code k)) x.kind ++
    orUndefined 1 (fun _ => one (rangeBits x.ranges)) x.kind ++ orUndefined 1 flag x.outOfService ++
    optField 1 (fun (r : RangeId) => u8 (r.val + 1)) x.step ++ optField 4 word32 x.started ++ optField 4 word32 x.ended ++
    orUndefined 8 (fun _ => x.results.toList.map fun k => some (StepResult.code k)) x.kind ++
    (x.measured.toList.map (orUndefined 2 s16)).flatten

/-- CAL_READ (R165, R187). -/
def State.calRead (s : State) (lane : Byte) : State × Reply :=
  match codeBelow 4 lane with
  | none => refuseWith .outOfRange s
  | some l =>
    let x := s.lane l
    (s, Reply.ok (one x.state.code ++ flag x.calPending ++ u8 x.tuneFailures ++ (s.calRecord l).fields ++
      coefFields s.cal.working[l] ++ flag s.cal.valid ++ flag s.cal.busy ++
      optField 24 coefFields (if s.cal.valid then some s.cal.stored[l] else none)))

end Sys2Proof.Machine
end

