-- ==== Sys2Proof/Machine/TimebaseUnit.lean ====
section
/-! DEFINITION. Chapter 2: REF_SET and REF_READ, the reference detector's events, window ends and holdover expiry. -/

namespace Sys2Proof.Machine

open Host

/-! ### Reports to the job controller (R32, R33) -/

/-- REF_LOST set (R33). -/
def JobFlags.lost (f : JobFlags) : JobFlags := { f with refLost := true }

/-- REF_HOLDOVER set (R33). -/
def JobFlags.heldOver (f : JobFlags) : JobFlags := { f with refHoldover := true }

/-- A flag change on every job in TUNING, GANG_WAIT or ACQUIRING (R33). -/
def State.flagRunning (s : State) (f : JobFlags → JobFlags) : State :=
  { s with jobs := s.jobs.map fun j => if j.state.running then { j with flags := f j.flags } else j }

/-- A change of discipline state or a reference change (R32, R33): the record is replaced, the running jobs are flagged,
REFERENCE is raised, and the arbiter reconsiders if the start condition changed. -/
def State.report (s : State) (t : Timebase) (f : JobFlags → JobFlags) : State :=
  let changed := t.startCondition != s.timebase.startCondition
  (({ s with timebase := t }.flagRunning f).raise .reference).callArbiterIf changed

/-! ### The record's changes (R26 to R31) -/

/-- Entry to FREE (R27, R29, R31): no window, no holdover, count 0. -/
def Timebase.enterFree (t : Timebase) : Timebase :=
  { t with discipline := .free, entered := t.uptime, goodCount := 0, windowStart := none, holdover := none }

/-- Entry to ACQUIRING with its first window (R27 to R31). -/
def Timebase.enterAcquiring (t : Timebase) : Timebase :=
  { t with discipline := .acquiring, entered := t.uptime, goodCount := 0, windowStart := some t.uptime, holdover := none }

/-- Entry to LOCKED at a window end, with the next window started (R29). -/
def Timebase.enterLocked (t : Timebase) : Timebase :=
  { t with discipline := .locked, entered := t.uptime, goodCount := 3, windowStart := some t.uptime, holdover := none }

/-- Entry to HOLDOVER (R30). -/
def Timebase.enterHoldover (t : Timebase) : Timebase :=
  { t with discipline := .holdover, entered := t.uptime, goodCount := 0, windowStart := none,
           holdover := some Config.holdoverMs }

/-- A reference change (R27). A changed external frequency makes the status not present; from then on the input is qualified
against the new frequency (R28). -/
def Timebase.change (t : Timebase) (mode : RefMode) (frequency : RefFreq) (window : RefWindow) : Timebase :=
  let same := t.frequency == frequency
  let t := { t with
    mode := mode
    frequency := frequency
    window := window
    lastOffset := none
    present := t.present && same : Timebase }.enterFree
  if mode = .external ∧ t.present = true then t.enterAcquiring else t

/-- A window-only REF_SET (R26). -/
def Timebase.changeWindow (t : Timebase) (window : RefWindow) : Timebase :=
  match t.discipline with
  | .free | .holdover => { t with window := window }
  | .acquiring => { t with window := window, goodCount := 0, windowStart := some t.uptime }
  | .locked => { t with window := window, windowStart := some t.uptime }

/-- An accepted REF_SET (R26, R27). -/
def State.setReference (s : State) (mode : RefMode) (frequency : RefFreq) (window : RefWindow) : State :=
  let t := s.timebase
  if t.mode ≠ mode ∨ t.frequency ≠ frequency then s.report (t.change mode frequency window) JobFlags.lost
  else if t.window ≠ window then { s with timebase := t.changeWindow window }
  else s

/-- REF_SET (R26). -/
def State.refSet (s : State) (mode frequency window : Byte) : State × Reply :=
  match modeOf mode, frequencyOf frequency, windowOf window with
  | some m, some f, some w =>
    let s := s.setReference m f w
    (s, Reply.ok (one s.timebase.discipline.code))
  | _, _, _ => refuseWith .outOfRange s

/-- The timebase record as REF_READ sends it (R36, R187). -/
def Timebase.fields (t : Timebase) : Fields :=
  one t.mode.code ++ one t.frequency.code ++ one t.window.code ++ one t.discipline.code ++ word32 t.entered ++
    u8 t.goodCount ++ flag t.present ++ optField 4 s32 t.lastOffset ++ optField 4 u32 t.holdover ++
    flag t.startCondition ++ word32 t.uptime

/-- REF_READ (R36). -/
def State.refRead (s : State) : State × Reply := (s, Reply.ok s.timebase.fields)

/-! ### Events -/

/-- An external frequency in Hz (R25). -/
def RefFreq.hz : RefFreq → Nat
  | .mhz10 => 10000000
  | .mhz100 => 100000000

/-- Whether the input qualifies (R28): a signal within ±100,000 ppb of the record's external frequency. -/
def Timebase.qualifies (t : Timebase) : Bool :=
  let hz : Rat := (t.frequency.hz : Nat)
  t.input.any fun f => decide (-hz ≤ 10000 * (f - hz)) && decide (10000 * (f - hz) ≤ hz)

/-- REFERENCE_PRESENT_EVENT (R28, R31): raised while the input qualifies and the status is not present. -/
def State.referencePresent (s : State) : State :=
  if s.timebase.present || !s.timebase.qualifies then s
  else
    let t := { s.timebase with present := true }
    match t.mode, t.discipline with
    | .external, .free => s.report t.enterAcquiring id
    | .external, .holdover => s.report t.enterAcquiring JobFlags.lost
    | _, _ => { s with timebase := t }

/-- The meaning of REFERENCE_PRESENT_EVENT. -/
def execReferencePresentEvent (s : State) : Outcome State Fault Refusal := .next (s.referencePresent.close s)

/-- REFERENCE_ABSENT_EVENT (R28 to R30): raised while the input does not qualify and the status is present. -/
def State.referenceAbsent (s : State) : State :=
  if s.timebase.present && !s.timebase.qualifies then
    let t := { s.timebase with present := false }
    match t.mode, t.discipline with
    | .external, .acquiring => s.report t.enterFree id
    | .external, .locked => s.report t.enterHoldover JobFlags.heldOver
    | _, _ => { s with timebase := t }
  else s

/-- The meaning of REFERENCE_ABSENT_EVENT. -/
def execReferenceAbsentEvent (s : State) : Outcome State Fault Refusal := .next (s.referenceAbsent.close s)

/-- The offset a window end writes (R29): rounded to a whole ppb and held at ±100,000 ppb. -/
def windowOffset (offset : Rat) : Int := clampInt (-100000) 100000 (roundRat offset)

/-- The record at a window end before its decision (R29, R30): offset written, oscillator steered by it, next window
started (assumption 12). -/
def Timebase.endWindow (t : Timebase) (o : Int) : Timebase :=
  { t with lastOffset := some o, steering := t.steering - o, windowStart := some t.uptime }

/-- WINDOW_END (R29, R30): taken in ACQUIRING and LOCKED while a window runs. -/
def State.windowEnd (s : State) (offset : Rat) : State :=
  let o := windowOffset offset
  let t := s.timebase.endWindow o
  if s.timebase.windowStart = none then s
  else match t.discipline with
    | .acquiring =>
      if o.natAbs ≤ 50 then
        if t.goodCount + 1 = 3 then s.report t.enterLocked id
        else { s with timebase := { t with goodCount := t.goodCount + 1 } }
      else { s with timebase := { t with goodCount := 0 } }
    | .locked =>
      if o.natAbs ≤ 200 then { s with timebase := t } else s.report t.enterAcquiring JobFlags.lost
    | .free | .holdover => s

/-- The meaning of WINDOW_END. -/
def execWindowEnd (offset : Rat) (s : State) : Outcome State Fault Refusal := .next ((s.windowEnd offset).close s)

/-- HOLDOVER_EXPIRY (R31). -/
def State.holdoverExpiry (s : State) : State :=
  if s.timebase.discipline = .holdover then s.report s.timebase.enterFree JobFlags.lost else s

/-- The meaning of HOLDOVER_EXPIRY. -/
def execHoldoverExpiry (s : State) : Outcome State Fault Refusal := .next (s.holdoverExpiry.close s)

/-- REFERENCE_INPUT_QUALIFY_CHANGE (R28): what the input carries changes, and with it whether the input qualifies against the
record's external frequency; the intervals that start or stop end with a present or an absent event (assumption 11). -/
def State.qualifyChange (s : State) (signal : Option Rat) : State :=
  { s with timebase := { s.timebase with input := signal } }

/-- The meaning of REFERENCE_INPUT_QUALIFY_CHANGE. -/
def execReferenceInputQualifyChange (signal : Option Rat) (s : State) : Outcome State Fault Refusal :=
  .next ((s.qualifyChange signal).close s)

end Sys2Proof.Machine
end

