-- ==== Sys2Proof/Machine/Resets.lean ====
section
/-! DEFINITION. The two resets, block by block (R6, R37, R54, R81, R154, R157, R168, R177, R183), and the meaning of
POWER_ON_RESET. -/

namespace Sys2Proof.Machine

open Host

/-! ### What either reset does -/

/-- The calibration unit at either reset (R157): a write in progress is abandoned, the working set is loaded from the stored
set where its check matches and is the default set otherwise, and every record is NONE. The stored entries stand, also those an
abandoned write was to replace (the model's choice, assumption 36). -/
def CalUnit.atReset (c : CalUnit) : CalUnit :=
  { c with
    working := if c.checkMatches then c.stored else CoefSet.default
    image := none
    records := Vector.replicate 4 CalRecord.reset }

/-! ### Soft reset (R183) -/

/-- The timebase record at a soft reset (R37): the uptime clock and the state entry uptime are 0, and the rest is kept. -/
def Timebase.softReset (t : Timebase) : Timebase := { t with uptime := 0, entered := 0 }

/-- A lane at a soft reset (R81): IDLE with nothing in progress. The synthesizers keep their settings
(assumption 13). -/
def Lane.softReset (x : Lane) : Lane := { Lane.reset with channels := x.channels.map fun c => ⟨c.synth, .idle⟩ }

/-- The port record at a soft reset (R183): the link state and rate are kept (assumption 24). -/
def Port.softReset (p : Port) : Port := { Port.reset with link := p.link }

/-- The soft reset (R183). The supply inhibit, the plans, the masks and the bin map are kept (R6, R54). -/
def State.softReset (s : State) : State :=
  { State.reset with
    port := s.port.softReset
    inhibit := s.inhibit
    timebase := s.timebase.softReset
    plans := s.plans
    masks := s.masks
    binMap := s.binMap
    lanes := s.lanes.map Lane.softReset
    cal := s.cal.atReset
    replies := s.replies
    pending := s.pending }

/-! ### Power-on reset -/

/-- The timebase record after power-on (R37). What the input carries comes from outside and stands; the detector qualifies it
against 10 MHz from then on (R28; assumption 11). -/
def Timebase.powerOn (t : Timebase) : Timebase := { Timebase.reset with input := t.input }

/-- Power-on reset: every block takes its power-on values, and only the stored coefficient set survives (R156). The waiting
commands and the number of replies formed are the model's own. -/
def State.powerOnReset (s : State) : State :=
  { State.reset with
    timebase := s.timebase.powerOn
    cal := s.cal.atReset
    replies := s.replies
    pending := s.pending }

/-- The meaning of POWER_ON_RESET. -/
def execPowerOnReset (s : State) : Outcome State Fault Refusal := .next s.powerOnReset

end Sys2Proof.Machine
end

