-- ==== Sys2Proof/Machine/LinkPort.lean ====
section
/-! DEFINITION. Chapter 10: the link port's own requests, the take of a request (R174), and the meanings of the events on the
line (R170 to R173, R176, R183). -/

namespace Sys2Proof.Machine

open Host

/-! ### The link port's own requests (R179 to R183) -/

/-- IDENT (R181, R187). -/
def State.ident (s : State) : State × Reply :=
  (s, Reply.ok (u16 0x4E5A ++ u16 0x0416 ++ u8 (65 + Config.revision.val) ++ u8 16 ++ u8 4 ++ u8 64 ++ u8 32 ++ u8 8 ++
    u8 192 ++ flag s.cal.valid))

/-- The number of job records in a state (R182). -/
def State.jobsIn (s : State) (st : JobState) : Nat := s.jobs.countP fun j => j.state == st

/-- The link rate code; STATUS is answered only in LOCKED (R189). -/
def Link.rateFields : Link → Fields
  | .search => undefinedBytes 1
  | .locked r => one (Rate.code r)

/-- STATUS (R182, R189). -/
def State.status (s : State) : State × Reply :=
  (s, Reply.ok (one s.timebase.mode.code ++ one s.timebase.discipline.code ++
    (s.sites.toList.map fun x => some x.state.code) ++
    (s.lanes.toList.map fun x => one x.state.code ++ flag x.calPending).flatten ++
    u8 (s.jobsIn .held) ++ u8 (s.jobsIn .queued) ++ u8 (s.jobsIn .tuning) ++ u8 (s.jobsIn .gangWait) ++
    u8 (s.jobsIn .acquiring) ++ u8 (s.jobsIn .evaluating) ++ u8 (s.jobsIn .done) ++
    u8 s.freeSegments ++ one s.events.pending ++ one s.events.mask ++ s.port.link.rateFields ++ flag s.inhibit ++
    word32 s.now))

/-- EVENTS_MASK (R179): notice due is set if the new mask holds a pending kind that the old mask did not hold. -/
def State.eventsMask (s : State) (mask : Byte) : State × Reply :=
  let added := s.events.pending &&& mask &&& ~~~s.events.mask
  ({ s with
      events := { s.events with mask := mask }
      port := { s.port with noticeDue := s.port.noticeDue || decide (added ≠ 0) } },
    Reply.ok (one mask ++ one s.events.pending))

/-- EVENTS_CLEAR (R180). -/
def State.eventsClear (s : State) (kinds : Byte) : State × Reply :=
  let left := s.events.pending &&& ~~~kinds
  ({ s with events := { s.events with pending := left } }, Reply.ok (one left))

/-- RESET (R183): answered OK; the soft reset waits for the end of the reply. -/
def State.resetRequest (s : State) : State × Reply := accept s

/-! ### Taking a request (R174) -/

/-- The block that owns the state a request names decides its effects and its reply (R174, step 3). -/
def State.carryOut (s : State) : Request → State × Reply
  | .ident => s.ident
  | .status => s.status
  | .eventsMask m => s.eventsMask m
  | .eventsClear k => s.eventsClear k
  | .reset => s.resetRequest
  | .siteSet f => s.siteSet f
  | .sitePower site code => s.sitePower site code
  | .siteClear site => s.siteClear site
  | .siteRead site => s.siteRead site
  | .refSet m f w => s.refSet m f w
  | .refRead => s.refRead
  | .planPut f => s.planPut f
  | .planGet slot => s.planGet slot
  | .planDrop slot => s.planDrop slot
  | .maskPut f => s.maskPut f
  | .maskGet slot => s.maskGet slot
  | .maskDrop slot => s.maskDrop slot
  | .binmapPut bins => s.binmapPut bins
  | .binmapGet => s.binmapGet
  | .jobSubmit site plan group priority => s.jobSubmit site plan group priority
  | .jobRead job => s.jobRead job
  | .jobAbort selector value => s.jobAbort selector value
  | .groupRelease group => s.groupRelease group
  | .snapTake lane job => s.snapTake lane job
  | .snapRead lane job band => s.snapRead lane job band
  | .snapHold code => s.snapHold code
  | .resultList => s.resultList
  | .resultRead job part => s.resultRead job part
  | .resultRelease job => s.resultRelease job
  | .calStart f => s.calStart f
  | .calCancel lane => s.calCancel lane
  | .calRead lane => s.calRead lane
  | .calStore => s.calStore
  | .calRevert selector => s.calRevert selector

/-- The three steps of R174 on a frame. -/
def State.answer (s : State) (f : Frame) : State × Reply :=
  match decodeFrame f with
  | .unknown => refuseWith .unknown s
  | .malformed => refuseWith .malformed s
  | .request r => s.carryOut r

/-- A frame becomes the request in hand, with its effects and its reply (R174). -/
def State.take (s : State) (f : Frame) : State :=
  let r := s.answer f
  { r.1 with
    port := { r.1.port with inHand := some ⟨f.kind, f.tag, r.2.payload r.1.replies⟩ }
    replies := r.1.replies + 1 }

/-- The frame at the head of the holding queue is taken if no request is in hand (R174). -/
def State.takeNext (s : State) : State :=
  match s.port.inHand, s.port.queue with
  | none, f :: rest => { s with port := { s.port with queue := rest } }.take f
  | _, _ => s

/-! ### Arrivals (R171 to R173) -/

/-- The holding queue after a good frame is offered to it (R173). -/
def joinQueue (queue : List Frame) (f : Frame) : List Frame :=
  if queue.length < Config.queuePlaces then queue ++ [f] else queue

/-- The port at its lock (R171): notice due is set if pending set and mask have a kind in common. -/
def State.lock (s : State) (rate : Rate) : State :=
  { s with port := { s.port with
      link := .locked rate, badCount := 0, noticeDue := decide (s.events.due ≠ 0) } }

/-- A good frame offered to the holding queue in LOCKED (R172, R173), and taken if it can be. -/
def State.offer (s : State) (f : Frame) : State :=
  { s with port := { s.port with badCount := 0, queue := joinQueue s.port.queue f } }.takeNext

/-- A good frame completes at a rate (R171, R172): in SEARCH it locks the port; in LOCKED a frame of another rate is of a
stopped decoder. -/
def State.arrive (s : State) (rate : Rate) (f : Frame) : State :=
  match s.port.link with
  | .search => (s.lock rate).offer f
  | .locked r => if r = rate then s.offer f else s

/-- The meaning of GOOD_FRAME. -/
def execGoodFrame (rate : Rate) (f : Frame) (s : State) : Outcome State Fault Refusal := .next ((s.arrive rate f).close s)

/-! ### Bad frames (R172) -/

/-- Whether the RESET request is in hand, taken and answered OK (R183). -/
def Port.resetInHand (p : Port) : Bool :=
  match p.inHand with
  | some h => h.kind == 0x05 && h.reply == [Status.ok.code]
  | none => false

/-- Whether a reply's transmission has begun: the transmitter sends one (R168). -/
def Port.replying (p : Port) : Bool :=
  match p.transmitter with
  | .reply _ _ => true
  | .idle | .notice _ _ => false

/-- The port after a return to SEARCH (R172): the queue and a reply not yet begun are discarded, notice due is cleared, and a
frame whose transmission has begun goes on. -/
def Port.toSearch (p : Port) : Port where
  link := .search
  badCount := 0
  queue := []
  inHand := if p.replying then p.inHand else none
  noticeDue := false
  transmitter := p.transmitter

/-- A return to SEARCH (R172), with the soft reset if the discarded reply was the reply to RESET (R183). -/
def State.returnToSearch (s : State) : State :=
  let t := { s with port := s.port.toSearch }
  if s.port.resetInHand && !s.port.replying then t.softReset else t

/-- A broken frame taken by the port (R171, R172): counted in LOCKED at the locked rate, the eighth in a row returns to
SEARCH; discarded in SEARCH. -/
def State.brokenFrame (s : State) (rate : Rate) : State :=
  match s.port.link with
  | .search => s
  | .locked r =>
    if r = rate then
      if s.port.badCount < 7 then { s with port := { s.port with badCount := s.port.badCount + 1 } } else s.returnToSearch
    else s

/-- The meaning of BAD_FRAME, of any cause (R170, R172). -/
def execBadFrame (rate : Rate) (_cause : BadCause) (s : State) : Outcome State Fault Refusal :=
  .next ((s.brokenFrame rate).close s)

/-- The meaning of FRAME_GAP_TIMEOUT: the frame in assembly is broken (R170, step 4), a bad frame of R172
(assumption 10). -/
def execFrameGapTimeout (rate : Rate) (s : State) : Outcome State Fault Refusal := .next ((s.brokenFrame rate).close s)

/-! ### The end of a transmission (R174, R176, R183) -/

/-- The reply to the request in hand has been transmitted: the soft reset after RESET, else the next request is taken. -/
def State.replySent (s : State) : State :=
  if s.port.resetInHand then s.softReset
  else { s with port := { s.port with inHand := none, transmitter := .idle } }.takeNext

/-- FRAME_TRANSMIT_END (R176). -/
def State.transmitEnd (s : State) : State :=
  match s.port.transmitter with
  | .idle => s
  | .notice _ _ => { s with port := { s.port with transmitter := .idle } }
  | .reply _ _ => s.replySent

/-- The meaning of FRAME_TRANSMIT_END. -/
def execFrameTransmitEnd (s : State) : Outcome State Fault Refusal := .next (s.transmitEnd.close s)

end Sys2Proof.Machine
end

