-- ==== Sys2Proof/Machine/Requests.lean ====
section
/-! DEFINITION. The meanings of the request rows: the good frame of that request completes at a decoder of the port (R171,
R174, R186), with the fields the row carries. -/

namespace Sys2Proof.Machine

open Host

/-- A request's frame arrives with the host's tag, at the rate of its decoder (assumption 8). -/
def State.request (s : State) (h : Header) (r : Request) : State := (s.arrive h.rate (r.frame h.tag)).close s

/-- The meaning of IDENT. -/
def execIdent (h : Header) (s : State) : Outcome State Fault Refusal := .next (s.request h Request.ident)

/-- The meaning of STATUS. -/
def execStatus (h : Header) (s : State) : Outcome State Fault Refusal := .next (s.request h Request.status)

/-- The meaning of EVENTS_MASK. -/
def execEventsMask (h : Header) (mask : Byte) (s : State) : Outcome State Fault Refusal :=
  .next (s.request h (Request.eventsMask mask))

/-- The meaning of EVENTS_CLEAR. -/
def execEventsClear (h : Header) (kinds : Byte) (s : State) : Outcome State Fault Refusal :=
  .next (s.request h (Request.eventsClear kinds))

/-- The meaning of RESET. -/
def execReset (h : Header) (s : State) : Outcome State Fault Refusal := .next (s.request h Request.reset)

/-- The meaning of SITE_SET. -/
def execSiteSet (h : Header) (fields : SiteSetFields) (s : State) : Outcome State Fault Refusal :=
  .next (s.request h (Request.siteSet fields))

/-- The meaning of SITE_POWER_ON: SITE_POWER with code 1 (R186). -/
def execSitePowerOn (h : Header) (site : Byte) (s : State) : Outcome State Fault Refusal :=
  .next (s.request h (Request.sitePower site 1))

/-- The meaning of SITE_POWER_OFF: SITE_POWER with code 0 (R186). -/
def execSitePowerOff (h : Header) (site : Byte) (s : State) : Outcome State Fault Refusal :=
  .next (s.request h (Request.sitePower site 0))

/-- The meaning of SITE_CLEAR. -/
def execSiteClear (h : Header) (site : Byte) (s : State) : Outcome State Fault Refusal :=
  .next (s.request h (Request.siteClear site))

/-- The meaning of SITE_READ. -/
def execSiteRead (h : Header) (site : Byte) (s : State) : Outcome State Fault Refusal :=
  .next (s.request h (Request.siteRead site))

/-- The meaning of REF_SET. -/
def execRefSet (h : Header) (mode frequency window : Byte) (s : State) : Outcome State Fault Refusal :=
  .next (s.request h (Request.refSet mode frequency window))

/-- The meaning of REF_READ. -/
def execRefRead (h : Header) (s : State) : Outcome State Fault Refusal := .next (s.request h Request.refRead)

/-- The meaning of PLAN_PUT. -/
def execPlanPut (h : Header) (fields : PlanFields) (s : State) : Outcome State Fault Refusal :=
  .next (s.request h (Request.planPut fields))

/-- The meaning of PLAN_GET. -/
def execPlanGet (h : Header) (slot : Byte) (s : State) : Outcome State Fault Refusal :=
  .next (s.request h (Request.planGet slot))

/-- The meaning of PLAN_DROP. -/
def execPlanDrop (h : Header) (slot : Byte) (s : State) : Outcome State Fault Refusal :=
  .next (s.request h (Request.planDrop slot))

/-- The meaning of MASK_PUT. -/
def execMaskPut (h : Header) (fields : MaskFields) (s : State) : Outcome State Fault Refusal :=
  .next (s.request h (Request.maskPut fields))

/-- The meaning of MASK_GET. -/
def execMaskGet (h : Header) (slot : Byte) (s : State) : Outcome State Fault Refusal :=
  .next (s.request h (Request.maskGet slot))

/-- The meaning of MASK_DROP. -/
def execMaskDrop (h : Header) (slot : Byte) (s : State) : Outcome State Fault Refusal :=
  .next (s.request h (Request.maskDrop slot))

/-- The meaning of BINMAP_PUT. -/
def execBinmapPut (h : Header) (bins : Vector Byte 9) (s : State) : Outcome State Fault Refusal :=
  .next (s.request h (Request.binmapPut bins))

/-- The meaning of BINMAP_GET. -/
def execBinmapGet (h : Header) (s : State) : Outcome State Fault Refusal := .next (s.request h Request.binmapGet)

/-- The meaning of JOB_SUBMIT. -/
def execJobSubmit (h : Header) (site plan group priority : Byte) (s : State) : Outcome State Fault Refusal :=
  .next (s.request h (Request.jobSubmit site plan group priority))

/-- The meaning of JOB_READ. -/
def execJobRead (h : Header) (job : Half) (s : State) : Outcome State Fault Refusal :=
  .next (s.request h (Request.jobRead job))

/-- The meaning of JOB_ABORT. -/
def execJobAbort (h : Header) (selector : Byte) (value : Half) (s : State) : Outcome State Fault Refusal :=
  .next (s.request h (Request.jobAbort selector value))

/-- The meaning of GROUP_RELEASE. -/
def execGroupRelease (h : Header) (group : Byte) (s : State) : Outcome State Fault Refusal :=
  .next (s.request h (Request.groupRelease group))

/-- The meaning of SNAP_TAKE. -/
def execSnapTake (h : Header) (lane : Byte) (job : Half) (s : State) : Outcome State Fault Refusal :=
  .next (s.request h (Request.snapTake lane job))

/-- The meaning of SNAP_READ. -/
def execSnapRead (h : Header) (lane : Byte) (job : Half) (band : Byte) (s : State) : Outcome State Fault Refusal :=
  .next (s.request h (Request.snapRead lane job band))

/-- The meaning of SNAP_HOLD. -/
def execSnapHold (h : Header) (code : Byte) (s : State) : Outcome State Fault Refusal :=
  .next (s.request h (Request.snapHold code))

/-- The meaning of RESULT_LIST. -/
def execResultList (h : Header) (s : State) : Outcome State Fault Refusal := .next (s.request h Request.resultList)

/-- The meaning of RESULT_READ. -/
def execResultRead (h : Header) (job : Half) (part : Byte) (s : State) : Outcome State Fault Refusal :=
  .next (s.request h (Request.resultRead job part))

/-- The meaning of RESULT_RELEASE. -/
def execResultRelease (h : Header) (job : Half) (s : State) : Outcome State Fault Refusal :=
  .next (s.request h (Request.resultRelease job))

/-- The meaning of CAL_START. -/
def execCalStart (h : Header) (fields : CalStartFields) (s : State) : Outcome State Fault Refusal :=
  .next (s.request h (Request.calStart fields))

/-- The meaning of CAL_CANCEL. -/
def execCalCancel (h : Header) (lane : Byte) (s : State) : Outcome State Fault Refusal :=
  .next (s.request h (Request.calCancel lane))

/-- The meaning of CAL_READ. -/
def execCalRead (h : Header) (lane : Byte) (s : State) : Outcome State Fault Refusal :=
  .next (s.request h (Request.calRead lane))

/-- The meaning of CAL_STORE. -/
def execCalStore (h : Header) (s : State) : Outcome State Fault Refusal := .next (s.request h Request.calStore)

/-- The meaning of CAL_REVERT. -/
def execCalRevert (h : Header) (selector : Byte) (s : State) : Outcome State Fault Refusal :=
  .next (s.request h (Request.calRevert selector))

end Sys2Proof.Machine
end

