-- ==== Sys2Proof/Machine/Clock.lean ====
section
/-! DEFINITION. What passes with time while no command waits: one millisecond of the master oscillator (R35). -/

namespace Sys2Proof.Machine

/-- A site after one millisecond: the time spent in WARMING grows (R16). -/
def Site.tick (x : Site) : Site :=
  match x.timer with
  | .warmUp spent => { x with timer := .warmUp (spent + 1) }
  | _ => x

/-- The timebase record after one millisecond: the uptime clock counts and wraps (R35), and holdover remaining counts down
(R31), held at 1 until its expiry comes as a command. -/
def Timebase.tick (t : Timebase) : Timebase :=
  { t with uptime := t.uptime + 1, holdover := t.holdover.map fun n => max 1 (n - 1) }

/-- The part after one millisecond in which nothing else happens (assumption 6). -/
def State.tick (s : State) : State := { s with timebase := s.timebase.tick, sites := s.sites.map Site.tick }

end Sys2Proof.Machine
end

