-- ==== Sys2Proof/Machine/Dispatch.lean ====
section
/-! DEFINITION. The dispatcher: one arm per command, each one call of its meaning. -/

namespace Sys2Proof.Machine

/-- The effect of a command on everything but the queue. -/
def exec (i : Instr) (s : State) : Host.Outcome State Fault Refusal :=
  match i with
  | .powerOnReset => Sys2Proof.Machine.execPowerOnReset s
  | .goodFrame rate frame => Sys2Proof.Machine.execGoodFrame rate frame s
  | .badFrame rate cause => Sys2Proof.Machine.execBadFrame rate cause s
  | .frameGapTimeout rate => Sys2Proof.Machine.execFrameGapTimeout rate s
  | .frameTransmitEnd => Sys2Proof.Machine.execFrameTransmitEnd s
  | .ident h => Sys2Proof.Machine.execIdent h s
  | .status h => Sys2Proof.Machine.execStatus h s
  | .eventsMask h mask => Sys2Proof.Machine.execEventsMask h mask s
  | .eventsClear h kinds => Sys2Proof.Machine.execEventsClear h kinds s
  | .reset h => Sys2Proof.Machine.execReset h s
  | .siteSet h fields => Sys2Proof.Machine.execSiteSet h fields s
  | .sitePowerOn h site => Sys2Proof.Machine.execSitePowerOn h site s
  | .sitePowerOff h site => Sys2Proof.Machine.execSitePowerOff h site s
  | .siteClear h site => Sys2Proof.Machine.execSiteClear h site s
  | .siteRead h site => Sys2Proof.Machine.execSiteRead h site s
  | .supplyInhibitExpiry => Sys2Proof.Machine.execSupplyInhibitExpiry s
  | .blankingExpiry site => Sys2Proof.Machine.execBlankingExpiry site s
  | .currentLimitCrossing site above => Sys2Proof.Machine.execCurrentLimitCrossing site above s
  | .overcurrent site => Sys2Proof.Machine.execOvercurrent site s
  | .retryExpiry site => Sys2Proof.Machine.execRetryExpiry site s
  | .warmUpExpiry site => Sys2Proof.Machine.execWarmUpExpiry site s
  | .carrierCheckGateEnd site frequency level => Sys2Proof.Machine.execCarrierCheckGateEnd site frequency level s
  | .recheckExpiry site => Sys2Proof.Machine.execRecheckExpiry site s
  | .recheckGateEnd site frequency level => Sys2Proof.Machine.execRecheckGateEnd site frequency level s
  | .levelReading site level => Sys2Proof.Machine.execLevelReading site level s
  | .refSet h mode frequency window => Sys2Proof.Machine.execRefSet h mode frequency window s
  | .refRead h => Sys2Proof.Machine.execRefRead h s
  | .referencePresentEvent => Sys2Proof.Machine.execReferencePresentEvent s
  | .referenceAbsentEvent => Sys2Proof.Machine.execReferenceAbsentEvent s
  | .windowEnd offset => Sys2Proof.Machine.execWindowEnd offset s
  | .holdoverExpiry => Sys2Proof.Machine.execHoldoverExpiry s
  | .planPut h fields => Sys2Proof.Machine.execPlanPut h fields s
  | .planGet h slot => Sys2Proof.Machine.execPlanGet h slot s
  | .planDrop h slot => Sys2Proof.Machine.execPlanDrop h slot s
  | .maskPut h fields => Sys2Proof.Machine.execMaskPut h fields s
  | .maskGet h slot => Sys2Proof.Machine.execMaskGet h slot s
  | .maskDrop h slot => Sys2Proof.Machine.execMaskDrop h slot s
  | .binmapPut h bins => Sys2Proof.Machine.execBinmapPut h bins s
  | .binmapGet h => Sys2Proof.Machine.execBinmapGet h s
  | .jobSubmit h site plan group priority => Sys2Proof.Machine.execJobSubmit h site plan group priority s
  | .jobRead h job => Sys2Proof.Machine.execJobRead h job s
  | .jobAbort h selector value => Sys2Proof.Machine.execJobAbort h selector value s
  | .groupRelease h group => Sys2Proof.Machine.execGroupRelease h group s
  | .recountGateEnd lane frequency level => Sys2Proof.Machine.execRecountGateEnd lane frequency level s
  | .lockEvent lane => Sys2Proof.Machine.execLockEvent lane s
  | .lockTimerExpiry lane => Sys2Proof.Machine.execLockTimerExpiry lane s
  | .bandCompletion lane band sums => Sys2Proof.Machine.execBandCompletion lane band sums s
  | .captureDisturbance lane cause => Sys2Proof.Machine.execCaptureDisturbance lane cause s
  | .snapshotTimerExpiry lane => Sys2Proof.Machine.execSnapshotTimerExpiry lane s
  | .maxDurationExpiry lane => Sys2Proof.Machine.execMaxDurationExpiry lane s
  | .evaluationEnd lane => Sys2Proof.Machine.execEvaluationEnd lane s
  | .snapTake h lane job => Sys2Proof.Machine.execSnapTake h lane job s
  | .snapRead h lane job band => Sys2Proof.Machine.execSnapRead h lane job band s
  | .snapHold h code => Sys2Proof.Machine.execSnapHold h code s
  | .resultList h => Sys2Proof.Machine.execResultList h s
  | .resultRead h job part => Sys2Proof.Machine.execResultRead h job part s
  | .resultRelease h job => Sys2Proof.Machine.execResultRelease h job s
  | .calStart h fields => Sys2Proof.Machine.execCalStart h fields s
  | .calChannelLock lane channel => Sys2Proof.Machine.execCalChannelLock lane channel s
  | .calLockTimerExpiry lane channel => Sys2Proof.Machine.execCalLockTimerExpiry lane channel s
  | .measurementEvent lane gainA gainB => Sys2Proof.Machine.execMeasurementEvent lane gainA gainB s
  | .calCancel h lane => Sys2Proof.Machine.execCalCancel h lane s
  | .calRead h lane => Sys2Proof.Machine.execCalRead h lane s
  | .calStore h => Sys2Proof.Machine.execCalStore h s
  | .storeCompletion => Sys2Proof.Machine.execStoreCompletion s
  | .calRevert h selector => Sys2Proof.Machine.execCalRevert h selector s
  | .referenceInputQualifyChange signal => Sys2Proof.Machine.execReferenceInputQualifyChange signal s

end Sys2Proof.Machine
end

