-- ==== Sys2Proof/Safety.lean ====
section
/-! DEFINITION. What counts as a sound state, block by block, and the conditions under which statements about one command are
made. Each is decidable, so that a concrete state can be shown to meet it. -/

namespace Sys2Proof.Machine

/-! ### Conditions on the state before a command -/

/-- A port at which the transmitter has nothing to begin (R176): idle in LOCKED, it has neither a reply nor a due notice. -/
abbrev Port.settled (p : Port) : Prop :=
  p.isLocked = true → p.transmitter = .idle → p.inHand = none ∧ p.noticeDue = false

/-- Nothing is left over from an earlier event: no reconsideration is called for, no gang can start, and the transmitter has
nothing to begin (R65, R73, R176). -/
abbrev State.settled (s : State) : Prop := s.reconsider = false ∧ s.startingMembers = [] ∧ s.port.settled

/-- The port is LOCKED at a rate with no request in hand and none waiting, so the next good frame is taken at once (R174). -/
abbrev State.listens (s : State) (rate : Rate) : Prop :=
  s.port.link = .locked rate ∧ s.port.inHand = none ∧ s.port.queue = []

/-- The request in hand is one of a kind and tag, with a reply as the n-th since power-on (R168, R174). -/
def State.answered (t : State) (kind tag : Byte) (r : Reply) (n : Nat) : Prop :=
  t.port.inHand = some ⟨kind, tag, r.payload n⟩

/-- A state without its port and its count of replies: what a request that only reads leaves alone. -/
def State.behindPort (s : State) : State := { s with port := Port.reset, replies := 0 }

/-- No two job records carry one id (R56). -/
abbrev State.distinct (s : State) : Prop := (s.jobs.map Job.id).Nodup

/-- The state after a soft reset with a link state: every block's soft reset values (R6, R37, R54, R81, R154, R157, R183), with
what they keep; the synthesizers' settings are kept by the model's choice (assumption 13). -/
def State.afterSoftReset (s : State) (link : Link) : State :=
  { State.reset with
    port := { Port.reset with link := link }
    inhibit := s.inhibit
    timebase := { s.timebase with uptime := 0, entered := 0 }
    plans := s.plans
    masks := s.masks
    binMap := s.binMap
    lanes := s.lanes.map fun x => { Lane.reset with channels := x.channels.map fun c => ⟨c.synth, .idle⟩ }
    cal := { s.cal with
      working := if s.cal.checkMatches then s.cal.stored else CoefSet.default
      image := none
      records := Vector.replicate 4 CalRecord.reset }
    replies := s.replies
    pending := s.pending }

/-! ### Request rows -/

/-- The header and the request of a request row (R186); none for the other rows. -/
def requestOfRow : Instr → Option (Header × Request)
  | .ident h => some (h, .ident)
  | .status h => some (h, .status)
  | .eventsMask h mask => some (h, .eventsMask mask)
  | .eventsClear h kinds => some (h, .eventsClear kinds)
  | .reset h => some (h, .reset)
  | .siteSet h fields => some (h, .siteSet fields)
  | .sitePowerOn h site => some (h, .sitePower site 1)
  | .sitePowerOff h site => some (h, .sitePower site 0)
  | .siteClear h site => some (h, .siteClear site)
  | .siteRead h site => some (h, .siteRead site)
  | .refSet h mode frequency window => some (h, .refSet mode frequency window)
  | .refRead h => some (h, .refRead)
  | .planPut h fields => some (h, .planPut fields)
  | .planGet h slot => some (h, .planGet slot)
  | .planDrop h slot => some (h, .planDrop slot)
  | .maskPut h fields => some (h, .maskPut fields)
  | .maskGet h slot => some (h, .maskGet slot)
  | .maskDrop h slot => some (h, .maskDrop slot)
  | .binmapPut h bins => some (h, .binmapPut bins)
  | .binmapGet h => some (h, .binmapGet)
  | .jobSubmit h site plan group priority => some (h, .jobSubmit site plan group priority)
  | .jobRead h job => some (h, .jobRead job)
  | .jobAbort h selector value => some (h, .jobAbort selector value)
  | .groupRelease h group => some (h, .groupRelease group)
  | .snapTake h lane job => some (h, .snapTake lane job)
  | .snapRead h lane job band => some (h, .snapRead lane job band)
  | .snapHold h code => some (h, .snapHold code)
  | .resultList h => some (h, .resultList)
  | .resultRead h job part => some (h, .resultRead job part)
  | .resultRelease h job => some (h, .resultRelease job)
  | .calStart h fields => some (h, .calStart fields)
  | .calCancel h lane => some (h, .calCancel lane)
  | .calRead h lane => some (h, .calRead lane)
  | .calStore h => some (h, .calStore)
  | .calRevert h selector => some (h, .calRevert selector)
  | .powerOnReset | .goodFrame _ _ | .badFrame _ _ | .frameGapTimeout _ | .frameTransmitEnd | .supplyInhibitExpiry
  | .blankingExpiry _ | .currentLimitCrossing _ _ | .overcurrent _ | .retryExpiry _ | .warmUpExpiry _
  | .carrierCheckGateEnd _ _ _ | .recheckExpiry _ | .recheckGateEnd _ _ _ | .levelReading _ _ | .referencePresentEvent
  | .referenceAbsentEvent | .windowEnd _ | .holdoverExpiry | .recountGateEnd _ _ _ | .lockEvent _ | .lockTimerExpiry _
  | .bandCompletion _ _ _ | .captureDisturbance _ _ | .snapshotTimerExpiry _ | .maxDurationExpiry _ | .evaluationEnd _
  | .calChannelLock _ _ | .calLockTimerExpiry _ _ | .measurementEvent _ _ _ | .storeCompletion
  | .referenceInputQualifyChange _ => none

/-- The frame that a command brings to the port (R171): that of a good frame or of a request row. -/
def frameOf (c : Instr) : Option Frame :=
  match c with
  | .goodFrame _ f => some f
  | _ => (requestOfRow c).map fun x => x.2.frame x.1.tag

/-- The requests that only read (R5, R36, R45, R50, R53, R59, R144, R150, R151, R165, R181, R182). -/
def readsOnly : Request → Bool
  | .ident | .status | .siteRead _ | .refRead | .planGet _ | .maskGet _ | .binmapGet | .jobRead _ | .snapRead _ _ _
  | .resultList | .resultRead _ _ | .calRead _ => true
  | .eventsMask _ | .eventsClear _ | .reset | .siteSet _ | .sitePower _ _ | .siteClear _ | .refSet _ _ _ | .planPut _
  | .planDrop _ | .maskPut _ | .maskDrop _ | .binmapPut _ | .jobSubmit _ _ _ _ | .jobAbort _ _ | .groupRelease _
  | .snapTake _ _ | .snapHold _ | .resultRelease _ | .calStart _ | .calCancel _ | .calStore | .calRevert _ => false

/-- The fields of SITE_SET that R3 does not refuse. -/
abbrev siteSetLegal (f : SiteSetFields) : Prop :=
  f.site.toNat ≤ 15 ∧ 5000000 ≤ f.carrier.toNat ∧ f.carrier.toNat ≤ 1600000000 ∧ f.voltage.toNat ≤ 3 ∧
  f.current.toNat ≤ 3 ∧ f.blanking.toNat ≤ 3 ∧ f.deglitch.toNat ≤ 1 ∧ f.levelRange.toNat ≤ 2

/-- The bin class of a terminal verdict and its place in the bin map (R52, R132). -/
def terminalClass : Verdict → BinClass × Fin 9
  | .noCarrier => (.noCarrier, 6)
  | .siteFault => (.siteFault, 7)
  | .aborted | .pass | .fail | .inconclusive => (.aborted, 8)

/-- The result of a job that is not evaluated (R53, R132, R133, R148): its verdict, the bin class of that and the bin the map
gives for it, the copies of its plan's bands, and no cause, criteria, tally, jitter entries, spur list or spectrum. -/
def State.terminalResult (t : State) (j : Job) (v : Verdict) : Result where
  verdict := v
  binClass := (terminalClass v).1
  bin := t.binMap[(terminalClass v).2]
  cause := none
  startBand := (t.planOf j).startBand
  stopBand := (t.planOf j).stopBand
  criteria := none
  jitter := none
  spurs := none
  spectrum := none

/-- A job has ended without evaluation: its record is DONE with an end reason, its terminal result and nothing of its run, and
its id is in the result list (R79, R132, R133, R148, R149). -/
def State.ended (t : State) (id : Nat) (reason : EndReason) (v : Verdict) : Prop :=
  id ∈ t.results ∧ ∃ k ∈ t.jobs, k.id = id ∧ k.state = .done ∧ k.reason = some reason ∧ k.lane = none ∧ k.buffer = none ∧
    k.result = some (t.terminalResult k v)

/-- No waiting gang member has the lane (R55, R73). -/
abbrev State.unclaimed (s : State) (l : LaneId) : Prop := ∀ j ∈ s.jobs, j.state = .gangWait → j.lane ≠ some l

/-- A lane serves a job of the table that is at a stage (R55, R62). -/
abbrev State.serves (s : State) (l : LaneId) (j : Job) (st : JobState) : Prop :=
  (s.lane l).job = some j.id ∧ j ∈ s.jobs ∧ j.state = st

/-- What a job that starts on a lane latches (R85): the working entries of the lane's two channels at the range of the applied
carrier nominal. -/
def State.latches (s : State) (k : Job) (l : LaneId) : Latched :=
  let hz := (s.site k.site).applied.supply.carrier
  let r : RangeId := if hz < 50000000 then 0 else if hz < 200000000 then 1 else if hz < 600000000 then 2 else 3
  let v := s.cal.working[l]
  ⟨v[r.val]'(by omega), v[4 + r.val]'(by omega)⟩

/-- A job record right after the acquisition start of its job on a lane (R84, R85). -/
def State.startedJob (s : State) (k : Job) (l : LaneId) : Job :=
  let x := s.latches k l
  { k with
    state := .acquiring
    latched := some x
    started := some s.timebase.uptime
    counts := some (Vector.replicate 6 ⟨0, 0⟩)
    flags := { k.flags with
      calQuick := k.flags.calQuick || x.a.tag == .quick || x.b.tag == .quick
      calDefault := k.flags.calDefault || x.a.tag == .default || x.b.tag == .default } }

/-- A lane record right after an acquisition start on it (R84). -/
def State.startedLane (s : State) (k : Job) (l : LaneId) : Lane :=
  let p := s.planOf k
  { s.lane l with
    state := .acquiring
    tune := none
    acquisition := some {
      bands := p.selected.map fun b => ⟨b, List.replicate (Config.binCount b) ⟨0, 0, 0, 0⟩, 0, 0, 0, true, false⟩
      latched := s.latches k l
      nominal := (s.site k.site).applied.supply.carrier
      maxTimer := some p.maxDuration
      snapTimer := if p.snapshot = 0 then none else some p.snapshot
      reason := none } }

/-- An acquisition record at acquisition end with a reason (R103). -/
def Acquisition.stopped (a : Acquisition) (r : EndReason) : Acquisition :=
  { a with
    bands := a.bands.map fun x => { x with inProgress := false, spoiled := false }
    maxTimer := none
    snapTimer := none
    reason := some r }

/-- What an accepted completion of a band ends an acquisition with (R98 to R100): COMPLETE with every selected band at its
target; at an evaluation point with early stop on, EARLY_FAIL or EARLY_PASS by the provisional criteria. -/
def State.endedBy (s : State) (j : Job) (a : Acquisition) (b : BandId) : Option EndReason :=
  let p := s.planOf j
  let outcomes := (s.provisional j a).outcomes
  if ∀ x ∈ a.bands, p.bands[x.band].target ≤ x.accepted then some .complete
  else if b = p.startBand ∧ p.earlyStop = true ∧ ∀ x ∈ a.bands, p.bands[x.band].minimum ≤ x.accepted then
    if .fail ∈ outcomes then some .earlyFail
    else if .inconclusive ∉ outcomes ∧ j.flags.level = false ∧ j.flags.refLost = false then some .earlyPass
    else none
  else none

/-! ### What the close of an event may change

At the end of an event gangs may start, the arbiter may reconsider and the transmitter may go on (R65, R73, R176). The relation
`Carried` bounds what that can do. -/

/-- The part of the state that no operation of the job controller writes. -/
structure Setting where
  link : Link
  badCount : Nat
  queue : List Frame
  inHand : Option InHand
  mask : Byte
  inhibit : Bool
  timebase : Timebase
  plans : Vector (Option Plan) 32
  masks : Vector (Option (List Vertex)) 8
  binMap : Vector (Fin 16) 9
  nextId : Nat
  nextSeq : Nat
  hold : Bool
  working : CoefSet
  stored : CoefSet
  checkMatches : Bool
  image : Option CoefSet
  replies : Nat
  pending : List Instr

/-- The setting of a state. -/
def State.setting (s : State) : Setting where
  link := s.port.link
  badCount := s.port.badCount
  queue := s.port.queue
  inHand := s.port.inHand
  mask := s.events.mask
  inhibit := s.inhibit
  timebase := s.timebase
  plans := s.plans
  masks := s.masks
  binMap := s.binMap
  nextId := s.nextId
  nextSeq := s.nextSeq
  hold := s.hold
  working := s.cal.working
  stored := s.cal.stored
  checkMatches := s.cal.checkMatches
  image := s.cal.image
  replies := s.replies
  pending := s.pending

/-- The two states between which connection and release take a site (R23). -/
def SiteState.selectable : SiteState → Bool
  | .ready | .measuring => true
  | .off | .ramp | .warming | .checking | .noCarrier | .retryWait | .faultLatched => false

/-- What connections and releases at an uptime leave of a site's record. -/
structure Site.Kept (now : Word) (x y : Site) : Prop where
  other : x.state.selectable = false → y = x
  selectable : x.state.selectable = true → y.state.selectable = true
  same : ∃ st e tm fc, y = { x with state := st, entered := e, timer := tm, faultCount := fc } ∧
    (e = x.entered ∨ e = now) ∧ (tm = x.timer ∨ tm = .stopped) ∧ (fc = x.faultCount ∨ fc = 0)

/-- What these operations leave of a job record: all of what R56 and R58 give it at its acceptance, its tune attempts and its
recount; and no flag is lost. -/
structure Job.Kept (j k : Job) : Prop where
  id : k.id = j.id
  site : k.site = j.site
  plan : k.plan = j.plan
  group : k.group = j.group
  priority : k.priority = j.priority
  seq : k.seq = j.seq
  attempts : k.attempts = j.attempts
  recount : k.recount = j.recount
  level : j.flags.level = true → k.flags.level = true
  refHoldover : j.flags.refHoldover = true → k.flags.refHoldover = true
  refLost : j.flags.refLost = true → k.flags.refLost = true

/-- Job tables record by record. -/
abbrev JobsKept (js ks : List Job) : Prop := List.Forall₂ Job.Kept js ks

/-- A state and one that the operations of the job controller reach from it: the setting stands, a site changes only between
READY and MEASURING, the job table keeps its records, the result list only grows, no pending kind is lost, and each lane keeps
its tune-failure count. -/
structure Carried (s t : State) : Prop where
  setting : t.setting = s.setting
  sites : ∀ i, Site.Kept s.now (s.site i) (t.site i)
  jobs : JobsKept s.jobs t.jobs
  results : s.results <+: t.results
  events : s.events.pending &&& t.events.pending = s.events.pending
  failures : ∀ l, (t.lane l).tuneFailures = (s.lane l).tuneFailures

/-! ### Link port (R168, R171 to R178) -/

/-- The frame being sent as a reply is the reply to the request in hand. -/
def Port.replyMatches (p : Port) : Bool :=
  match p.transmitter with
  | .reply _ f => p.inHand.any fun h => h.frame == f
  | .idle | .notice _ _ => true

/-- The port record as it stands between events. -/
abbrev Port.sound (p : Port) : Prop :=
  p.queue.length ≤ 4 ∧ p.badCount ≤ 7 ∧ (p.inHand = none → p.queue = []) ∧ p.replyMatches = true ∧
  (p.link = .search → p.badCount = 0 ∧ p.queue = [] ∧ p.noticeDue = false ∧ (p.inHand ≠ none → p.replying = true)) ∧
  (p.isLocked = true → p.transmitter = .idle → p.inHand = none ∧ p.noticeDue = false)

/-! ### Timebase unit (R25, R27 to R31) -/

/-- The fields each discipline state has (R25). -/
def Timebase.fits (t : Timebase) : Bool :=
  match t.discipline with
  | .free => t.goodCount == 0 && t.windowStart.isNone && t.holdover.isNone && (t.mode == .internal || !t.present)
  | .acquiring =>
    t.mode == .external && t.present && decide (t.goodCount ≤ 2) && t.windowStart.isSome && t.holdover.isNone
  | .locked => t.mode == .external && t.present && t.goodCount == 3 && t.windowStart.isSome && t.holdover.isNone
  | .holdover =>
    t.mode == .external && !t.present && t.goodCount == 0 && t.windowStart.isNone &&
      t.holdover.any fun n => decide (1 ≤ n) && decide (n ≤ 600000)

/-- The timebase record as it stands between events. -/
abbrev Timebase.sound (t : Timebase) : Prop :=
  t.fits = true ∧ t.lastOffset.all (fun o => decide (-100000 ≤ o) && decide (o ≤ 100000)) = true

/-! ### Site controller (R2, R7, R12 to R22) -/

/-- What runs at a site in each state (section 1.2). -/
def timerFits : SiteState → SiteTimer → Bool
  | .off, .stopped | .ready, .stopped | .measuring, .stopped | .faultLatched, .stopped => true
  | .ramp, .blanking | .warming, .warmUp _ | .checking, .checkGate | .retryWait, .retry => true
  | .noCarrier, .recheckWait | .noCarrier, .recheckGate => true
  | _, _ => false

/-- A recorded frequency error (R18). -/
def CountRecord.sound (c : CountRecord) : Bool :=
  c.error.all fun e => decide (e % 10 = 0) && decide (-500000 ≤ e) && decide (e ≤ 500000)

/-- The fault count each state allows (R13, R14). -/
def Site.faultsFit (x : Site) : Bool :=
  match x.state with
  | .off | .ready | .measuring => x.faultCount == 0
  | .retryWait => decide (1 ≤ x.faultCount) && decide (x.faultCount ≤ x.applied.supply.retryLimit)
  | .faultLatched => decide (x.faultCount ≤ 8)
  | .ramp | .warming | .checking | .noCarrier => decide (x.faultCount ≤ 7)

/-- What the level monitor holds in each state (R7, R17, R19 to R22). -/
def Site.levelFits (x : Site) : Bool :=
  match x.state with
  | .ready | .measuring =>
    x.settled.any fun c => c != .absent && x.levelFlag == c.flag
  | .ramp | .warming | .checking | .noCarrier => x.settled.isNone && x.levelFlag.isNone
  | .off | .retryWait | .faultLatched =>
    x.settled.isNone && x.levelFlag.isNone && x.qualifying.isNone && x.levelReading.isNone

/-- What the current monitor holds in each state (R7, R12). -/
def Site.monitorFits (x : Site) : Bool :=
  x.monitor.armed == x.state.monitored && (!x.monitor.deglitching || (x.monitor.armed && x.monitor.above)) &&
    (x.state.supplied || !x.monitor.above)

/-- A site record as it stands between events. -/
abbrev Site.sound (x : Site) : Prop :=
  timerFits x.state x.timer = true ∧ x.faultsFit = true ∧ x.levelFits = true ∧ x.monitorFits = true ∧
  (x.powerPending = true → x.state = .off ∧ x.configured = true) ∧ (x.configured = false → x.state = .off) ∧
  x.applied.supply.retryLimit ≤ 7 ∧ x.staged.all (fun c => decide (c.retryLimit ≤ 7)) = true ∧
  x.applied.warmUp ≤ 600000 ∧ x.applied.warmUp % 100 = 0 ∧
  x.levelReading.all (fun r => decide (-600 ≤ r) && decide (r ≤ 250)) = true ∧
  x.lastCount.all CountRecord.sound = true

/-- The sixteen sites: power is pending at a site only while the supply inhibit runs (R8). -/
abbrev State.sitesSound (s : State) : Prop :=
  ∀ i : SiteId, (s.site i).sound ∧ ((s.site i).powerPending = true → s.inhibit = true)

/-! ### Plan table (R38, R42 to R44, R48, R49) -/

/-- A stored band entry (R38). -/
def Plan.bandSound (p : Plan) (b : BandId) : Bool :=
  let t := p.bands[b]
  if p.selects b then decide (1 ≤ t.minimum) && decide (t.minimum ≤ t.target) && decide (t.target ≤ 4096)
  else t.target == 0 && t.minimum == 0

/-- A stored spur rule (R38). -/
def SpurRule.sound (r : SpurRule) : Bool :=
  decide (600 ≤ r.threshold) && decide (r.threshold ≤ 4000) && decide (-14000 ≤ r.limit) && decide (r.limit ≤ -2000) &&
    decide (r.report ≤ 8)

/-- A stored plan (R38, R41, R43). -/
abbrev Plan.sound (p : Plan) : Prop :=
  p.startBand ≤ p.stopBand ∧ (List.finRange 6).all p.bandSound = true ∧
  100 ≤ p.maxDuration ∧ p.maxDuration ≤ 600000 ∧ durationSuffices p = true ∧
  (p.snapshot = 0 ∨ (100 ≤ p.snapshot ∧ p.snapshot ≤ 10000)) ∧
  0 ≤ p.margin ∧ p.margin ≤ 2000 ∧ p.margin % 50 = 0 ∧
  p.jitter.length ≤ 4 ∧ p.jitter.all (fun b => decide (1 ≤ b.limit) && decide (b.limit ≤ 1000000) && decide (b.fLo < b.fHi) &&
    gridAtMost (Config.firstPoint p.startBand) b.fLo && gridAtLeast (lastPoint p.stopBand) b.fHi) = true ∧
  p.spur.all SpurRule.sound = true ∧ p.tolerance.all (fun t => decide (t ≤ 1000000)) = true

/-- A stored vertex list (R48). -/
abbrev maskSound (vs : List Vertex) : Prop :=
  2 ≤ vs.length ∧ vs.length ≤ 16 ∧ offsetsRise vs = true ∧
  vs.all (fun v => decide (10 ≤ v.offset) && decide (v.offset ≤ 10000000) && decide (-20000 ≤ v.limit) &&
    decide (v.limit ≤ -4000)) = true

/-- The plan table: every stored plan and mask is legal, and a mask a LOADED plan names is LOADED (R44, R49). -/
abbrev State.planTableSound (s : State) : Prop :=
  (∀ i : PlanId, ∀ p ∈ s.plans[i], p.sound ∧ ∀ m ∈ p.mask, s.masks[m] ≠ none) ∧
  ∀ m : MaskId, ∀ vs ∈ s.masks[m], maskSound vs

/-! ### Calibration unit (R155, R156, R163) -/

/-- A coefficient (R155). -/
def Coef.sound (c : Coef) : Bool := decide (c.c.natAbs ≤ 600) && (c.tag != .default || c.c == 0)

/-- A coefficient set (R155). -/
def CoefSet.sound (set : CoefSet) : Bool := set.all fun v => v.all Coef.sound

/-- The coefficient sets: every entry is legal, and the check does not match while a write is in progress (R156). -/
abbrev CalUnit.sound (c : CalUnit) : Prop :=
  CoefSet.sound c.working = true ∧ CoefSet.sound c.stored = true ∧ c.image.all CoefSet.sound = true ∧
  (c.image ≠ none → c.checkMatches = false)

/-! ### Job table and result list (R55, R56, R148, R149) -/

/-- The job table and the result list: no two records carry one id, and the list holds the ids of the DONE records. -/
abbrev State.jobsSound (s : State) : Prop :=
  s.jobs.length ≤ 64 ∧ (s.jobs.map Job.id).Nodup ∧ s.results.Nodup ∧ (1 ≤ s.nextId ∧ s.nextId ≤ 65535) ∧
  (∀ j ∈ s.jobs, (1 ≤ j.id ∧ j.id ≤ 65535) ∧ (j.state = .done ↔ j.id ∈ s.results) ∧
    (j.state = .done ↔ j.result ≠ none) ∧ (j.state = .done ↔ j.reason ≠ none) ∧
    (j.state = .done → j.gang = none ∧ j.lane = none ∧ j.buffer = none) ∧ ∀ g ∈ j.gang, j.id ∈ g) ∧
  ∀ id ∈ s.results, id ∈ s.jobs.map Job.id

/-! ### Lanes and their jobs (R55, R62, R158) -/

/-- The job state a lane state names (R62); none for a lane that serves no job. -/
def LaneState.stage : LaneState → Option JobState
  | .tuning => some .tuning
  | .gangWait => some .gangWait
  | .acquiring => some .acquiring
  | .evaluating => some .evaluating
  | .idle | .reserved | .calibrating | .outOfService => none

/-- Whether a job in a state has a lane (R55). -/
def JobState.onLane : JobState → Bool
  | .tuning | .gangWait | .acquiring | .evaluating => true
  | .held | .queued | .done => false

/-- Lanes and jobs agree: a lane in a serving state serves one job of the table, which is at that stage and names the lane; a
lane in another state serves none; a job has a lane exactly in the stages of a lane. A lane calibrates exactly while its record
is RUNNING, and has cal-pending set exactly while its record is PENDING, which is while it serves. -/
abbrev State.lanesSound (s : State) : Prop :=
  (∀ l : LaneId,
    ((s.lane l).state.stage = none → (s.lane l).job = none) ∧
    (∀ st ∈ (s.lane l).state.stage, ∃ j ∈ s.jobs, (s.lane l).job = some j.id ∧ j.lane = some l ∧ j.state = st) ∧
    ((s.lane l).state = .calibrating ↔ (s.calRecord l).status = .running) ∧
    ((s.lane l).calPending = true ↔ (s.calRecord l).status = .pending) ∧
    ((s.lane l).calPending = true → (s.lane l).state.stage ≠ none)) ∧
  ∀ j ∈ s.jobs, (j.state.onLane = false → j.lane = none) ∧
    (j.state.onLane = true → ∃ l : LaneId, j.lane = some l ∧ (s.lane l).job = some j.id)

/-! ### Groups and gangs (R55, R60, R61) -/

/-- Groups and gangs: a group holds at most four jobs, for different sites; every id in a gang field is that of a job of the
table with the same gang field, which is past HELD, and for each site a gang has one member. -/
abbrev State.gangsSound (s : State) : Prop :=
  (∀ g : Fin 16, (s.heldSet g).length ≤ 4) ∧
  ∀ j ∈ s.jobs, (∀ k ∈ s.jobs, j.state = .held → k.state = .held → j.group = k.group → j.site = k.site → j.id = k.id) ∧
    ∀ g ∈ j.gang, g.length ≤ 4 ∧ ∀ id ∈ g, ∃ k ∈ s.jobs, k.id = id ∧ k.gang = some g ∧ k.state ≠ .held ∧
      (k.site = j.site → k.id = j.id)

/-! ### The switch matrix and reservations (R62, R67) -/

/-- The lane states in which a lane is connected to its job's site (R62). -/
def LaneState.connects : LaneState → Bool
  | .tuning | .gangWait | .acquiring => true
  | .idle | .reserved | .evaluating | .calibrating | .outOfService => false

/-- The switch matrix: a lane in TUNING, GANG_WAIT or ACQUIRING is connected to the site of the job it serves, and any other
lane to none; a site is connected to at most one lane, and is MEASURING exactly while it is connected to one. -/
abbrev State.matrixSound (s : State) : Prop :=
  (∀ l : LaneId, ((s.lane l).state.connects = false → (s.lane l).connected = none) ∧
    ((s.lane l).state.connects = true → ∃ j ∈ s.jobs, (s.lane l).job = some j.id ∧ (s.lane l).connected = some j.site)) ∧
  (∀ l m : LaneId, (s.lane l).connected ≠ none → (s.lane l).connected = (s.lane m).connected → l = m) ∧
  ∀ i : SiteId, (s.site i).state = .measuring ↔ ∃ l : LaneId, (s.lane l).connected = some i

/-- The reservations: lanes are RESERVED only for a recorded head that needs more lanes than are reserved and more than are
IDLE. -/
abbrev State.reservedSound (s : State) : Prop :=
  s.lanesIn .reserved = 0 ∨ ∃ head ∈ s.head, s.lanesIn .reserved < head.length ∧ s.lanesIn .idle < head.length

/-! ### Segments (R135, R137, R139) -/

/-- The segments outside the free list: those of buffer sets and of spectra. -/
def State.segmentsHeld (s : State) : Nat := (s.jobs.map fun j => j.bufferSize + j.spectrumSize).sum

/-- Free segments, segments of buffer sets and segments of spectra total 192 (R135). -/
abbrev State.segmentsSound (s : State) : Prop := s.freeSegments + s.segmentsHeld = 192

/-- The pool and what is out of it: the total of R135 holds, a job has a buffer set of its plan's size exactly while it is on a
lane (R139), and a lane's acquisition record has the bands its job's plan selects (R84). -/
abbrev State.storeSound (s : State) : Prop :=
  s.segmentsSound ∧
  (∀ j ∈ s.jobs, (j.state.onLane = false → j.buffer = none) ∧
    (j.state.onLane = true → (j.buffer.map fun b => (b.bands, b.roles)) =
      some ((s.planOf j).bandCount, decide (0 < (s.planOf j).snapshot)))) ∧
  ∀ l : LaneId, ∀ a ∈ (s.lane l).acquisition, ∀ j ∈ s.jobs, (s.lane l).job = some j.id →
    a.bands.map BandAcq.band = (s.planOf j).selected

end Sys2Proof.Machine
end

