-- ==== Sys2Proof/WellFormed.lean ====
section
/-! DEFINITION. What a command's operands must be for the command to be one the hardware can meet. Ill-formed operands are
not refused by `exec` (assumption 33): the checks say which operands stand for something on the hardware. -/

namespace Sys2Proof

/-- A frame the link can carry: at most 250 payload bytes (R184). -/
def Frame.wf (f : Frame) : Bool := f.payload.length ≤ 250

/-- A measured signal: none found, or a positive frequency (R18, R28). -/
def carrierWf (f : Option Rat) : Bool := f.all fun x => decide (0 < x)

/-- What one average of a bin adds: its powers are not negative (R88). -/
def BinSums.wf (x : BinSums) : Bool := decide (0 ≤ x.a) && decide (0 ≤ x.b)

/-- The check of every command's operands. -/
def Instr.wf : Instr → Bool
  | .goodFrame _ f => f.wf
  | .carrierCheckGateEnd _ f _ => carrierWf f
  | .recheckGateEnd _ f _ => carrierWf f
  | .recountGateEnd _ f _ => carrierWf f
  | .referenceInputQualifyChange f => carrierWf f
  | .bandCompletion _ b sums => decide (sums.length = Config.binCount b) && sums.all BinSums.wf
  | .powerOnReset | .badFrame _ _ | .frameGapTimeout _ | .frameTransmitEnd | .ident _ | .status _ | .eventsMask _ _
  | .eventsClear _ _ | .reset _ | .siteSet _ _ | .sitePowerOn _ _ | .sitePowerOff _ _ | .siteClear _ _ | .siteRead _ _
  | .supplyInhibitExpiry | .blankingExpiry _ | .currentLimitCrossing _ _ | .overcurrent _ | .retryExpiry _
  | .warmUpExpiry _ | .recheckExpiry _ | .levelReading _ _ | .refSet _ _ _ _ | .refRead _ | .referencePresentEvent
  | .referenceAbsentEvent | .windowEnd _ | .holdoverExpiry | .planPut _ _ | .planGet _ _ | .planDrop _ _ | .maskPut _ _
  | .maskGet _ _ | .maskDrop _ _ | .binmapPut _ _ | .binmapGet _ | .jobSubmit _ _ _ _ _ | .jobRead _ _ | .jobAbort _ _ _
  | .groupRelease _ _ | .lockEvent _ | .lockTimerExpiry _ | .captureDisturbance _ _ | .snapshotTimerExpiry _
  | .maxDurationExpiry _ | .evaluationEnd _ | .snapTake _ _ _ | .snapRead _ _ _ _ | .snapHold _ _ | .resultList _
  | .resultRead _ _ _ | .resultRelease _ _ | .calStart _ _ | .calChannelLock _ _ | .calLockTimerExpiry _ _
  | .measurementEvent _ _ _ | .calCancel _ _ | .calRead _ _ | .calStore _ | .storeCompletion | .calRevert _ _ => true

end Sys2Proof
end

