-- ==== Sys2Proof/Certificates/Slice0/Obligations.lean ====
section
/-! DEFINITION. The statements for the provers, in the order of OBLIGATIONS.json: the queue and the frames, the link port, the
sites, the timebase, the plan table, the jobs and lanes, acquisition and results, calibration, and the invariants. -/

open Sys2Proof Sys2Proof.Machine

/-! ### The queue of commands, and every command -/

/-- A step takes the command at the front of the queue and executes it with the queue's rest. The queue of commands is the
model's choice (assumption 19), and so is that on an empty queue a step is one millisecond (assumption 6): the uptime clock
counts (R35), the time spent in WARMING grows (R16), holdover remaining counts down to 1 (R31), and nothing else changes. -/
def Obligations.StepRunsFrontCommand : Prop :=
  (∀ (c : Instr) (rest : List Instr) (s : State), s.pending = c :: rest → step s = exec c { s with pending := rest }) ∧
  ∀ s : State, s.pending = [] → ∃ t, step s = .next t ∧
    t.timebase = { s.timebase with
      uptime := s.timebase.uptime + 1, holdover := s.timebase.holdover.map fun n => max 1 (n - 1) } ∧
    (∀ i : SiteId, t.site i = match (s.site i).timer with
      | .warmUp n => { s.site i with timer := .warmUp (n + 1) }
      | _ => s.site i) ∧
    { t with timebase := s.timebase, sites := s.sites } = s

/-- Every command, in every state, is answered with a next state: no fault, no refusal, as the model deduces from the manual's
naming no event that stops the part (assumption 20). It keeps the commands that wait and leaves no reconsideration to be made;
the queue and the mark of a reconsideration are the model's own fields (assumptions 19, 23). -/
def Obligations.EveryCommandAnswersNext : Prop :=
  ∀ (c : Instr) (s : State), ∃ t, exec c s = .next t ∧ t.pending = s.pending ∧ t.reconsider = false

/-! ### Frames -/

/-- Decode of encode: the frame that carries a request decodes to that request, for every request with every operand; and a
frame of at most 250 payload bytes, such as every request's, sent byte by byte as R184 lays it out, leaves a hunting decoder
hunting with that one good frame (R170, R184 to R186); so do its bits, each byte sent as a low start bit, its eight bits from
the least significant on, and a high stop bit, whose absence is a framing error (R169). That the assembly is a function of its
own beside the state is the model's choice (assumption 9). -/
def Obligations.RequestFramesDecode : Prop :=
  (∀ (r : Request) (tag : Byte), (r.frame tag).wf = true ∧ decodeFrame (r.frame tag) = .request r) ∧
  (∀ f : Frame, f.wf = true → Decoder.run .hunting f.bytes = (.hunting, [.good f]) ∧
    Decoder.runBits .hunting f.bits f.bytes.length = (.hunting, [.good f])) ∧
  ∀ b : Byte,
    byteBits b = [false, b.getLsbD 0, b.getLsbD 1, b.getLsbD 2, b.getLsbD 3, b.getLsbD 4, b.getLsbD 5, b.getLsbD 6,
      b.getLsbD 7, true] ∧
    receiveBits (byteBits b) = some (.byte b) ∧
    receiveBits ((byteBits b).take 9 ++ [false]) = some .framingError

/-- A request row is the completion of the good frame that carries the request: what the model deduces such a row of the table
to stand for (assumption 8). -/
def Obligations.RequestRowsAreGoodFrames : Prop :=
  ∀ (c : Instr) (h : Header) (r : Request) (s : State), requestOfRow c = some (h, r) →
    exec c s = exec (.goodFrame h.rate (r.frame h.tag)) s

/-! ### The link port -/

/-- A good frame in SEARCH locks the port at its rate with bad-frame count 0 and a notice due where pending set and mask meet,
and is then taken like any frame in LOCKED (R171). In LOCKED while a request is in hand it joins the tail of a queue of fewer
than four, or is discarded; it sets the bad-frame count to 0 either way (R173). A frame of another rate is one of a stopped
decoder and changes nothing (R171). -/
def Obligations.GoodFrameLocksWaitsOrIsDropped : Prop :=
  (∀ (rate : Rate) (f : Frame) (s : State), s.port.link = .search →
    exec (.goodFrame rate f) s = exec (.goodFrame rate f) { s with port := { s.port with
      link := .locked rate, badCount := 0, noticeDue := decide (s.events.pending &&& s.events.mask ≠ 0) } } ∧
    ∃ t, exec (.goodFrame rate f) s = .next t ∧ t.port.link = .locked rate ∧ t.port.badCount = 0) ∧
  ∀ (rate other : Rate) (f : Frame) (s : State), s.settled → s.port.link = .locked rate →
    (s.port.inHand ≠ none → exec (.goodFrame rate f) s = .next { s with port := { s.port with
      badCount := 0, queue := if s.port.queue.length < 4 then s.port.queue ++ [f] else s.port.queue } }) ∧
    (other ≠ rate → exec (.goodFrame other f) s = .next s)

/-- A good frame at a port with no request in hand and none waiting is taken at once: it is in hand with a reply whose first
byte is a status code, the bad-frame count is 0, and an idle transmitter begins the reply, with the reply kind and the
request's tag (R172, R174, R176). -/
def Obligations.GoodFrameIsTaken : Prop :=
  ∀ (rate : Rate) (f : Frame) (s : State), s.settled → s.listens rate →
    ∃ t code rest, exec (.goodFrame rate f) s = .next t ∧ code.toNat ≤ 7 ∧
      t.port.link = .locked rate ∧ t.port.badCount = 0 ∧ t.port.queue = [] ∧
      t.port.inHand = some ⟨f.kind, f.tag, code :: rest⟩ ∧ t.replies = s.replies + 1 ∧
      t.port.transmitter =
        (if s.port.transmitter = .idle then
          .reply rate ⟨if 0x7F ≤ f.kind.toNat then 0xFF else f.kind + 0x80, f.tag, code :: rest⟩
        else s.port.transmitter)

/-- A taken frame of a kind that R186 does not list is answered UNKNOWN, and one of a listed kind with another length
MALFORMED; either changes nothing behind the port. Every kind from 0x7F upward is unknown (R174). -/
def Obligations.UnknownAndMalformedFrames : Prop :=
  (∀ kind : Byte, 0x7F ≤ kind.toNat → payloadLength kind = none) ∧
  ∀ (rate : Rate) (f : Frame) (s : State), s.settled → s.listens rate →
    (payloadLength f.kind = none → ∃ t, exec (.goodFrame rate f) s = .next t ∧
      t.answered f.kind f.tag (.refuse .unknown) s.replies ∧ t.behindPort = s.behindPort) ∧
    (∀ n, payloadLength f.kind = some n → f.payload.length ≠ n → ∃ t, exec (.goodFrame rate f) s = .next t ∧
      t.answered f.kind f.tag (.refuse .malformed) s.replies ∧ t.behindPort = s.behindPort)

/-- Bad frames and frame gaps at the locked rate: the count grows below 7; at 7 the port returns to SEARCH, with the queue, a
reply not yet begun and a due notice gone and a frame being sent going on. In SEARCH, and of another rate, they change nothing
(R170 to R172). -/
def Obligations.BrokenFramesCountToSearch : Prop :=
  ∀ (c : Instr) (rate : Rate) (s : State), (c = .frameGapTimeout rate ∨ ∃ cause, c = .badFrame rate cause) → s.settled →
    (s.port.link ≠ .locked rate → exec c s = .next s) ∧
    (s.port.link = .locked rate → s.port.badCount < 7 →
      exec c s = .next { s with port := { s.port with badCount := s.port.badCount + 1 } }) ∧
    (s.port.link = .locked rate → s.port.badCount = 7 → (s.port.resetInHand = false ∨ s.port.replying = true) →
      exec c s = .next { s with port :=
        ⟨.search, 0, [], if s.port.replying then s.port.inHand else none, false, s.port.transmitter⟩ })

/-- The end of a transmission in LOCKED, but for the reply to RESET (R174, R176, R178): the next frame of the queue is taken
and its reply begins; with none waiting a due notice is formed, of the kinds that are pending and masked with the uptime; with
none of them it is not sent. -/
def Obligations.TransmissionEnds : Prop :=
  ∀ (rate : Rate) (s : State), s.reconsider = false → s.startingMembers = [] → s.port.link = .locked rate →
    s.port.transmitter ≠ .idle → (s.port.replying = true → s.port.resetInHand = false) →
    (∀ g rest, s.port.replying = true → s.port.queue = g :: rest → ∃ t p, exec .frameTransmitEnd s = .next t ∧
      t.port.queue = rest ∧ t.port.inHand = some ⟨g.kind, g.tag, p⟩ ∧
      t.port.transmitter = .reply rate ⟨replyKind g.kind, g.tag, p⟩) ∧
    (∀ h, s.port.replying = false → s.port.inHand = some h → exec .frameTransmitEnd s = .next { s with
      port := { s.port with transmitter := .reply rate ⟨replyKind h.kind, h.tag, h.reply⟩ } }) ∧
    ((s.port.replying = true ∧ s.port.queue = [] ∨ s.port.replying = false ∧ s.port.inHand = none) →
      let p := { s.port with inHand := none, transmitter := .idle }
      let due := s.events.pending &&& s.events.mask
      exec .frameTransmitEnd s = .next { s with port :=
        if s.port.noticeDue = false then p
        else if due = 0 then { p with noticeDue := false }
        else { p with noticeDue := false, transmitter := .notice rate ⟨0x7F, 0, due :: wordBytes s.timebase.uptime⟩ } })

/-- A raise of a kind not pending adds it and sets notice due if it is masked and the port is LOCKED; a raise of a pending
kind changes nothing (R177). EVENTS_MASK sets the mask and answers it with the pending set; it sets notice due for a pending
kind that the old mask did not hold. EVENTS_CLEAR removes its kinds from the pending set and answers what is left; it leaves
mask and notice due. Neither changes anything else behind the port (R179, R180). -/
def Obligations.EventSetsChange : Prop :=
  (∀ (k : EventKind) (s : State),
    (s.events.pending &&& k.bit ≠ 0 → s.raise k = s) ∧
    (s.events.pending &&& k.bit = 0 → s.raise k = { s with
      events := { s.events with pending := s.events.pending ||| k.bit }
      port := { s.port with
        noticeDue := s.port.noticeDue || (decide (s.events.mask &&& k.bit ≠ 0) && s.port.isLocked) } })) ∧
  ∀ (h : Header) (kinds : Byte) (s : State), s.settled → s.listens h.rate →
    (∃ t, exec (.eventsMask h kinds) s = .next t ∧
      t.answered 0x03 h.tag (.ok [some kinds, some s.events.pending]) s.replies ∧
      t.port.noticeDue = (s.port.noticeDue || decide (s.events.pending &&& kinds &&& ~~~s.events.mask ≠ 0)) ∧
      t.behindPort = { s with events := { s.events with mask := kinds } }.behindPort) ∧
    (∃ t, exec (.eventsClear h kinds) s = .next t ∧
      t.answered 0x04 h.tag (.ok [some (s.events.pending &&& ~~~kinds)]) s.replies ∧
      t.port.noticeDue = s.port.noticeDue ∧
      t.behindPort = { s with events := { s.events with pending := s.events.pending &&& ~~~kinds } }.behindPort)

/-- RESET is answered OK and changes nothing behind the port when it is taken. The soft reset takes effect at the end of its
reply's transmission, with the link state kept; or, where a return to SEARCH discards a reply not yet begun, at that return,
in SEARCH (R172, R183). What it leaves is `State.afterSoftReset`; there the synthesizers' settings are kept (assumption 13),
and the transmitter is idle even where a notice was on the line (assumption 24), both by the model's choice. -/
def Obligations.ResetTakesEffectAfterReply : Prop :=
  (∀ (h : Header) (s : State), s.settled → s.listens h.rate → ∃ t, exec (.reset h) s = .next t ∧
    t.answered 0x05 h.tag (.ok []) s.replies ∧ t.behindPort = s.behindPort) ∧
  (∀ (s : State) (tag : Byte), s.port.inHand = some ⟨0x05, tag, [0]⟩ → s.port.replying = true →
    exec .frameTransmitEnd s = .next (s.afterSoftReset s.port.link)) ∧
  ∀ (s : State) (tag : Byte) (rate : Rate) (cause : BadCause), s.port.inHand = some ⟨0x05, tag, [0]⟩ →
    s.port.replying = false → s.port.link = .locked rate → s.port.badCount = 7 →
    exec (.badFrame rate cause) s = .next (s.afterSoftReset .search) ∧
    exec (.frameGapTimeout rate) s = .next (s.afterSoftReset .search)

/-- Power-on reset leaves every block its power-on values, the working coefficients loaded from the stored set where its check
matches and default where it does not, and the stored set as it was (R6, R37, R54, R81, R154, R156, R157, R168, R177).
Steering 0 (assumption 12), the synthesizers' settings (assumption 13) and the idle monitors, readings and channels
(assumption 18) are the model's choice, and so is that what the reference input carries stands (assumption 11). -/
def Obligations.PowerOnReset : Prop :=
  ∀ s : State, ∃ t, exec .powerOnReset s = .next t ∧
    (∀ i : SiteId, t.site i = Site.reset) ∧ t.inhibit = true ∧
    t.timebase = { Timebase.reset with input := s.timebase.input } ∧
    t.plans = Vector.replicate 32 none ∧ t.masks = Vector.replicate 8 none ∧ t.binMap = #v[0, 1, 2, 3, 4, 5, 6, 7, 8] ∧
    t.jobs = [] ∧ t.nextId = 1 ∧ t.nextSeq = 1 ∧ t.head = none ∧ (∀ l : LaneId, t.lane l = Lane.reset) ∧
    t.freeSegments = 192 ∧ t.results = [] ∧ t.hold = false ∧
    t.cal = ⟨if s.cal.checkMatches then s.cal.stored else CoefSet.default, s.cal.stored, s.cal.checkMatches, none,
      Vector.replicate 4 CalRecord.reset⟩ ∧
    t.port = ⟨.search, 0, [], none, false, .idle⟩ ∧ t.events = ⟨0, 0⟩

/-- A request that only reads is answered as its block decides, and changes nothing behind the port and no due notice. -/
def Obligations.ReadRequestsChangeNothing : Prop :=
  ∀ (c : Instr) (h : Header) (r : Request) (s : State), requestOfRow c = some (h, r) → readsOnly r = true → s.settled →
    s.listens h.rate → ∃ t, exec c s = .next t ∧ t.answered r.kind h.tag (s.carryOut r).2 s.replies ∧
      t.port.noticeDue = s.port.noticeDue ∧ t.behindPort = s.behindPort

/-- The lengths of OK replies with the status byte: IDENT 13, STATUS 43, SITE_READ 50, REF_READ 26, PLAN_GET and MASK_GET 100,
BINMAP_GET 10, JOB_READ 82, the summary part of RESULT_READ 78, CAL_READ 95 (R181, R187 to R189). And bytes of three of them
at their offsets: all of IDENT but for the revision letter; the modes, states, counts, sets, rate and inhibit of STATUS; the
state, power pending and fault count of SITE_READ. -/
def Obligations.ReplyLengthsAndBytes : Prop :=
  (∀ (s : State) (r : Request) (n m : Nat), (s.carryOut r).2.status = .ok →
    (match r with
      | .ident => some 13
      | .status => some 43
      | .siteRead _ => some 50
      | .refRead => some 26
      | .planGet _ => some 100
      | .maskGet _ => some 100
      | .binmapGet => some 10
      | .jobRead _ => some 82
      | .resultRead _ part => if part = 0 then some 78 else none
      | .calRead _ => some 95
      | _ => none) = some n → ((s.carryOut r).2.payload m).length = n) ∧
  (∀ (s : State) (m : Nat), ∃ letter : Byte, 65 ≤ letter.toNat ∧ letter.toNat ≤ 90 ∧
    (s.carryOut .ident).2.payload m = [0, 0x5A, 0x4E, 0x16, 0x04, letter, 16, 4, 64, 32, 8, 192,
      if s.cal.checkMatches && s.cal.image.isNone then 1 else 0]) ∧
  (∀ (s : State) (m : Nat) (rate : Rate), s.port.link = .locked rate →
    let p := (s.carryOut .status).2.payload m
    p[1]? = some s.timebase.mode.code ∧ p[2]? = some s.timebase.discipline.code ∧
    (∀ i : SiteId, p[3 + i.val]? = some (s.site i).state.code) ∧
    (∀ l : LaneId, p[19 + 2 * l.val]? = some (s.lane l).state.code ∧
      p[20 + 2 * l.val]? = some (if (s.lane l).calPending then 1 else 0)) ∧
    p[27]? = some (BitVec.ofNat 8 (s.jobs.countP fun j => j.state == .held)) ∧
    p[33]? = some (BitVec.ofNat 8 (s.jobs.countP fun j => j.state == .done)) ∧
    p[34]? = some (BitVec.ofNat 8 s.freeSegments) ∧ p[35]? = some s.events.pending ∧ p[36]? = some s.events.mask ∧
    p[37]? = some (Rate.code rate) ∧ p[38]? = some (if s.inhibit then 1 else 0)) ∧
  ∀ (s : State) (m : Nat) (i : SiteId),
    let p := (s.carryOut (.siteRead (BitVec.ofNat 8 i.val))).2.payload m
    p[0]? = some 0 ∧ p[1]? = some (BitVec.ofNat 8 i.val) ∧ p[27]? = some (s.site i).state.code ∧
    p[32]? = some (if (s.site i).powerPending then 1 else 0) ∧ p[33]? = some (BitVec.ofNat 8 (s.site i).faultCount)

/-! ### Sites -/

/-- SITE_SET. With a field that R3 refuses it is answered OUT_OF_RANGE and nothing changes. Otherwise warm-up time and retry
limit are clamped and the clamp report names each that moved; in OFF and FAULT_LATCHED all eight fields are applied, any
staged configuration goes and the site is configured; in any other state warm-up and level range are applied, the other six
are staged, and a WARMING site that has spent a changed warm-up time enters CHECKING (R3, R4, R16, R19). No other site
changes. That a changed level range drops the reading that qualified, and an unchanged one keeps it, is the model's choice
(assumption 14). -/
def Obligations.SiteSetAppliesOrStages : Prop :=
  ∀ (h : Header) (f : SiteSetFields) (s : State), s.settled → s.listens h.rate →
    (¬siteSetLegal f → ∃ t, exec (.siteSet h f) s = .next t ∧
      t.answered 0x10 h.tag (.refuse .outOfRange) s.replies ∧ t.behindPort = s.behindPort) ∧
    (siteSetLegal f → ∀ (i : SiteId) (c : SupplyConfig) (range : Fin 3) (warm : Nat), i.val = f.site.toNat →
      c.carrier = f.carrier.toNat → c.voltage.val = f.voltage.toNat → c.current.val = f.current.toNat →
      c.blanking.val = f.blanking.toNat → c.deglitch.val = f.deglitch.toNat → c.retryLimit = min f.retryLimit.toNat 7 →
      range.val = f.levelRange.toNat → warm = min f.warmUp.toNat 600000 / 100 * 100 →
      let ids : List Byte := (if warm = f.warmUp.toNat then [] else [0x01]) ++
        (if c.retryLimit = f.retryLimit.toNat then [] else [0x02])
      let x := s.site i
      let atOnce : Site := { x with configured := true, applied := ⟨c, warm, range⟩, staged := none }
      let later : Site := { x with
        applied := { x.applied with warmUp := warm, levelRange := range }
        staged := some c
        qualifying := if range = x.applied.levelRange then x.qualifying else none }
      ∃ t, exec (.siteSet h f) s = .next t ∧
        t.answered 0x10 h.tag (.ok (some (BitVec.ofNat 8 ids.length) :: ids.map some)) s.replies ∧
        t.behindPort = (s.setSite i (
          if x.state = .off ∨ x.state = .faultLatched then atOnce
          else match x.timer with
            | .warmUp spent =>
              if warm ≠ x.applied.warmUp ∧ warm ≤ spent then
                { later with state := .checking, entered := s.timebase.uptime, timer := .checkGate }
              else later
            | _ => later)).behindPort)

/-- SITE_POWER on, by the table of R9: WRONG_STATE unless configured and in FAULT_LATCHED; in OFF, power pending while the
supply inhibit runs, else RAMP; no effect in the other states. -/
def Obligations.SitePowerOnByTable : Prop :=
  ∀ (h : Header) (i : SiteId) (s : State), s.settled → s.listens h.rate →
    let x := s.site i
    let refused := x.configured = false ∨ x.state = .faultLatched
    ∃ t, exec (.sitePowerOn h (BitVec.ofNat 8 i.val)) s = .next t ∧
      t.answered 0x11 h.tag (if refused then .refuse .wrongState else .ok []) s.replies ∧
      t.behindPort = (
        if refused ∨ x.state ≠ .off then s
        else if s.inhibit then s.setSite i { x with powerPending := true }
        else s.setSite i { x with
          applied := { x.applied with supply := x.staged.getD x.applied.supply }
          staged := none
          state := .ramp
          entered := s.timebase.uptime
          timer := .blanking
          monitor := ⟨false, false, false⟩ }).behindPort

/-- SITE_POWER off is answered OK in every state (R10). A latched site stays as it is. A site in OFF loses its power pending.
Any other site is OFF with fault count 0, its timer stopped and its monitors discarded, and no lane is connected to it. But
for a latched site, every waiting or running job of the site has ended SITE_OFF with verdict ABORTED (R76, R77). All else is
what the close of the event may change. -/
def Obligations.SitePowerOffEndsJobs : Prop :=
  ∀ (h : Header) (i : SiteId) (s : State), s.settled → s.listens h.rate → s.distinct →
    let x := s.site i
    let y : Site :=
      if x.state = .faultLatched then x
      else if x.state = .off then { x with powerPending := false }
      else { x with
        state := .off, entered := s.timebase.uptime, faultCount := 0, timer := .stopped, monitor := ⟨false, false, false⟩,
        levelReading := none, levelFlag := none, settled := none, qualifying := none }
    ∃ t, exec (.sitePowerOff h (BitVec.ofNat 8 i.val)) s = .next t ∧ t.answered 0x11 h.tag (.ok []) s.replies ∧
      t.site i = y ∧ Carried (s.setSite i y).behindPort t.behindPort ∧
      (x.state = .faultLatched → t.behindPort = s.behindPort) ∧
      (x.state ≠ .faultLatched → ∀ j ∈ s.jobs, j.site = i → (j.state.running || j.state.waiting) = true →
        t.ended j.id .siteOff .aborted) ∧
      (x.state ≠ .faultLatched → x.state ≠ .off → ∀ l : LaneId, (t.lane l).connected ≠ some i)

/-- SITE_CLEAR takes a latched site to OFF with fault count 0 and is answered OK; in any other state it is answered
WRONG_STATE and changes nothing. A site number above 15 gives OUT_OF_RANGE, in SITE_CLEAR and in SITE_POWER (R15). -/
def Obligations.SiteClearUnlatches : Prop :=
  ∀ (h : Header) (s : State), s.settled → s.listens h.rate →
    (∀ i : SiteId, (s.site i).state = .faultLatched → ∃ t, exec (.siteClear h (BitVec.ofNat 8 i.val)) s = .next t ∧
      t.answered 0x12 h.tag (.ok []) s.replies ∧ t.behindPort =
        (s.setSite i { s.site i with state := .off, entered := s.timebase.uptime, faultCount := 0 }).behindPort) ∧
    (∀ i : SiteId, (s.site i).state ≠ .faultLatched → ∃ t, exec (.siteClear h (BitVec.ofNat 8 i.val)) s = .next t ∧
      t.answered 0x12 h.tag (.refuse .wrongState) s.replies ∧ t.behindPort = s.behindPort) ∧
    ∀ b : Byte, 15 < b.toNat → (∃ t, exec (.siteClear h b) s = .next t ∧
        t.answered 0x12 h.tag (.refuse .outOfRange) s.replies ∧ t.behindPort = s.behindPort) ∧
      (∃ t, exec (.sitePowerOn h b) s = .next t ∧
        t.answered 0x11 h.tag (.refuse .outOfRange) s.replies ∧ t.behindPort = s.behindPort) ∧
      ∃ t, exec (.sitePowerOff h b) s = .next t ∧
        t.answered 0x11 h.tag (.refuse .outOfRange) s.replies ∧ t.behindPort = s.behindPort

/-- The timers of a site channel, each while it runs. Inhibit expiry takes every site with power pending into RAMP (R8);
blanking expiry arms the current monitor and takes the site into WARMING, and into CHECKING with a warm-up of 0 (R11, R16);
warm-up expiry into CHECKING (R16); retry expiry into RAMP with its fault count (R14); recheck expiry starts the recheck gate
(R22). A RAMP entry applies the staged configuration. Nothing else changes. -/
def Obligations.SiteTimersExpire : Prop :=
  ∀ s : State, s.settled →
    let ramp : Site → Site := fun x => { x with
      applied := { x.applied with supply := x.staged.getD x.applied.supply }, staged := none, state := .ramp,
      entered := s.timebase.uptime, timer := .blanking, monitor := ⟨false, false, false⟩ }
    (s.inhibit = true → exec .supplyInhibitExpiry s = .next { s with
      inhibit := false
      sites := s.sites.map fun x => if x.powerPending then ramp { x with powerPending := false } else x }) ∧
    ∀ i : SiteId,
      let x := s.site i
      (x.timer = .blanking → exec (.blankingExpiry i) s = .next (s.setSite i { x with
        state := if x.applied.warmUp = 0 then .checking else .warming
        entered := s.timebase.uptime
        timer := if x.applied.warmUp = 0 then .checkGate else .warmUp 0
        monitor := ⟨true, x.monitor.above, x.monitor.above⟩ })) ∧
      (∀ n, x.timer = .warmUp n → exec (.warmUpExpiry i) s = .next (s.setSite i { x with
        state := .checking, entered := s.timebase.uptime, timer := .checkGate })) ∧
      (x.timer = .retry → exec (.retryExpiry i) s = .next (s.setSite i (ramp x))) ∧
      (x.timer = .recheckWait → exec (.recheckExpiry i) s = .next (s.setSite i { x with timer := .recheckGate }))

/-- A crossing of the current limit at a supplied site starts a deglitch interval above it where the monitor is armed, and
abandons one at or below it; nothing else changes (R12). An overcurrent event, at the end of a deglitch interval that runs in
WARMING, CHECKING, READY, MEASURING or NO_CARRIER (R12, R13): the fault count goes up by 1, the supply and the monitors go,
the site is in RETRY_WAIT with the retry timer up to its retry limit and in FAULT_LATCHED above it, no lane is connected to
it, SITE_ALERT is pending, and its running job, with its waiting jobs where it latched, has ended SITE_FAULT (R76, R77). In
any other state, and with no interval running, it changes nothing (assumption 26). -/
def Obligations.CurrentMonitorSwitchesOff : Prop :=
  ∀ (i : SiteId) (s : State), s.settled → s.distinct →
    let x := s.site i
    let latched := decide (x.applied.supply.retryLimit < x.faultCount + 1)
    let y : Site := { x with
      state := if latched then .faultLatched else .retryWait
      entered := s.timebase.uptime
      faultCount := x.faultCount + 1
      timer := if latched then .stopped else .retry
      monitor := ⟨false, false, false⟩
      levelReading := none
      levelFlag := none
      settled := none
      qualifying := none }
    (∀ above : Bool, exec (.currentLimitCrossing i above) s = .next (
      if x.state.supplied then s.setSite i { x with monitor := ⟨x.monitor.armed, above, x.monitor.armed && above⟩ }
      else s)) ∧
    ((x.state.monitored = false ∨ x.monitor.deglitching = false) → exec (.overcurrent i) s = .next s) ∧
    (x.state.monitored = true → x.monitor.deglitching = true → ∃ t, exec (.overcurrent i) s = .next t ∧ t.site i = y ∧
      Carried (s.setSite i y).behindPort t.behindPort ∧ t.events.pending &&& EventKind.siteAlert.bit ≠ 0 ∧
      (∀ l : LaneId, (t.lane l).connected ≠ some i) ∧
      ∀ j ∈ s.jobs, j.site = i → (j.state.running || (j.state.waiting && latched)) = true →
        t.ended j.id .siteFault .siteFault)

/-- The gates of CHECKING and of a recheck (R17, R18, R22). The last count takes the gate end uptime, the tag and the error.
With the error present and the mean level at or above the window minimum less 10 dB the site has become READY with fault count
0, its settled class and level flag that of the level, and SITE_READY is pending. Otherwise it is in NO_CARRIER and waits to
recheck, and its waiting jobs have ended NO_CARRIER; a site that left CHECKING has SITE_ALERT pending. -/
def Obligations.GateEndDecidesPresence : Prop :=
  ∀ (c : Instr) (i : SiteId) (frequency : Option Rat) (level : Rat) (s : State), s.settled → s.distinct →
    let x := s.site i
    let first := decide (x.timer = .checkGate)
    let count : CountRecord :=
      ⟨s.timebase.uptime, s.timebase.countTag, frequencyError x.applied.supply.carrier frequency⟩
    let cls := classify x.applied.levelRange (10 * level)
    (x.timer = .checkGate ∧ c = .carrierCheckGateEnd i frequency level ∨
      x.timer = .recheckGate ∧ c = .recheckGateEnd i frequency level) →
    (count.error ≠ none → (windowMin x.applied.levelRange : Rat) - 100 ≤ 10 * level →
      let y : Site := { x with
        lastCount := some count, state := .ready, entered := s.timebase.uptime, timer := .stopped, faultCount := 0,
        settled := some cls, qualifying := none, levelFlag := cls.flag }
      ∃ t, exec c s = .next t ∧ (t.site i = y ∨ t.site i = { y with state := .measuring }) ∧
        Carried (s.setSite i y).behindPort t.behindPort ∧ t.events.pending &&& EventKind.siteReady.bit ≠ 0) ∧
    ((count.error = none ∨ 10 * level < (windowMin x.applied.levelRange : Rat) - 100) →
      let y : Site := if first then
          { x with
            lastCount := some count, state := .noCarrier, entered := s.timebase.uptime, timer := .recheckWait,
            levelFlag := none, settled := none, qualifying := none }
        else { x with lastCount := some count, timer := .recheckWait }
      (first = false → x.state = .noCarrier) →
      ∃ t, exec c s = .next t ∧ t.site i = y ∧ Carried (s.setSite i y).behindPort t.behindPort ∧
        (first = true → t.events.pending &&& EventKind.siteAlert.bit ≠ 0) ∧
        ∀ j ∈ s.jobs, j.site = i → j.state.waiting = true → t.ended j.id .noCarrier .noCarrier)

/-- The frequency error of a count (R18): absent with no cycle counted and above 500,000 ppb before rounding; otherwise a
multiple of 10 ppb within 5 ppb of (measured / nominal − 1) × 10⁹, and in a tie the one farther from zero. -/
def Obligations.FrequencyErrorRounds : Prop :=
  ∀ (nominal : Nat) (f : Rat), 0 < nominal →
    let e : Rat := (f / (nominal : Rat) - 1) * 1000000000
    frequencyError nominal none = none ∧
    (500000 < |e| → frequencyError nominal (some f) = none) ∧
    (|e| ≤ 500000 → ∃ k : Int, frequencyError nominal (some f) = some (10 * k) ∧ |10 * (k : Rat) - e| ≤ 5 ∧
      (|10 * (k : Rat) - e| = 5 → |e| < |10 * (k : Rat)|))

/-- A level reading at a supplied site (R19 to R21): the reading is the level in steps of 0.1 dB held within −60.0 and +25.0
dBm. The second of two consecutive readings in one class other than the settled class changes the settled class. In READY and
MEASURING the class is then the level flag, LOW and HIGH in MEASURING set LEVEL on the running jobs of the site, and ABSENT
takes the site to NO_CARRIER with SITE_ALERT pending and its waiting jobs, in MEASURING its running job also, ended
NO_CARRIER; from MEASURING no lane is connected to it any more. A reading without a settled class is not the first of two, by
the model's choice (assumption 34). -/
def Obligations.LevelReadingClasses : Prop :=
  ∀ (i : SiteId) (level : Rat) (s : State), s.settled → s.distinct →
    let x := s.site i
    let r := clampInt (-600) 250 (roundRat (10 * level))
    let c := classify x.applied.levelRange r
    let acts := decide (x.state = .ready ∨ x.state = .measuring)
    (x.state.supplied = false → exec (.levelReading i level) s = .next s) ∧
    (x.state.supplied = true → (x.settled = none ∨ x.settled = some c) → exec (.levelReading i level) s =
      .next (s.setSite i { x with levelReading := some r, qualifying := none })) ∧
    (x.state.supplied = true → ∀ old, x.settled = some old → old ≠ c → x.qualifying ≠ some c →
      exec (.levelReading i level) s = .next (s.setSite i { x with levelReading := some r, qualifying := some c })) ∧
    (x.state.supplied = true → ∀ old, x.settled = some old → old ≠ c → x.qualifying = some c →
      let y : Site := { x with levelReading := some r, qualifying := none, settled := some c }
      (acts = false → exec (.levelReading i level) s = .next (s.setSite i y)) ∧
      (acts = true → c ≠ .absent → exec (.levelReading i level) s = .next { s.setSite i { y with levelFlag := c.flag } with
        jobs := if x.state = .measuring ∧ c ≠ .within then s.jobs.map fun j =>
            if j.site = i ∧ j.state.running = true then { j with flags := { j.flags with level := true } } else j
          else s.jobs }) ∧
      (acts = true → c = .absent → ∃ t, exec (.levelReading i level) s = .next t ∧
        let z : Site := { y with
          state := .noCarrier, entered := s.timebase.uptime, timer := .recheckWait, levelFlag := none, settled := none }
        t.site i = z ∧ Carried (s.setSite i z).behindPort t.behindPort ∧ t.events.pending &&& EventKind.siteAlert.bit ≠ 0 ∧
        (x.state = .measuring → ∀ l : LaneId, (t.lane l).connected ≠ some i) ∧
        ∀ j ∈ s.jobs, j.site = i → (j.state.waiting || (j.state.running && decide (x.state = .measuring))) = true →
          t.ended j.id .noCarrier .noCarrier))

/-! ### Timebase -/

/-- REF_SET (R26, R27, R33). A code outside its set is refused OUT_OF_RANGE. With no field changed nothing changes. A
window-only change stores the window, and in ACQUIRING and LOCKED starts a new one, in ACQUIRING with count 0. A changed mode
or frequency is a reference change: FREE, or ACQUIRING with a first window where the new mode is EXTERNAL and the reference is
present, which a changed frequency undoes; REFERENCE is pending and the running jobs hold REF_LOST. The reply carries the
state reached. What the input carries stands, by the model's choice of that field (assumption 11). -/
def Obligations.RefSetChangesReference : Prop :=
  ∀ (h : Header) (s : State), s.settled → s.listens h.rate →
    (∀ m f w : Byte, (1 < m.toNat ∨ 1 < f.toNat ∨ 2 < w.toNat) → ∃ t, exec (.refSet h m f w) s = .next t ∧
      t.answered 0x18 h.tag (.refuse .outOfRange) s.replies ∧ t.behindPort = s.behindPort) ∧
    ∀ (mode : RefMode) (frequency : RefFreq) (window : RefWindow),
      let b : Timebase := s.timebase
      let present := b.present && decide (b.frequency = frequency)
      let goes := decide (mode = .external) && present
      (b.mode = mode → b.frequency = frequency → ∃ t, exec (.refSet h mode.code frequency.code window.code) s = .next t ∧
        t.answered 0x18 h.tag (.ok [some b.discipline.code]) s.replies ∧
        t.behindPort = { s with timebase :=
          if b.window = window then b
          else { b with
            window := window
            goodCount := if b.discipline = Discipline.acquiring then 0 else b.goodCount
            windowStart :=
              if b.discipline = Discipline.acquiring ∨ b.discipline = Discipline.locked then some b.uptime
              else b.windowStart } }.behindPort) ∧
      ((b.mode ≠ mode ∨ b.frequency ≠ frequency) →
        ∃ t, exec (.refSet h mode.code frequency.code window.code) s = .next t ∧
        t.answered 0x18 h.tag (.ok [some (if goes then 1 else 0)]) s.replies ∧
        t.events.pending &&& EventKind.reference.bit ≠ 0 ∧
        Carried { s with
          timebase := { b with
            mode := mode, frequency := frequency, window := window
            discipline := if goes then .acquiring else .free
            entered := b.uptime, goodCount := 0, windowStart := if goes then some b.uptime else none
            lastOffset := none, holdover := none, present := present }
          jobs := s.jobs.map fun (j : Job) =>
            if j.state.running then { j with flags := { j.flags with refLost := true } } else j }.behindPort t.behindPort)

/-- The reference detector's events and holdover expiry (R28 to R31, R33). A present event is raised only while the input
qualifies, with a signal within ±100,000 ppb of the external frequency, and the status is not present, and an absent event
only while it does not qualify and the status is present; else they change nothing (assumption 7). In INTERNAL mode they
change the status alone. In EXTERNAL mode present takes FREE and HOLDOVER into ACQUIRING with a first window, and absent takes
ACQUIRING to FREE and LOCKED to HOLDOVER with 600,000 ms; REFERENCE is pending, and running jobs gain REF_LOST on leaving
HOLDOVER and REF_HOLDOVER on entering it; where they have no effect on the state they change the status alone. Holdover expiry
takes HOLDOVER alone, to FREE with REF_LOST and REFERENCE. A qualify change changes only what the input carries, which the
model keeps as the measured frequency (assumption 11). -/
def Obligations.ReferenceDetectorEvents : Prop :=
  ∀ s : State, s.settled →
    let b : Timebase := s.timebase
    let hz : Rat := if b.frequency = RefFreq.mhz10 then 10000000 else 100000000
    let fits : Prop := ∃ f, b.input = some f ∧ |f - hz| ≤ hz / 10000
    let acquiring : Timebase := { b with
      present := true, discipline := .acquiring, entered := b.uptime, goodCount := 0,
      windowStart := some b.uptime, holdover := none }
    let flagged (f : JobFlags → JobFlags) : List Job := s.jobs.map fun (j : Job) =>
      if j.state.running then { j with flags := f j.flags } else j
    let reports (c : Instr) (t' : State) : Prop := ∃ t, exec c s = .next t ∧ Carried t' t ∧
      t.events.pending &&& EventKind.reference.bit ≠ 0
    ((b.present = true ∨ ¬fits) → exec .referencePresentEvent s = .next s) ∧
    ((b.present = false ∨ fits) → exec .referenceAbsentEvent s = .next s) ∧
    (b.present = false → fits → (b.mode = .internal ∨ b.discipline = .acquiring ∨ b.discipline = .locked) →
      exec .referencePresentEvent s = .next { s with timebase := { b with present := true } }) ∧
    (b.present = true → ¬fits → (b.mode = .internal ∨ b.discipline = .free ∨ b.discipline = .holdover) →
      exec .referenceAbsentEvent s = .next { s with timebase := { b with present := false } }) ∧
    (b.present = false → fits → b.mode = .external → b.discipline = .free →
      reports .referencePresentEvent { s with timebase := acquiring }) ∧
    (b.present = false → fits → b.mode = .external → b.discipline = .holdover →
      reports .referencePresentEvent { s with
        timebase := acquiring, jobs := flagged fun f => { f with refLost := true } }) ∧
    (b.present = true → ¬fits → b.mode = .external → b.discipline = .acquiring →
      reports .referenceAbsentEvent { s with timebase := { b with
        present := false, discipline := .free, entered := b.uptime, goodCount := 0,
        windowStart := none, holdover := none } }) ∧
    (b.present = true → ¬fits → b.mode = .external → b.discipline = .locked →
      reports .referenceAbsentEvent { s with
        timebase := { b with
          present := false, discipline := .holdover, entered := b.uptime, goodCount := 0,
          windowStart := none, holdover := some 600000 }
        jobs := flagged fun f => { f with refHoldover := true } }) ∧
    (b.discipline ≠ .holdover → exec .holdoverExpiry s = .next s) ∧
    (b.discipline = .holdover → reports .holdoverExpiry { s with
      timebase := { b with
        discipline := .free, entered := b.uptime, goodCount := 0, windowStart := none, holdover := none }
      jobs := flagged fun f => { f with refLost := true } }) ∧
    ∀ f : Option Rat, exec (.referenceInputQualifyChange f) s = .next { s with timebase := { b with input := f } }

/-- A window end (R29, R30, R33): the offset is rounded to a whole ppb, held at ±100,000 and written, and the next window
starts. In ACQUIRING an offset of at most 50 ppb counts, the third in a row enters LOCKED, and a larger one sets the count to
0. In LOCKED an offset above 200 ppb enters ACQUIRING and gives the running jobs REF_LOST. A change of state makes REFERENCE
pending. With no window in progress, and in FREE and HOLDOVER, it changes nothing (assumption 7). The steering as a number
that falls by each offset is the model's choice (assumption 12). -/
def Obligations.WindowEndsDiscipline : Prop :=
  ∀ (offset : Rat) (s : State), s.settled →
    let b : Timebase := s.timebase
    let o := clampInt (-100000) 100000 (roundRat offset)
    let w : Timebase := { b with lastOffset := some o, steering := b.steering - o, windowStart := some b.uptime }
    ((b.windowStart = none ∨ b.discipline = .free ∨ b.discipline = .holdover) → exec (.windowEnd offset) s = .next s) ∧
    (b.windowStart ≠ none → b.discipline = .acquiring → (50 < o.natAbs ∨ b.goodCount ≠ 2) →
      exec (.windowEnd offset) s =
        .next { s with timebase := { w with goodCount := if o.natAbs ≤ 50 then b.goodCount + 1 else 0 } }) ∧
    (b.windowStart ≠ none → b.discipline = .acquiring → o.natAbs ≤ 50 → b.goodCount = 2 →
      ∃ t, exec (.windowEnd offset) s = .next t ∧ t.events.pending &&& EventKind.reference.bit ≠ 0 ∧
        Carried { s with timebase := { w with
          discipline := .locked, entered := b.uptime, goodCount := 3, holdover := none } } t) ∧
    (b.windowStart ≠ none → b.discipline = .locked → o.natAbs ≤ 200 →
      exec (.windowEnd offset) s = .next { s with timebase := w }) ∧
    (b.windowStart ≠ none → b.discipline = .locked → 200 < o.natAbs →
      ∃ t, exec (.windowEnd offset) s = .next t ∧ t.events.pending &&& EventKind.reference.bit ≠ 0 ∧
        Carried { s with
          timebase := { w with discipline := .acquiring, entered := b.uptime, goodCount := 0, holdover := none }
          jobs := s.jobs.map fun (j : Job) =>
            if j.state.running then { j with flags := { j.flags with refLost := true } } else j } t)

/-! ### Plan table -/

/-- PLAN_PUT's checks in the order of R39: slot number, use count, structure, jitter bands, time limit, mask. A refused
request changes nothing. One that passes stores the plan and is answered its clamp report, and nothing else changes. -/
def Obligations.PlanPutChecksInOrder : Prop :=
  ∀ (h : Header) (f : PlanFields) (s : State), s.settled → s.listens h.rate →
    let refused (st : Status) : Prop := ∃ t, exec (.planPut h f) s = .next t ∧
      t.answered 0x20 h.tag (.refuse st) s.replies ∧ t.behindPort = s.behindPort
    (31 < f.slot.toNat → refused .outOfRange) ∧
    ∀ i : PlanId, i.val = f.slot.toNat →
      (s.useCount i ≠ 0 → refused .inUse) ∧
      (s.useCount i = 0 → planShapeOf f = none → refused .outOfRange) ∧
      (s.useCount i = 0 → ∀ x, planShapeOf f = some x →
        let p := storedPlan f x
        let bands := (jitterBandsOf f x.jitterCount).all (jitterBandLegal x)
        (bands = false ∨ durationSuffices p = false → refused .outOfRange) ∧
        (bands = true → durationSuffices p = true → (∃ m, p.mask = some m ∧ s.masks[m] = none) → refused .noSuch) ∧
        (bands = true → durationSuffices p = true → (∀ m, p.mask = some m → s.masks[m] ≠ none) →
          ∃ t, exec (.planPut h f) s = .next t ∧
            t.answered 0x20 h.tag (.ok (clampReport (planClamps f p))) s.replies ∧
            t.behindPort = { s with plans := s.plans.set i (some p) }.behindPort))

/-- The clamps of R42 in a stored plan: duration, snapshot interval, margin, the targets and minimums of selected bands, with
zeros for the other bands, the three fields of a spur rule and the frequency tolerance, where they are present; and the
identifier of a clamped field is in the report exactly when its value moved. -/
def Obligations.PlanFieldsClamped : Prop :=
  ∀ (f : PlanFields) (x : PlanShape), planShapeOf f = some x →
    let p := storedPlan f x
    x.startBand.val + 1 = f.startBand.toNat ∧ x.stopBand.val + 1 = f.stopBand.toNat ∧
    p.maxDuration = max 100 (min f.maxDuration.toNat 600000) ∧
    p.snapshot = (if f.snapshot.toNat = 0 then 0 else max 100 (min f.snapshot.toNat 10000)) ∧
    p.margin = max 0 (min f.margin.toInt 2000) / 50 * 50 ∧
    (∀ b : BandId, x.startBand ≤ b → b ≤ x.stopBand →
      p.bands[b].target = max 1 (min f.bands[b].target.toNat 4096) ∧
      p.bands[b].minimum = max 1 (min f.bands[b].minimum.toNat p.bands[b].target)) ∧
    (∀ b : BandId, ¬(x.startBand ≤ b ∧ b ≤ x.stopBand) → p.bands[b] = ⟨0, 0⟩ ∧
      ClampId.target b ∉ planClamps f p ∧ ClampId.minimum b ∉ planClamps f p) ∧
    (f.spurPresent = 0 → p.spur = none ∧ ClampId.spurThreshold ∉ planClamps f p ∧ ClampId.spurLimit ∉ planClamps f p ∧
      ClampId.spurReport ∉ planClamps f p) ∧
    (f.spurPresent = 1 → ∃ r : SpurRule, p.spur = some r ∧
      r.threshold = max 600 (min (f.spurThreshold.toNat : Int) 4000) ∧ r.limit = max (-14000) (min f.spurLimit.toInt (-2000)) ∧
      r.report = min f.spurReport.toNat 8 ∧
      (ClampId.spurThreshold ∈ planClamps f p ↔ r.threshold ≠ f.spurThreshold.toNat) ∧
      (ClampId.spurLimit ∈ planClamps f p ↔ r.limit ≠ f.spurLimit.toInt) ∧
      (ClampId.spurReport ∈ planClamps f p ↔ r.report ≠ f.spurReport.toNat)) ∧
    (f.tolerancePresent = 0 → p.tolerance = none ∧ ClampId.freqTolerance ∉ planClamps f p) ∧
    (f.tolerancePresent = 1 → ∃ t, p.tolerance = some t ∧ t = min f.tolerance.toNat 1000000 ∧
      (ClampId.freqTolerance ∈ planClamps f p ↔ t ≠ f.tolerance.toNat)) ∧
    (ClampId.maxDuration ∈ planClamps f p ↔ p.maxDuration ≠ f.maxDuration.toNat) ∧
    (ClampId.snapshotInterval ∈ planClamps f p ↔ p.snapshot ≠ f.snapshot.toNat) ∧
    (ClampId.floorMargin ∈ planClamps f p ↔ p.margin ≠ f.margin.toInt) ∧
    (∀ b : BandId, x.startBand ≤ b → b ≤ x.stopBand →
      (ClampId.target b ∈ planClamps f p ↔ p.bands[b].target ≠ f.bands[b].target.toNat) ∧
      (ClampId.minimum b ∈ planClamps f p ↔ p.bands[b].minimum ≠ f.bands[b].minimum.toNat))

/-- A plan read back and sent again unchanged is stored with an empty clamp report (R45). -/
def Obligations.PlanReadBackIsStoredUnclamped : Prop :=
  ∀ (h : Header) (i : PlanId) (p : Plan) (s : State), s.settled → s.listens h.rate → p.sound →
    (∀ m, p.mask = some m → s.masks[m] ≠ none) → s.useCount i = 0 →
    ∃ t, exec (.planPut h (p.toFields i)) s = .next t ∧ t.answered 0x20 h.tag (.ok [some 0]) s.replies ∧
      t.behindPort = { s with plans := s.plans.set i (some p) }.behindPort

/-- PLAN_DROP by the table of R46, and MASK_DROP by that of R49. -/
def Obligations.DropsByTable : Prop :=
  ∀ (h : Header) (s : State), s.settled → s.listens h.rate →
    (∀ b : Byte, (31 < b.toNat → ∃ t, exec (.planDrop h b) s = .next t ∧
        t.answered 0x22 h.tag (.refuse .outOfRange) s.replies ∧ t.behindPort = s.behindPort) ∧
      (7 < b.toNat → ∃ t, exec (.maskDrop h b) s = .next t ∧
        t.answered 0x26 h.tag (.refuse .outOfRange) s.replies ∧ t.behindPort = s.behindPort)) ∧
    (∀ i : PlanId, ∃ t, exec (.planDrop h (BitVec.ofNat 8 i.val)) s = .next t ∧
      t.answered 0x22 h.tag (if s.plans[i] = none then .refuse .noSuch
        else if s.useCount i ≠ 0 then .refuse .inUse else .ok []) s.replies ∧
      t.behindPort = (if s.useCount i = 0 then { s with plans := s.plans.set i none } else s).behindPort) ∧
    ∀ m : MaskId, ∃ t, exec (.maskDrop h (BitVec.ofNat 8 m.val)) s = .next t ∧
      t.answered 0x26 h.tag (if s.masks[m] = none then .refuse .noSuch
        else if s.maskReferenced m then .refuse .inUse else .ok []) s.replies ∧
      t.behindPort = (if s.maskReferenced m then s else { s with masks := s.masks.set m none }).behindPort

/-- MASK_PUT's checks in the order of R48, with what it stores; a mask is busy while a plan slot of a job that is not DONE
names it (R47, R49). BINMAP_PUT replaces all nine bins, or is refused if any is above 15 (R53). -/
def Obligations.MaskPutAndBinmapPut : Prop :=
  ∀ (h : Header) (s : State), s.settled → s.listens h.rate →
    (∀ f : MaskFields, 7 < f.slot.toNat → ∃ t, exec (.maskPut h f) s = .next t ∧
      t.answered 0x24 h.tag (.refuse .outOfRange) s.replies ∧ t.behindPort = s.behindPort) ∧
    (∀ (f : MaskFields) (m : MaskId), m.val = f.slot.toNat →
      let busy : Prop := ∃ (p : PlanId) (x : Plan), s.plans[p] = some x ∧ x.mask = some m ∧
        ∃ j ∈ s.jobs, j.plan = p ∧ j.state ≠ .done
      let n := f.count.toNat
      let g (k : Fin 16) := f.vertices[k].offset.toNat
      let v (k : Fin 16) := f.vertices[k].limit.toInt
      let legal : Prop := 2 ≤ n ∧ n ≤ 16 ∧
        (∀ k : Fin 16, k.val < n → 10 ≤ g k ∧ g k ≤ 10000000 ∧ -20000 ≤ v k ∧ v k ≤ -4000) ∧
        ∀ k l : Fin 16, k.val + 1 = l.val → l.val < n → g k < g l
      (busy → ∃ t, exec (.maskPut h f) s = .next t ∧
        t.answered 0x24 h.tag (.refuse .inUse) s.replies ∧ t.behindPort = s.behindPort) ∧
      (¬busy → ¬legal → ∃ t, exec (.maskPut h f) s = .next t ∧
        t.answered 0x24 h.tag (.refuse .outOfRange) s.replies ∧ t.behindPort = s.behindPort) ∧
      (¬busy → legal → ∃ t, exec (.maskPut h f) s = .next t ∧ t.answered 0x24 h.tag (.ok []) s.replies ∧
        t.behindPort = { s with masks := s.masks.set m (some
          ((f.vertices.toList.take n).map fun (x : VertexFields) => ⟨x.offset.toNat, x.limit.toInt⟩)) }.behindPort)) ∧
    ∀ bins : Vector Byte 9,
      ((∃ k : Fin 9, 15 < bins[k].toNat) → ∃ t, exec (.binmapPut h bins) s = .next t ∧
        t.answered 0x28 h.tag (.refuse .outOfRange) s.replies ∧ t.behindPort = s.behindPort) ∧
      ∀ map : Vector (Fin 16) 9, (∀ k : Fin 9, map[k].val = bins[k].toNat) → ∃ t, exec (.binmapPut h bins) s = .next t ∧
        t.answered 0x28 h.tag (.ok []) s.replies ∧ t.behindPort = { s with binMap := map }.behindPort

/-! ### Jobs -/

/-- JOB_SUBMIT's checks in the order of R57; a refused request changes nothing. -/
def Obligations.JobSubmitChecksInOrder : Prop :=
  ∀ (h : Header) (site plan group priority : Byte) (s : State), s.settled → s.listens h.rate →
    let refused (st : Status) : Prop := ∃ t, exec (.jobSubmit h site plan group priority) s = .next t ∧
      t.answered 0x30 h.tag (.refuse st) s.replies ∧ t.behindPort = s.behindPort
    ((15 < site.toNat ∨ 31 < plan.toNat ∨ 15 < group.toNat ∨ 1 < priority.toNat) → refused .outOfRange) ∧
    (site.toNat ≤ 15 → plan.toNat ≤ 31 → group.toNat ≤ 15 → priority.toNat ≤ 1 →
      (64 ≤ s.jobs.length → refused .full) ∧
      (s.jobs.length < 64 → ∀ (i : SiteId) (p : PlanId) (g : Fin 16),
        i.val = site.toNat → p.val = plan.toNat → g.val = group.toNat →
        let x := s.site i
        let wrong := x.configured = false ∨ x.state = .faultLatched ∨ (x.state = .off ∧ x.powerPending = false)
        let held := s.jobs.filter fun (j : Job) => decide (j.state = .held ∧ j.group = g)
        (s.plans[p] = none → refused .noSuch) ∧
        (s.plans[p] ≠ none → wrong → refused .wrongState) ∧
        (s.plans[p] ≠ none → ¬wrong → g ≠ 0 → 4 ≤ held.length → refused .full) ∧
        (s.plans[p] ≠ none → ¬wrong → g ≠ 0 → held.length < 4 → (∃ j ∈ held, j.site = i) → refused .inUse)))

/-- A JOB_SUBMIT that passes every check of R57 (R56, R58): the record takes the first id from the next-id value on that no
record holds, 1 to 65535 in a ring, and the next-sequence value, and both values move on. At a site in NO_CARRIER the job has
ended NO_CARRIER at once (R79); else it is HELD in a group, where nothing else changes, and QUEUED without one. While the
start condition fails nothing else changes then but the reservations, which go (R65). -/
def Obligations.JobSubmitAccepted : Prop :=
  ∀ (h : Header) (i : SiteId) (p : PlanId) (g : Fin 16) (u : Priority) (s : State), s.settled → s.listens h.rate →
    s.distinct → s.jobs.length < 64 → 1 ≤ s.nextId → s.nextId ≤ 65535 → s.plans[p] ≠ none →
    let x := s.site i
    let held := s.jobs.filter fun (j : Job) => decide (j.state = .held ∧ j.group = g)
    x.configured = true → x.state ≠ .faultLatched → (x.state = .off → x.powerPending = true) →
    (g ≠ 0 → held.length < 4 ∧ ∀ j ∈ held, j.site ≠ i) →
    ∃ (t : State) (id n : Nat),
      let j : Job := {
        id := id, site := i, plan := p, group := g, priority := u, state := if g = 0 then .queued else .held
        seq := s.nextSeq, gang := none, lane := none, attempts := 0, flags := ⟨false, false, false, false, false⟩
        recount := none, latched := none, started := none, duration := none, counts := none, reason := none
        result := none, buffer := none }
      let s' : State := { s with
        jobs := s.jobs ++ [j]
        nextId := if id = 65535 then 1 else id + 1
        nextSeq := if s.nextSeq = 4294967295 then 1 else s.nextSeq + 1 }
      exec (.jobSubmit h (BitVec.ofNat 8 i.val) (BitVec.ofNat 8 p.val) (BitVec.ofNat 8 g.val) u.code) s = .next t ∧
      n < 65 ∧ id = (s.nextId - 1 + n) % 65535 + 1 ∧ (∀ k ∈ s.jobs, k.id ≠ id) ∧
      (∀ m < n, ∃ k ∈ s.jobs, k.id = (s.nextId - 1 + m) % 65535 + 1) ∧
      t.answered 0x30 h.tag
        (.ok (u16 id ++ [some (if x.state = .noCarrier then 6 else if g = 0 then 1 else 0)])) s.replies ∧
      Carried s'.behindPort t.behindPort ∧
      (x.state = .noCarrier → t.ended id .noCarrier .noCarrier) ∧
      (x.state ≠ .noCarrier → g ≠ 0 → t.behindPort = s'.behindPort) ∧
      (x.state ≠ .noCarrier → g = 0 → s.timebase.mode = .external → s.timebase.discipline ≠ .locked →
        t.behindPort = { s' with
          head := none
          lanes := s.lanes.map fun (x : Lane) => if x.state = .reserved then { x with state := .idle } else x
          : State }.behindPort)

/-- JOB_ABORT by the table of R74. By job id: NO_SUCH without a record, WRONG_STATE in EVALUATING or DONE, else that job. By
site, group or all: every job addressed that waits or runs; the count is answered. The jobs have ended HOST_ABORT with verdict
ABORTED and their lanes are free of them; EVALUATING and DONE records stand but for a gang list. Other selectors and values:
OUT_OF_RANGE. -/
def Obligations.JobAbortEndsJobs : Prop :=
  ∀ (h : Header) (selector : Byte) (value : Half) (s : State), s.settled → s.listens h.rate → s.distinct →
    let v := value.toNat
    let refused (st : Status) : Prop := ∃ t, exec (.jobAbort h selector value) s = .next t ∧
      t.answered 0x32 h.tag (.refuse st) s.replies ∧ t.behindPort = s.behindPort
    let endsAll (addressed : Job → Bool) : Prop :=
      let ends (j : Job) : Bool := addressed j && (j.state.waiting || j.state.running)
      ∃ t, exec (.jobAbort h selector value) s = .next t ∧
        t.answered 0x32 h.tag (.ok [some (BitVec.ofNat 8 (s.jobs.countP ends))]) s.replies ∧
        Carried s.behindPort t.behindPort ∧
        (∀ j ∈ s.jobs, ends j = true → t.ended j.id .hostAbort .aborted ∧
          ∀ l : LaneId, j.state.running = true → j.lane = some l → (t.lane l).job ≠ some j.id) ∧
        ∀ j ∈ s.jobs, (j.state = .evaluating ∨ j.state = .done) → ∃ k ∈ t.jobs, k = { j with gang := k.gang }
    (selector = 0 → (∀ j ∈ s.jobs, j.id ≠ v) → refused .noSuch) ∧
    (selector = 0 → ∀ j ∈ s.jobs, j.id = v → (j.state = .evaluating ∨ j.state = .done) → refused .wrongState) ∧
    (selector = 0 → ∀ j ∈ s.jobs, j.id = v → j.state ≠ .evaluating → j.state ≠ .done →
      endsAll fun k => decide (k.id = v)) ∧
    (selector = 1 → v ≤ 15 → endsAll fun k => decide (k.site.val = v)) ∧
    (selector = 2 → 1 ≤ v → v ≤ 15 → endsAll fun k => decide (k.group.val = v)) ∧
    (selector = 3 → endsAll fun _ => true) ∧
    ((3 < selector.toNat ∨ (selector = 1 ∧ 15 < v) ∨ (selector = 2 ∧ (v = 0 ∨ 15 < v))) → refused .outOfRange)

/-- GROUP_RELEASE (R60): OUT_OF_RANGE for group 0 or above 15, NO_SUCH with an empty held set. Otherwise every held job of the
group is QUEUED with the gang of all of them, in the order of acceptance by the model's choice (assumption 35), and the number
is answered. While the start condition fails nothing else changes but the reservations, which go (R65). -/
def Obligations.GroupReleaseMakesGang : Prop :=
  ∀ (h : Header) (group : Byte) (s : State), s.settled → s.listens h.rate →
    let refused (st : Status) : Prop := ∃ t, exec (.groupRelease h group) s = .next t ∧
      t.answered 0x33 h.tag (.refuse st) s.replies ∧ t.behindPort = s.behindPort
    ((group = 0 ∨ 15 < group.toNat) → refused .outOfRange) ∧
    ∀ g : Fin 16, g.val = group.toNat → g ≠ 0 →
      let held := s.jobs.filter fun (j : Job) => decide (j.state = .held ∧ j.group = g)
      let s' : State := { s with jobs := s.jobs.map fun (j : Job) =>
        if j.state = .held ∧ j.group = g then { j with state := .queued, gang := some (held.map Job.id) } else j }
      (held = [] → refused .noSuch) ∧
      (held ≠ [] → ∃ t, exec (.groupRelease h group) s = .next t ∧
        t.answered 0x33 h.tag (.ok [some (BitVec.ofNat 8 held.length)]) s.replies ∧
        Carried s'.behindPort t.behindPort ∧
        (s.timebase.mode = .external → s.timebase.discipline ≠ .locked → t.behindPort = { s' with
          head := none
          lanes := s.lanes.map fun (x : Lane) => if x.state = .reserved then { x with state := .idle } else x
          : State }.behindPort))

/-! ### The arbiter -/

/-- The head (R64, R65, R61). A candidate is a QUEUED single job or all remaining members of a gang, each QUEUED. There is a
head exactly where the start condition holds and some candidate has all its sites READY; it is such a candidate, no other one
of them is URGENT while it is not, and none of its class has a member older than all of its members. In a sound job table. -/
def Obligations.HeadIsFirstReadyCandidate : Prop :=
  ∀ s : State, s.jobsSound →
    let ready (c : List Job) : Prop := ∀ j ∈ c, (s.site j.site).state = .ready
    let urgent (c : List Job) : Prop := ∃ j ∈ c, j.priority = .urgent
    let starts : Prop := s.timebase.mode = .internal ∨ s.timebase.discipline = .locked
    (∀ c, c ∈ s.candidates ↔ (∀ k ∈ c, k.state = .queued) ∧ ∃ j ∈ s.jobs, j.state = .queued ∧
      (∀ k ∈ c, s.age k ≤ s.age j) ∧
      (match j.gang with
        | none => c = [j]
        | some g => c = s.jobs.filter fun (k : Job) => g.contains k.id)) ∧
    (s.findHead = none ↔ ¬starts ∨ ∀ c ∈ s.candidates, ¬ready c) ∧
    ∀ c, s.findHead = some c → starts ∧ c ∈ s.candidates ∧ ready c ∧
      ∀ c' ∈ s.candidates, ready c' → (urgent c' → urgent c) ∧
        ((urgent c' ↔ urgent c) → ∀ k' ∈ c', ∃ k ∈ c, s.age k' ≤ s.age k)

/-- A reconsideration (R65 to R69). Without a head the reservations go. A head other than the recorded one is recorded and the
reservations go first. A head of more members than lanes in service has ended NO_LANE. With segments enough and too few lanes
the IDLE lanes are RESERVED; with segments short STALLED is raised, and the IDLE lanes are RESERVED with too few lanes, kept
with too few IDLE ones, and else the reservations go. With both enough, the n-th member by site is TUNING on the n-th open
lane with a fresh buffer set and its recount begun, its site MEASURING, and LEVEL set unless its level flag is IN. -/
def Obligations.ReconsiderationByTable : Prop :=
  ∀ s : State, s.reconsider = true → s.distinct →
    let turned (r : State) (a b : LaneState) : State := { r with
      reconsider := false, lanes := r.lanes.map fun (x : Lane) => if x.state = a then { x with state := b } else x }
    (s.findHead = none → s.arbitrate = { turned s .reserved .idle with head := none }) ∧
    ∀ c, s.findHead = some c →
      let ids := c.map Job.id
      let s' : State := if s.head = some ids then { s with reconsider := false }
        else { turned s .reserved .idle with head := some ids }
      let count (st : LaneState) : Nat := (List.finRange 4).countP fun l => decide ((s'.lane l).state = st)
      let need := c.length
      let segments := (c.map fun (j : Job) =>
        (s.planOf j).bandCount * (if (s.planOf j).snapshot = 0 then 1 else 3)).sum
      let inService := 4 - count .outOfService
      (inService < need → ∀ j ∈ c, s.arbitrate.ended j.id .noLane .aborted) ∧
      (need ≤ inService →
        (segments ≤ s.freeSegments → count .idle + count .reserved < need →
          s.arbitrate = turned s' .idle .reserved) ∧
        (s.freeSegments < segments → count .idle + count .reserved < need →
          s.arbitrate = (turned s' .idle .reserved).raise .stalled) ∧
        (s.freeSegments < segments → need ≤ count .idle + count .reserved → count .idle < need →
          s.arbitrate = s'.raise .stalled) ∧
        (s.freeSegments < segments → need ≤ count .idle →
          s.arbitrate = (turned s' .reserved .idle).raise .stalled) ∧
        (segments ≤ s.freeSegments → need ≤ count .idle + count .reserved → (c.map Job.site).Nodup →
          ∀ j ∈ c, ∀ l : LaneId,
            let opens (m : LaneId) : Bool := decide ((s'.lane m).state = .idle ∨ (s'.lane m).state = .reserved)
            opens l = true →
            (c.countP fun (k : Job) => decide (k.site < j.site)) =
              ((List.finRange 4).countP fun m => decide (m < l) && opens m) →
            let p := s.planOf j
            let x := s.site j.site
            (∃ k ∈ s.arbitrate.jobs, k = { j with
              state := .tuning, lane := some l, gang := k.gang
              buffer := some ⟨p.bandCount, decide (0 < p.snapshot), none, none, none, 0⟩
              flags := { j.flags with level := j.flags.level || decide (x.levelFlag ≠ some .within) } }) ∧
            s.arbitrate.lane l = { s.lane l with
              state := .tuning, job := some j.id, connected := some j.site, tune := some .recount
              acquisition := none } ∧
            s.arbitrate.site j.site = { x with state := .measuring, entered := s.timebase.uptime }))

/-! ### Tuning -/

/-- A recount gate end at a connected, MEASURING site (R70, R71): the count goes into the site's last count and the job's
recount. With the carrier present both synthesizers are set to nominal × (1 + error × 10⁻⁹) and the lock timer runs, and
nothing else changes. Without it the site is in NO_CARRIER with no lane connected, SITE_ALERT is pending, and its running and
waiting jobs have ended NO_CARRIER. -/
def Obligations.RecountGateEnds : Prop :=
  ∀ (l : LaneId) (i : SiteId) (id : Nat) (frequency : Option Rat) (level : Rat) (s : State), s.settled → s.distinct →
    (s.lane l).tune = some .recount → (s.lane l).connected = some i → (s.lane l).job = some id →
    (s.site i).state = .measuring →
    let x := s.site i
    let nominal := x.applied.supply.carrier
    let error := frequencyError nominal frequency
    let count : CountRecord := ⟨s.timebase.uptime, s.timebase.countTag, error⟩
    let s' : State := { s.setSite i { x with lastCount := some count } with
      jobs := s.jobs.map fun (j : Job) => if j.id = id then { j with recount := some count } else j }
    (∀ e, error = some e → (windowMin x.applied.levelRange : Rat) - 100 ≤ 10 * level →
      exec (.recountGateEnd l frequency level) s = .next (s'.setLane l { s.lane l with
        tune := some .locking
        channels := (s.lane l).channels.map fun (c : Channel) =>
          { c with synth := ((nominal : Int) * (1000000000 + e)).toNat } })) ∧
    ((error = none ∨ 10 * level < (windowMin x.applied.levelRange : Rat) - 100) →
      let z : Site := { x with
        lastCount := some count, state := .noCarrier, entered := s.timebase.uptime, timer := .recheckWait,
        levelFlag := none, settled := none, qualifying := none }
      ∃ t, exec (.recountGateEnd l frequency level) s = .next t ∧ t.site i = z ∧ Carried (s'.setSite i z) t ∧
        t.events.pending &&& EventKind.siteAlert.bit ≠ 0 ∧ (∀ m : LaneId, (t.lane m).connected ≠ some i) ∧
        ∀ j ∈ s.jobs, j.site = i → (j.state.running || j.state.waiting) = true → t.ended j.id .noCarrier .noCarrier)

/-- A lock event for a job in TUNING (R71, R73, R84, R85): the lane's failure count is 0. A single job starts acquiring. A
gang member waits while another member is still tuning; the lock of the last one starts every waiting member on its lane, all
with one start uptime. Nothing else changes. A lane whose lock timer does not run changes nothing. -/
def Obligations.LockStartsAcquisition : Prop :=
  ∀ (l : LaneId) (s : State), s.settled → s.distinct →
    ((s.lane l).tune ≠ some .locking → exec (.lockEvent l) s = .next s) ∧
    ∀ j : Job, s.serves l j .tuning → (s.lane l).tune = some .locking → j.lane = some l →
      let s' : State := s.setLane l { s.lane l with tuneFailures := 0 }
      (j.gang = none → (∀ k ∈ s.jobs, ∀ g, k.gang = some g → j.id ∉ g) →
        exec (.lockEvent l) s = .next { s'.setLane l (s'.startedLane j l) with
          jobs := s.jobs.map fun (k : Job) => if k.id = j.id then s'.startedJob j l else k }) ∧
      ∀ g : List Nat, j.gang = some g → j.id ∈ g → (∀ k ∈ s.jobs, ∀ g', k.gang = some g' → j.id ∈ g' → g' = g) →
        ((∃ k ∈ s.jobs, k.id ∈ g ∧ k.id ≠ j.id ∧ k.state = .tuning) → exec (.lockEvent l) s = .next {
          s.setLane l { s.lane l with state := .gangWait, tune := none, tuneFailures := 0 } with
          jobs := s.jobs.map fun (k : Job) => if k.id = j.id then { j with state := .gangWait } else k }) ∧
        ((∀ k ∈ s.jobs, k.id ∈ g → k.id ≠ j.id → k.state ≠ .tuning) →
          let starts (k : Job) : Prop := k = j ∨ (k.state = .gangWait ∧ k.gang = some g)
          (∀ k ∈ s.jobs, starts k → k.lane ≠ none) →
          (∀ k ∈ s.jobs, ∀ k' ∈ s.jobs, starts k → starts k' → k.lane = k'.lane → k = k') →
          ∃ t, exec (.lockEvent l) s = .next t ∧ t = { s with jobs := t.jobs, lanes := t.lanes } ∧
            t.jobs.map Job.id = s.jobs.map Job.id ∧
            (∀ k ∈ s.jobs, starts k → ∀ m : LaneId, k.lane = some m →
              s'.startedJob k m ∈ t.jobs ∧ t.lane m = s'.startedLane k m) ∧
            (∀ k ∈ s.jobs, ¬starts k → k ∈ t.jobs) ∧
            ∀ m : LaneId, (∀ k ∈ s.jobs, starts k → k.lane ≠ some m) → t.lane m = s.lane m)

/-- A lock timer expiry for a job in TUNING (R72): the failure count goes up by 1, and the lane's connection is opened, its
MEASURING site READY with SITE_READY pending. A single job with attempts below 2 is QUEUED again with attempts + 1, without
lane and buffer set, and any other job has ended LANE_TUNE. The lane without its job: with cal-pending it calibrates; at the
third failure, with LANE_ALERT pending, it calibrates as started out of service or goes OUT_OF_SERVICE; else it is IDLE. What
the arbiter may do next is stated for a failed start condition. -/
def Obligations.LockTimerExpires : Prop :=
  ∀ (l : LaneId) (s : State), s.settled → s.distinct → s.unclaimed l →
    ((s.lane l).tune ≠ some .locking → exec (.lockTimerExpiry l) s = .next s) ∧
    ∀ j : Job, s.serves l j .tuning → (s.lane l).tune = some .locking →
      let n := (s.lane l).tuneFailures + 1
      let noHead : Prop := s.timebase.mode = .external ∧ s.timebase.discipline ≠ .locked
      let again := decide (j.gang = none ∧ j.attempts < 2)
      let s' : State := { s.setLane l { s.lane l with tuneFailures := n } with jobs := s.jobs.map fun (k : Job) =>
        if k.id = j.id ∧ again = true then { k with attempts := j.attempts + 1 } else k }
      ∃ t, exec (.lockTimerExpiry l) s = .next t ∧ Carried s' t ∧
        (∀ i, (s.lane l).connected = some i → (s.site i).state = .measuring →
          t.events.pending &&& EventKind.siteReady.bit ≠ 0 ∧ (noHead → (t.site i).state = .ready)) ∧
        (again = true → noHead →
          { j with state := .queued, attempts := j.attempts + 1, lane := none, buffer := none } ∈ t.jobs) ∧
        (again = false → t.ended j.id .laneTune .aborted) ∧
        ((noHead ∨ (s.lane l).calPending = true ∨ 3 ≤ n) → (t.lane l).connected = none) ∧
        (3 ≤ n → t.events.pending &&& EventKind.laneAlert.bit ≠ 0) ∧
        ((s.lane l).calPending = true → (t.lane l).state = .calibrating ∧ (t.lane l).calPending = false ∧
          (t.lane l).job = none ∧ (t.calRecord l).status = .running ∧
          (t.calRecord l).outOfService = some (decide (3 ≤ n))) ∧
        ((s.lane l).calPending = false → 3 ≤ n → (t.lane l).state = .outOfService ∧ (t.lane l).job = none) ∧
        ((s.lane l).calPending = false → n < 3 → noHead → (t.lane l).state = .idle ∧ (t.lane l).job = none) ∧
        (noHead → t.freeSegments = s.freeSegments + j.bufferSize)

/-! ### Acquisition -/

/-- A completion of a band's average in progress that does not end the acquisition (R86 to R88, R98 to R100). With the spoiled
marker set the rejected count goes up, held at 65535, and the marker clears. Else the sums grow bin by bin, the accepted count
goes up, and the next average begins below the target alone. The job's counts follow, and nothing else changes. A band without
an average in progress, and a lane without an acquisition, take no completion. -/
def Obligations.BandCompletionCounts : Prop :=
  ∀ (l : LaneId) (b : BandId) (sums : List BinSums) (s : State), s.settled → s.distinct →
    ((s.lane l).job = none → exec (.bandCompletion l b sums) s = .next s) ∧
    ∀ (j : Job) (a : Acquisition), s.serves l j .acquiring → (s.lane l).acquisition = some a →
      ((∀ x ∈ a.bands, x.band = b → x.inProgress = false) → exec (.bandCompletion l b sums) s = .next s) ∧
      ∀ x : BandAcq, a.bands.find? (fun (y : BandAcq) => y.band == b) = some x → x.inProgress = true →
        let goesOn (y : BandAcq) : Acquisition := { a with bands := a.bands.map fun (z : BandAcq) =>
          if z.band = b then y else z }
        let counted (y : BandAcq) : State := { s.setLane l { s.lane l with acquisition := some (goesOn y) } with
          jobs := s.jobs.map fun (k : Job) => if k.id = j.id then
            { k with counts := k.counts.map fun (v : Vector BandCount 6) => v.set b ⟨y.accepted, y.rejected⟩ } else k }
        (x.spoiled = true → exec (.bandCompletion l b sums) s = .next (counted { x with
          rejected := min 65535 (x.rejected + 1), completions := x.completions + 1, spoiled := false })) ∧
        (x.spoiled = false → sums.length = x.sums.length →
          let y : BandAcq := { x with
            sums := List.zipWith (fun (p q : BinSums) => ⟨p.re + q.re, p.im + q.im, p.a + q.a, p.b + q.b⟩) x.sums sums
            accepted := x.accepted + 1
            completions := x.completions + 1
            inProgress := decide (x.accepted + 1 < (s.planOf j).bands[b].target) }
          s.endedBy j (goesOn y) b = none → exec (.bandCompletion l b sums) s = .next (counted y))

/-- Acquisition end (R86, R98 to R103): at an accepted completion that ends it, with the band's completions times its
per-average time as duration to the nearest millisecond, and at max-duration expiry, TIMEOUT with the time limit; that these
are the times from the start event is deduced (assumption 27). The averages in progress are discarded with the counts kept,
the timers stop, the reason is fixed, the job and the lane are EVALUATING, the connection is open, and a MEASURING site is
released with SITE_READY pending. -/
def Obligations.AcquisitionEnds : Prop :=
  ∀ (l : LaneId) (j : Job) (a : Acquisition) (s : State), s.settled → s.distinct → s.unclaimed l →
    s.serves l j .acquiring → (s.lane l).acquisition = some a →
    let ends (c : Instr) (e : Acquisition) (counts : Option (Vector BandCount 6)) (r : EndReason) (d : Nat) : Prop :=
      ∃ t, exec c s = .next t ∧ Carried s t ∧
        t.lane l = { s.lane l with state := .evaluating, acquisition := some (e.stopped r), connected := none } ∧
        (∃ k ∈ t.jobs, k = { j with state := .evaluating, duration := some d, counts := counts, gang := k.gang }) ∧
        ∀ i, (s.lane l).connected = some i → (s.site i).state = .measuring →
          t.events.pending &&& EventKind.siteReady.bit ≠ 0 ∧ (t.site i).state.selectable = true
    (∀ (b : BandId) (sums : List BinSums) (x : BandAcq) (r : EndReason),
      a.bands.find? (fun (y : BandAcq) => y.band == b) = some x → x.inProgress = true → x.spoiled = false →
      sums.length = x.sums.length →
      let y : BandAcq := { x with
        sums := List.zipWith (fun (p q : BinSums) => ⟨p.re + q.re, p.im + q.im, p.a + q.a, p.b + q.b⟩) x.sums sums
        accepted := x.accepted + 1
        completions := x.completions + 1
        inProgress := decide (x.accepted + 1 < (s.planOf j).bands[b].target) }
      let e : Acquisition := { a with bands := a.bands.map fun (z : BandAcq) => if z.band = b then y else z }
      s.endedBy j e b = some r →
      ends (.bandCompletion l b sums) e
        (j.counts.map fun (v : Vector BandCount 6) => v.set b ⟨y.accepted, y.rejected⟩) r
        ((2 * ((x.completions + 1) * Config.averageTime b) + 100) / 200)) ∧
    (∀ limit, a.maxTimer = some limit → ends (.maxDurationExpiry l) a j.counts .timeout limit) ∧
    (a.maxTimer = none → exec (.maxDurationExpiry l) s = .next s)

/-- A capture disturbance in ACQUIRING, of either cause, spoils the average in progress of every band that has one, and in
another stage changes nothing (R87). A snapshot timer expiry fills W with the points computed now (R96, R140): with the hold
off the fill becomes N with the next publish count, what N held becomes W, and SNAPSHOT is pending; with the hold on W is
filled alone. Without a snapshot timer nothing changes. -/
def Obligations.DisturbancesAndSnapshots : Prop :=
  ∀ (l : LaneId) (cause : Disturbance) (j : Job) (s : State), s.settled → s.distinct →
    (∀ st, st ≠ .acquiring → s.serves l j st → exec (.captureDisturbance l cause) s = .next s ∧
      exec (.snapshotTimerExpiry l) s = .next s) ∧
    ∀ a : Acquisition, s.serves l j .acquiring → (s.lane l).acquisition = some a →
      let fill := (computeSpectrum (s.planOf j) a).segments
      exec (.captureDisturbance l cause) s = .next (s.setLane l { s.lane l with
        acquisition := some { a with bands := a.bands.map fun (x : BandAcq) =>
          if x.inProgress then { x with spoiled := true } else x } }) ∧
      (a.snapTimer = none → exec (.snapshotTimerExpiry l) s = .next s) ∧
      (a.snapTimer ≠ none → ∀ b, j.buffer = some b →
        (s.hold = true → exec (.snapshotTimerExpiry l) s = .next { s with jobs := s.jobs.map fun (k : Job) =>
          if k.id = j.id then { j with buffer := some { b with w := some fill } } else k }) ∧
        (s.hold = false → ∃ t, exec (.snapshotTimerExpiry l) s = .next t ∧
          t.events.pending = s.events.pending ||| EventKind.snapshot.bit ∧ t.events.mask = s.events.mask ∧
          { t with port := s.port, events := s.events } = { s with jobs := s.jobs.map fun (k : Job) =>
            if k.id = j.id then { j with buffer := some { b with
              n := some ⟨b.published + 1, fill⟩, w := b.n.map Snapshot.segments, published := b.published + 1 } }
            else k }))

/-- Evaluation end (R104, R122, R130, R131, R133, R146, R148): the record is DONE with the reason fixed at acquisition end and
with one final point computation's spectrum, spur list, jitter entries and criteria; the verdict, the primary cause, and the
bin that the bin map gives for their class now; and the copies of the plan's bands. RESULT is pending, N and F return to the
pool, and the lane loses its acquisition record and goes IDLE, or calibrates where that was pending. -/
def Obligations.EvaluationEndsJob : Prop :=
  ∀ (l : LaneId) (j : Job) (a : Acquisition) (reason : EndReason) (s : State), s.settled → s.distinct → s.unclaimed l →
    s.serves l j .evaluating → (s.lane l).acquisition = some a → a.reason = some reason →
    let p := s.planOf j
    let x := computeSpectrum p a
    let entries := p.jitter.map (jitterEntry x a.nominal)
    let c := decideCriteria p (s.maskOf p) j.recount a x entries
    let outcomes := [c.frequency, c.mask, c.jitter, c.spur]
    let v : Verdict :=
      if .fail ∈ outcomes then .fail
      else if .inconclusive ∈ outcomes ∨ j.flags.level = true ∨ j.flags.refLost = true then .inconclusive
      else .pass
    let cause : Option Cause :=
      if c.frequency = .fail then some .frequency
      else if c.mask = .fail then some .mask
      else if c.jitter = .fail then some .jitter
      else if c.spur = .fail then some .spur
      else none
    let cls : BinClass := match v, cause with
      | .pass, _ => .pass
      | .inconclusive, _ => .inconclusive
      | _, some .frequency => .failFrequency
      | _, some .mask => .failMask
      | _, some .jitter => .failJitter
      | _, _ => .failSpur
    let r : Result := {
      verdict := v, binClass := cls, bin := s.binMap[cls.index], cause := cause, startBand := p.startBand
      stopBand := p.stopBand, criteria := some c, jitter := some entries, spurs := some (spurList p x.spurs)
      spectrum := some x.segments }
    let noHead : Prop := s.timebase.mode = .external ∧ s.timebase.discipline ≠ .locked
    ∃ t, exec (.evaluationEnd l) s = .next t ∧ Carried s t ∧ j.id ∈ t.results ∧
      t.events.pending &&& EventKind.result.bit ≠ 0 ∧
      { j with
        state := .done, reason := some reason, result := some r, lane := none, gang := none
        buffer := none } ∈ t.jobs ∧
      (t.lane l).acquisition = none ∧ (t.lane l).job ≠ some j.id ∧
      ((s.lane l).calPending = true → (t.lane l).state = .calibrating ∧ (t.calRecord l).status = .running) ∧
      ((s.lane l).calPending = false → noHead → (t.lane l).state = .idle) ∧
      (noHead → t.freeSegments = s.freeSegments +
        (match j.buffer with
          | some b => if b.roles then 2 * b.bands else 0
          | none => 0))

/-- What a point computation gives (R93 to R95, R110, R136): a segment per band of the acquisition in its order, with the
band's counts and 10 points, 11 in band 6; every value within −20000 and −2000 cdBc/Hz with M at most E; NO_DATA exactly in a
band without accepted averages. The spur list of a result is ordered by level and then offset, holds as many spurs as the
report count or all of them, and leaves out only what comes after it. -/
def Obligations.PointsAndSpursInOrder : Prop :=
  ∀ (p : Plan) (a : Acquisition),
    let x := computeSpectrum p a
    x.segments.map Segment.band = a.bands.map BandAcq.band ∧
    x.segments.map Segment.accepted = a.bands.map BandAcq.accepted ∧
    x.segments.map Segment.rejected = a.bands.map BandAcq.rejected ∧
    (∀ g ∈ x.segments, g.points.length = (if g.band.val = 5 then 11 else 10)) ∧
    (∀ g ∈ x.segments, ∀ q ∈ g.points, match q with
      | .noData => g.accepted = 0
      | .data m f e _ _ _ => g.accepted ≠ 0 ∧ -20000 ≤ m ∧ m ≤ e ∧ e ≤ -2000 ∧ -20000 ≤ f ∧ f ≤ -2000) ∧
    (∀ spurs : List Spur,
      let before (u v : Spur) : Prop := v.level < u.level ∨ (u.level = v.level ∧ u.offset ≤ v.offset)
      let listed := spurList p spurs
      listed.Pairwise before ∧ (p.spur = none → listed = []) ∧
      ∀ r, p.spur = some r → listed.length = min r.report spurs.length ∧
        ∃ rest, (listed ++ rest).Perm spurs ∧ ∀ u ∈ listed, ∀ v ∈ rest, before u v)

/-- The four criteria of a point computation, by the tables of R123 to R128, with the mask limits of R51. FREQUENCY reads the
tolerance and the recount's tag and error. SPUR fails on a spur above the limit and is inconclusive for a band without
accepted averages. JITTER combines the outcomes of the entries (R122). MASK combines its checked points: those of the selected
bands whose exact offset 10 ^ (1 + i / 10) Hz lies between the first vertex and the last. The limit at one is the integer
nearest to the line between the vertices on either side, over the logarithm of the offset, ties away from zero; the point
passes with E up to it, and above it fails, or is inconclusive where it is floor-limited; without data it is inconclusive. The
tally counts them. -/
def Obligations.CriteriaByTables : Prop :=
  ∀ (plan : Plan) (mask : Option (List Vertex)) (recount : Option CountRecord) (a : Acquisition) (x : Spectrum)
    (entries : List JitterEntry), (∀ vs, mask = some vs → maskSound vs) →
    let c := decideCriteria plan mask recount a x entries
    let combined (items : List Criterion) : Criterion :=
      if items = [] then .notApplied
      else if .fail ∈ items then .fail
      else if .inconclusive ∈ items then .inconclusive
      else .pass
    (plan.tolerance = none → c.frequency = .notApplied) ∧
    (∀ t r, plan.tolerance = some t → recount = some r →
      (r.tag = .unreferenced → c.frequency = .inconclusive) ∧
      (r.tag ≠ .unreferenced → ∀ e, r.error = some e → c.frequency = if |e| ≤ (t : Int) then .pass else .fail)) ∧
    (plan.spur = none → c.spur = .notApplied) ∧
    (∀ r, plan.spur = some r →
      ((∃ u ∈ x.spurs, r.limit < u.level) → c.spur = .fail) ∧
      ((∀ u ∈ x.spurs, u.level ≤ r.limit) →
        ((∃ b ∈ a.bands, b.accepted = 0) → c.spur = .inconclusive) ∧
        ((∀ b ∈ a.bands, b.accepted ≠ 0) → c.spur = .pass))) ∧
    c.jitter = combined (entries.map JitterEntry.outcome) ∧
    (mask = none → c.mask = .notApplied ∧ c.tally = ⟨0, 0, 0, 0⟩) ∧
    ∀ (vs : List Vertex) (first last : Vertex), mask = some vs → vs.head? = some first → vs.getLast? = some last →
      let checked (i : Nat) : Bool :=
        decide (plan.startBand.val ≤ min (i / 10) 5) && decide (min (i / 10) 5 ≤ plan.stopBand.val) &&
          decide (first.offset ^ 10 ≤ 10 ^ (10 + i)) && decide (10 ^ (10 + i) ≤ last.offset ^ 10)
      let log (v : Vertex) : ℝ := Real.logb 10 v.offset
      ∃ limit : Nat → Int,
        (∀ i, i ≤ 60 → checked i = true → ∀ v w : Vertex, [v, w] <:+: vs →
          log v ≤ 1 + (i : ℝ) / 10 → 1 + (i : ℝ) / 10 ≤ log w →
          let exact : ℝ := v.limit + ((w.limit : ℝ) - v.limit) * (1 + (i : ℝ) / 10 - log v) / (log w - log v)
          |(limit i : ℝ) - exact| ≤ 1 / 2 ∧ (|(limit i : ℝ) - exact| = 1 / 2 → |exact| < |(limit i : ℝ)|)) ∧
        let points := (List.range 61).filter checked
        let judged := points.map fun i => match x.point i with
          | .noData => Criterion.inconclusive
          | .data _ _ e fl _ _ => if e ≤ limit i then .pass else if fl then .inconclusive else .fail
        c.mask = combined judged ∧
        c.tally = ⟨points.length, judged.count .fail, judged.count .inconclusive,
          points.countP fun i => decide (x.point i = .noData)⟩

/-- A jitter entry (R111 to R119, R126), for whole-hertz edges within the grid. The points used are those from the last at or
below the lower edge to the first at or above the upper one. One of them without data leaves the entry without value and
noise, its flags clear, inconclusive. Otherwise A is the integral over the band of the power law of each segment, which passes
through E at the segment's points, and the power of every spur in the band. The integrated noise is the integer nearest to
1000 × log A, and the computed jitter is a whole femtosecond within the difference that R116 allows of the nearest to sqrt(2
A) / (2π f0). It is shown up to 4294967295 fs, with SAT set above that; BOUND says that a point used is floor-limited; and the
value shown against the limit gives the outcome. The two figures are stated where the digits of the model's arithmetic settle,
which for the noise they always do by the argument of assumption 4; which allowed value the jitter takes is free (assumption
3). -/
def Obligations.JitterEntriesByRule : Prop :=
  ∀ (x : Spectrum) (f0 : Nat) (b : JitterBand), 0 < f0 → 10 ≤ b.fLo → b.fLo < b.fHi → b.fHi ≤ 10000000 →
    let r := jitterEntry x f0 b
    ∃ low high : Nat, low < high ∧ high ≤ 60 ∧
      10 ^ (10 + low) ≤ b.fLo ^ 10 ∧ b.fLo ^ 10 < 10 ^ (10 + low + 1) ∧
      b.fHi ^ 10 ≤ 10 ^ (10 + high) ∧ 10 ^ (10 + high - 1) < b.fHi ^ 10 ∧ r.band = b ∧
      ((∃ i, low ≤ i ∧ i ≤ high ∧ x.point i = .noData) →
        r.value = none ∧ r.noise = none ∧ r.bound = false ∧ r.sat = false ∧ r.outcome = .inconclusive) ∧
      ∀ (e : Nat → Int) (fl : Nat → Bool),
        (∀ i, low ≤ i → i ≤ high → -20000 ≤ e i ∧ e i ≤ -2000 ∧ ∃ m f sp cl, x.point i = .data m f (e i) (fl i) sp cl) →
        x.spurs.length ≤ 1000 → (∀ u ∈ x.spurs, u.level ≤ 10000) →
        let grid (i : Nat) : ℝ := 10 ^ (1 + (i : ℝ) / 10)
        let density (i : Nat) (f : ℝ) : ℝ := 10 ^ ((e i : ℝ) / 1000) * (f / grid i) ^ (((e (i + 1) : ℝ) - e i) / 100)
        let part (i : Nat) : ℝ :=
          intervalIntegral (density i) (max (grid i) b.fLo) (min (grid (i + 1)) b.fHi) MeasureTheory.volume
        let covered := x.spurs.filter fun u => decide (b.fLo ≤ u.offset) && decide (u.offset ≤ b.fHi)
        let power : ℝ := (∑ i ∈ Finset.Ico low high, part i) + (covered.map fun u => (10 : ℝ) ^ ((u.level : ℝ) / 1000)).sum
        let exact : ℝ := Real.sqrt (2 * power) / (2 * Real.pi * f0) * 10 ^ 15
        let used (i : Nat) : Int := (x.point i).effective
        ∃ (value computed : Nat) (noise : Int), r.value = some value ∧ r.noise = some noise ∧
          value = min computed 4294967295 ∧ (r.sat = true ↔ 4294967295 < computed) ∧
          (r.bound = true ↔ ∃ i, low ≤ i ∧ i ≤ high ∧ fl i = true) ∧
          r.outcome = (if value ≤ b.limit then .pass else if r.bound then .inconclusive else .fail) ∧
          ((settleRounding (noiseEnds b used x.spurs) firstDigits doublings).isSome = true →
            |(noise : ℝ) - 1000 * Real.logb 10 power| ≤ 1 / 2) ∧
          ((settleRounding (jitterEnds b used x.spurs f0) firstDigits doublings).isSome = true →
            ∃ k : Nat, |(k : ℝ) - exact| ≤ 1 / 2 ∧ |(computed : ℝ) - k| ≤ max 1 (exact / 2000))

/-! ### Snapshots and results -/

/-- SNAP_TAKE, SNAP_READ and SNAP_HOLD by the tables of R141, R142 and R144. A lane or band number out of range, and a hold
code above 1, are OUT_OF_RANGE. A lane that serves no job, another job than the one named, or one without N and F, is
WRONG_STATE. A take exchanges N and F where N is newer, and answers F's number and the publish count; a read answers the
segment F holds for the band; an empty F is WRONG_STATE and a band it lacks NO_SUCH. -/
def Obligations.SnapshotRequests : Prop :=
  ∀ (h : Header) (s : State), s.settled → s.listens h.rate → s.distinct →
    let quiet (c : Instr) (kind : Byte) (r : Reply) : Prop := ∃ t, exec c s = .next t ∧
      t.answered kind h.tag r s.replies ∧ t.behindPort = s.behindPort
    (∀ (lane band : Byte) (id : Half), (3 < lane.toNat → quiet (.snapTake h lane id) 0x38 (.refuse .outOfRange)) ∧
      ((3 < lane.toNat ∨ band = 0 ∨ 6 < band.toNat) → quiet (.snapRead h lane id band) 0x39 (.refuse .outOfRange))) ∧
    (∀ code : Byte, 1 < code.toNat → quiet (.snapHold h code) 0x3A (.refuse .outOfRange)) ∧
    (∀ on : Bool, ∃ t, exec (.snapHold h (if on then 1 else 0)) s = .next t ∧ t.answered 0x3A h.tag (.ok []) s.replies ∧
      t.behindPort = { s with hold := on }.behindPort) ∧
    ∀ (l : LaneId) (id : Half) (k : BandId),
      let take := Instr.snapTake h (BitVec.ofNat 8 l.val) id
      let read := Instr.snapRead h (BitVec.ofNat 8 l.val) id (BitVec.ofNat 8 (k.val + 1))
      let wrong : Prop := quiet take 0x38 (.refuse .wrongState) ∧ quiet read 0x39 (.refuse .wrongState)
      ((s.lane l).job = none → wrong) ∧
      ∀ j ∈ s.jobs, (s.lane l).job = some j.id →
        (id ≠ 0 → id.toNat ≠ j.id → wrong) ∧
        ((∀ b, j.buffer = some b → b.roles = false) → wrong) ∧
        ((id = 0 ∨ id.toNat = j.id) → ∀ b, j.buffer = some b → b.roles = true →
          let newer : Prop := match b.n, b.f with
            | some n, some f => f.seq < n.seq
            | some _, none => True
            | none, _ => False
          (newer → ∃ t, exec take s = .next t ∧
            t.answered 0x38 h.tag (.ok (u16 j.id ++ (match b.n with
              | some n => [some 1] ++ u16 n.seq
              | none => [some 0, none, none]) ++ u16 b.published)) s.replies ∧
            t.behindPort = { s with jobs := s.jobs.map fun (i : Job) =>
              if i.id = j.id then { j with buffer := some { b with n := b.f, f := b.n } } else i }.behindPort) ∧
          (¬newer → quiet take 0x38 (.ok (u16 j.id ++ (match b.f with
              | some f => [some 1] ++ u16 f.seq
              | none => [some 0, none, none]) ++ u16 b.published))) ∧
          (b.f = none → quiet read 0x39 (.refuse .wrongState)) ∧
          ∀ f, b.f = some f →
            ((∀ g ∈ f.segments, g.band ≠ k) → quiet read 0x39 (.refuse .noSuch)) ∧
            ∀ g, f.segments.find? (fun (y : Segment) => y.band == k) = some g →
              quiet read 0x39 (.ok (u16 j.id ++ u16 f.seq ++ g.fields)))

/-- RESULT_LIST answers the length of the result list and its oldest ids, up to 16 (R150). RESULT_RELEASE (R152) is NO_SUCH
without a record and WRONG_STATE before DONE; else the record is gone from table and list, and its spectrum's segments are
free again. Where it had no spectrum nothing else changes; where the start condition fails, nothing but the reservations,
which go if it had one (R65). -/
def Obligations.ResultListAndRelease : Prop :=
  ∀ (h : Header) (id : Half) (s : State), s.settled → s.listens h.rate → s.distinct →
    let refused (st : Status) : Prop := ∃ t, exec (.resultRelease h id) s = .next t ∧
      t.answered 0x42 h.tag (.refuse st) s.replies ∧ t.behindPort = s.behindPort
    (∃ t, exec (.resultList h) s = .next t ∧ t.behindPort = s.behindPort ∧ t.answered 0x40 h.tag
      (.ok (some (BitVec.ofNat 8 s.results.length) :: ((s.results.take 16).map u16).flatten)) s.replies) ∧
    ((∀ j ∈ s.jobs, j.id ≠ id.toNat) → refused .noSuch) ∧
    ∀ j ∈ s.jobs, j.id = id.toNat →
      let spectrum : Nat := ((j.result.bind Result.spectrum).map List.length).getD 0
      let s' : State := { s with
        jobs := s.jobs.filter fun (k : Job) => decide (k.id ≠ j.id)
        results := s.results.filter fun i => decide (i ≠ j.id)
        freeSegments := s.freeSegments + spectrum }
      (j.state ≠ .done → refused .wrongState) ∧
      (j.state = .done → ∃ t, exec (.resultRelease h id) s = .next t ∧ t.answered 0x42 h.tag (.ok []) s.replies ∧
        Carried s'.behindPort t.behindPort ∧ (∀ k ∈ t.jobs, k.id ≠ j.id) ∧ (spectrum = 0 → t.behindPort = s'.behindPort) ∧
        (spectrum ≠ 0 → s.timebase.mode = .external → s.timebase.discipline ≠ .locked → t.behindPort = { s' with
          head := none
          lanes := s.lanes.map fun (x : Lane) => if x.state = .reserved then { x with state := .idle } else x
          : State }.behindPort))

/-- Only RESULT_RELEASE and a reset remove a DONE record, and nothing changes one: whatever command is executed, in a state
whose job table and lanes are sound, it stands as it is, or the event is a reset, or a frame of the event or of the holding
queue is a RESULT_RELEASE of its id and that id is gone (R79, R133, R148, R152). And the result list keeps its order: but for
a reset, what stays of it is followed by the ids the event appended, and of two of these the older job's id comes first
(R149). -/
def Obligations.DoneRecordsStand : Prop :=
  ∀ (c : Instr) (s t : State), s.jobsSound → s.lanesSound → exec c s = .next t →
    let resets : Prop := c = .powerOnReset ∨ t = s.afterSoftReset t.port.link
    (∀ j ∈ s.jobs, j.state = .done → j ∈ t.jobs ∨ resets ∨
      ((∃ f : Frame, (f ∈ s.port.queue ∨ frameOf c = some f) ∧
        decodeFrame f = .request (.resultRelease (BitVec.ofNat 16 j.id))) ∧ ∀ k ∈ t.jobs, k.id ≠ j.id)) ∧
    (resets ∨ ∃ kept added, t.results = kept ++ added ∧ kept.Sublist s.results ∧ (∀ id ∈ added, id ∉ s.results) ∧
      added.Pairwise fun a b => ∀ j ∈ t.jobs, ∀ k ∈ t.jobs, j.id = a → k.id = b → t.age k ≤ t.age j)

/-! ### Calibration -/

/-- CAL_START and CAL_CANCEL (R63, R159, R162). CAL_START with a field outside its set is OUT_OF_RANGE; a lane that calibrates
or has cal-pending is IN_USE; a serving lane gets cal-pending and a PENDING record, and nothing else changes; any other lane
calibrates at once, its record RUNNING with the first step begun. CAL_CANCEL of a PENDING or RUNNING calibration makes the
record CANCELLED with CAL_END pending; a lane that ran it leaves the source, to OUT_OF_SERVICE where it started there. Any
other record is WRONG_STATE, and a lane above 3 OUT_OF_RANGE. -/
def Obligations.CalStartAndCancel : Prop :=
  ∀ (h : Header) (f : CalStartFields) (s : State), s.settled → s.listens h.rate →
    let quiet (c : Instr) (kind : Byte) (st : Status) : Prop := ∃ t, exec c s = .next t ∧
      t.answered kind h.tag (.refuse st) s.replies ∧ t.behindPort = s.behindPort
    ((3 < f.lane.toNat ∨ 1 < f.kind.toNat ∨ (f.kind = 0 ∧ ((∃ r : RangeId, 1 < f.ranges[r].toNat) ∨
      ∀ r : RangeId, f.ranges[r] = 0))) → quiet (.calStart h f) 0x48 .outOfRange) ∧
    (∀ b : Byte, 3 < b.toNat → quiet (.calCancel h b) 0x49 .outOfRange) ∧
    ∀ l : LaneId,
      let x := s.lane l
      let record := s.calRecord l
      (l.val = f.lane.toNat → ∀ (k : CalKind) (ranges : Vector Bool 4), k.code = f.kind →
        (match k with
          | .quick => ranges = #v[false, true, false, false]
          | .full => (∀ r : RangeId, f.ranges[r] = if ranges[r] then 1 else 0) ∧ ∃ r : RangeId, ranges[r] = true) →
        let claimed (st : CalStatus) : CalRecord := { CalRecord.reset with status := st, kind := some k, ranges := ranges }
        ((x.state = .calibrating ∨ x.calPending = true) → quiet (.calStart h f) 0x48 .inUse) ∧
        (x.calPending = false → x.state.stage ≠ none → ∃ t, exec (.calStart h f) s = .next t ∧
          t.answered 0x48 h.tag (.ok [some 1]) s.replies ∧
          t.behindPort = ((s.setLane l { x with calPending := true }).setCalRecord l (claimed .pending)).behindPort) ∧
        (x.calPending = false → x.state.stage = none → x.state ≠ .calibrating → s.unclaimed l → ∀ r : RangeId,
          ranges[r] = true → (∀ q : RangeId, q < r → ranges[q] = false) →
          let hz := match r.val with
            | 0 => 20000000
            | 1 => 100000000
            | 2 => 400000000
            | _ => 1000000000
          ∃ t, exec (.calStart h f) s = .next t ∧ t.answered 0x48 h.tag (.ok [some 2]) s.replies ∧
            Carried s.behindPort t.behindPort ∧
            t.lane l = { x with
              state := .calibrating, source := some r, channels := Vector.replicate 2 ⟨hz * 1000000000, .waiting⟩ } ∧
            t.calRecord l = { claimed .running with
              outOfService := some (decide (x.state = .outOfService)), step := some r
              started := some s.timebase.uptime } ∧
            ∀ m : LaneId, m ≠ l → t.calRecord m = s.calRecord m)) ∧
      let cancel := Instr.calCancel h (BitVec.ofNat 8 l.val)
      (record.status ≠ .pending → record.status ≠ .running → quiet cancel 0x49 .wrongState) ∧
      (record.status = .pending → ∃ t, exec cancel s = .next t ∧ t.answered 0x49 h.tag (.ok []) s.replies ∧
        t.events.pending = s.events.pending ||| EventKind.calEnd.bit ∧
        { t with events := s.events }.behindPort = ((s.setLane l { x with calPending := false }).setCalRecord l
          { record with status := .cancelled, ended := some s.timebase.uptime }).behindPort) ∧
      (record.status = .running → s.unclaimed l → ∃ t, exec cancel s = .next t ∧
        t.answered 0x49 h.tag (.ok []) s.replies ∧ t.events.pending &&& EventKind.calEnd.bit ≠ 0 ∧
        Carried s.behindPort t.behindPort ∧
        t.calRecord l = { record with status := .cancelled, step := none, ended := some s.timebase.uptime } ∧
        let left (st : LaneState) : Lane := { x with
          state := st, source := none, channels := x.channels.map fun (c : Channel) => { c with lock := .idle } }
        (record.outOfService = some true → t.lane l = left .outOfService) ∧
        (record.outOfService ≠ some true → s.timebase.mode = .external → s.timebase.discipline ≠ .locked →
          t.lane l = left .idle))

/-- The steps of a calibration (R160, R161). A lock takes a waiting channel into the step, and an expired lock timer takes it
out with NO_LOCK. At the measurement event a channel in the step is measured, GOOD up to 600 cdB, when its entry of the
working set, or in a QUICK calibration all four of its entries, take the value, and LIMIT above; one out of it is NO_LOCK.
Then the next range's step starts, or the calibration ends DONE, with every result of the range set GOOD, or BAD: CAL_END is
pending, the tune-failure count is 0 after DONE, and after BAD the lane goes OUT_OF_SERVICE where it started there. That a
channel with neither a lock nor an expiry is out of the step is deduced (assumption 16), and so is that an event with no step,
and one of a channel that does not wait, changes nothing (assumption 7). -/
def Obligations.CalibrationStepsMeasure : Prop :=
  ∀ (l : LaneId) (s : State), s.settled → s.unclaimed l →
    let x := s.lane l
    let record := s.calRecord l
    let at_ (ch : ChanId) (r : RangeId) : Fin 8 := ⟨4 * ch.val + r.val, by omega⟩
    (∀ ch : ChanId,
      let lock (k : ChannelLock) : State := s.setLane l { x with
        channels := x.channels.set ch { x.channels[ch] with lock := k } }
      let waits := decide (x.state = .calibrating ∧ x.channels[ch].lock = .waiting)
      exec (.calChannelLock l ch) s = .next (if waits then lock .locked else s) ∧
      (waits = false → exec (.calLockTimerExpiry l ch) s = .next s) ∧
      ∀ r : RangeId, waits = true → record.step = some r → exec (.calLockTimerExpiry l ch) s =
        .next ((lock .expired).setCalRecord l { record with results := record.results.set (at_ ch r) .noLock })) ∧
    ((x.state ≠ .calibrating ∨ record.step = none) → ∀ a b : Rat, exec (.measurementEvent l a b) s = .next s) ∧
    ∀ (gain : ChanId → Rat) (r : RangeId) (kind : CalKind), x.state = .calibrating → record.step = some r →
      record.kind = some kind →
      let value (ch : ChanId) : Int := clampInt (-32768) 32767 (roundRat (gain ch))
      let measured (ch : ChanId) : Bool := decide (x.channels[ch].lock = .locked)
      let good (ch : ChanId) : Bool := measured ch && decide ((value ch).natAbs ≤ 600)
      let result (ch : ChanId) : StepResult := if good ch then .good else if measured ch then .limit else .noLock
      let tag : CoefTag := match kind with
        | .full => .full
        | .quick => .quick
      let left (st : LaneState) (n : Nat) : Lane := { x with
        state := st, tuneFailures := n, source := none
        channels := x.channels.map fun (c : Channel) => { c with lock := .idle } }
      ∃ t, exec (.measurementEvent l (gain 0) (gain 1)) s = .next t ∧
        t.cal.stored = s.cal.stored ∧ t.cal.image = s.cal.image ∧ t.cal.checkMatches = s.cal.checkMatches ∧
        (∀ m : LaneId, m ≠ l → t.cal.working[m] = s.cal.working[m] ∧ t.calRecord m = s.calRecord m) ∧
        (∀ (ch : ChanId) (q : RangeId), t.cal.working[l][at_ ch q] =
          if good ch = true ∧ (kind = .quick ∨ q = r) then ⟨value ch, tag⟩ else s.cal.working[l][at_ ch q]) ∧
        (∀ (ch : ChanId) (q : RangeId), (t.calRecord l).results[at_ ch q] =
            (if q = r then result ch else record.results[at_ ch q]) ∧
          (t.calRecord l).measured[at_ ch q] =
            (if q = r ∧ measured ch = true then some (value ch) else record.measured[at_ ch q])) ∧
        (∀ q : RangeId, r < q → record.ranges[q] = true → (∀ q' : RangeId, r < q' → q' < q → record.ranges[q'] = false) →
          (t.calRecord l).step = some q ∧ (t.calRecord l).status = record.status ∧
          t = { s with
            lanes := s.lanes.set l { x with
              source := some q
              channels := Vector.replicate 2 ⟨Config.rangeCentre q * 1000000000, .waiting⟩ }
            cal := t.cal }) ∧
        ((∀ q : RangeId, r < q → record.ranges[q] = false) →
          let done := decide (∀ (ch : ChanId) (q : RangeId), record.ranges[q] = true →
            (t.calRecord l).results[at_ ch q] = .good)
          let n := if done then 0 else x.tuneFailures
          t.events.pending &&& EventKind.calEnd.bit ≠ 0 ∧ (t.calRecord l).step = none ∧
          (t.calRecord l).status = (if done then .done else .bad) ∧ (t.calRecord l).ended = some s.timebase.uptime ∧
          Carried { s.setLane l { x with tuneFailures := n } with cal := t.cal } t ∧
          (done = false → record.outOfService = some true → t.lane l = left .outOfService n) ∧
          ((done = true ∨ record.outOfService ≠ some true) → s.timebase.mode = .external →
            s.timebase.discipline ≠ .locked → t.lane l = left .idle n))

/-- CAL_STORE is IN_USE while a write runs, and else takes the working set as the image with the old check value cleared; its
completion makes the image the stored set with a matching check (R156, R163). CAL_REVERT sets the entries of a lane, or with
selector 4 of all lanes, to 0 with tag DEFAULT, and is OUT_OF_RANGE above 4 (R164). Nothing else changes. The check as one
truth value (assumption 17), the old entries until the completion (assumption 36), and that a completion without a write
changes nothing (assumption 7) are the model's choice. -/
def Obligations.StoreAndRevert : Prop :=
  (∀ s : State, s.settled → exec .storeCompletion s = .next (match s.cal.image with
    | none => s
    | some c => { s with cal := { s.cal with stored := c, checkMatches := true, image := none } })) ∧
  ∀ (h : Header) (s : State), s.settled → s.listens h.rate →
    (s.cal.image ≠ none → ∃ t, exec (.calStore h) s = .next t ∧
      t.answered 0x4B h.tag (.refuse .inUse) s.replies ∧ t.behindPort = s.behindPort) ∧
    (s.cal.image = none → ∃ t, exec (.calStore h) s = .next t ∧ t.answered 0x4B h.tag (.ok []) s.replies ∧
      t.behindPort = { s with cal := { s.cal with image := some s.cal.working, checkMatches := false } }.behindPort) ∧
    ∀ b : Byte, (4 < b.toNat → ∃ t, exec (.calRevert h b) s = .next t ∧
        t.answered 0x4C h.tag (.refuse .outOfRange) s.replies ∧ t.behindPort = s.behindPort) ∧
      (b.toNat ≤ 4 → ∃ t, exec (.calRevert h b) s = .next t ∧ t.answered 0x4C h.tag (.ok []) s.replies ∧
        (∀ (l : LaneId) (k : Fin 8), t.cal.working[l][k] =
          if b = 4 ∨ b.toNat = l.val then ⟨0, .default⟩ else s.cal.working[l][k]) ∧
        t.behindPort = { s with cal := { s.cal with working := t.cal.working } }.behindPort)

/-! ### Invariants: from every sound state each step leads to a sound state -/

/-- Every step keeps the port record sound (R168, R171 to R178): at most four frames wait and only behind a request in hand,
at most 7 bad frames are counted, the reply being sent is that of the request in hand, SEARCH holds nothing but a transmission
going on, and an idle transmitter in LOCKED has nothing to send. -/
def Obligations.StepKeepsPortSound : Prop :=
  ∀ s t : State, s.port.sound → step s = .next t → t.port.sound

/-- Every step keeps every site sound (section 1.2, R7, R8, R12 to R22): what runs at it, its fault count, its level record
and its monitor fit its state, and power is pending only at a configured site in OFF while the supply inhibit runs. -/
def Obligations.StepKeepsSitesSound : Prop :=
  ∀ s t : State, s.sitesSound → step s = .next t → t.sitesSound

/-- Every step keeps the timebase record, the plan table and the coefficient sets sound: each discipline state has the fields
of R25, every stored plan and mask is legal and every mask a LOADED plan names is LOADED (R38, R44, R48, R49), and every
coefficient is within 600 cdB, 0 with tag DEFAULT (R155). -/
def Obligations.StepKeepsTablesSound : Prop :=
  ∀ s t : State, step s = .next t → (s.timebase.sound → t.timebase.sound) ∧
    (s.planTableSound → t.planTableSound) ∧ (s.cal.sound → t.cal.sound)

/-- Every step keeps the job table sound (R55, R56, R79, R148, R149): at most 64 records, no id twice, and the result list
holds the ids of the DONE records, each once, which are those with a result and an end reason. In a sound job table it keeps
groups and gangs sound (R55, R60, R61): at most four held jobs in a group, for different sites, and gang fields that list jobs
with the same gang field, at most four and for different sites. -/
def Obligations.StepKeepsJobsSound : Prop :=
  ∀ s t : State, s.jobsSound → step s = .next t → t.jobsSound ∧ (s.gangsSound → t.gangsSound)

/-- Every step keeps lanes and jobs in agreement, in a sound job table (R55, R62, R158): a lane in a serving state serves one
job, which is at that stage and names the lane, any other lane serves none, and every job on a lane is the one its lane
serves. With sound sites and gangs it keeps the switch matrix (R62): a lane is connected exactly in TUNING, GANG_WAIT and
ACQUIRING, to its job's site, no site is connected twice, and a site is MEASURING exactly while it is connected. And it keeps
the reservations (R67): RESERVED lanes are fewer than the lanes the recorded head needs, and none where it needs no more than
are IDLE. -/
def Obligations.StepKeepsLanesSound : Prop :=
  ∀ s t : State, s.jobsSound → s.lanesSound → step s = .next t → t.lanesSound ∧
    (s.sitesSound → s.gangsSound → s.matrixSound → t.matrixSound) ∧ (s.reservedSound → t.reservedSound)

/-- Free segments, segments in the buffer sets of jobs and segments in result spectra total 192 after every step from a sound
state (R135, R137 to R139, R146, R152). -/
def Obligations.StepKeepsSegmentTotal : Prop :=
  ∀ s t : State, s.jobsSound → s.lanesSound → s.planTableSound → s.storeSound → step s = .next t → t.storeSound

/-- The state after a power-on reset is sound in every respect above, and settled. -/
def Obligations.ResetIsSound : Prop :=
  State.reset.settled ∧ State.reset.port.sound ∧ State.reset.sitesSound ∧ State.reset.timebase.sound ∧
  State.reset.planTableSound ∧ State.reset.cal.sound ∧ State.reset.jobsSound ∧ State.reset.gangsSound ∧
  State.reset.lanesSound ∧ State.reset.matrixSound ∧ State.reset.reservedSound ∧ State.reset.storeSound
end

