-- ==== Sys2Proof/Laws/State.lean ====
section
/-! SUPPORT. One lemma per field per update of a record of the state, each true by `rfl`, so that no proof unfolds an update:
what each of the single-record operations leaves as it was, and what reading back gives. -/

namespace Sys2Proof.Machine

/-! ### setSite -/

@[simp] theorem State.setSite_port (s : State) (i : SiteId) (x : Site) : (s.setSite i x).port = s.port := rfl
@[simp] theorem State.setSite_events (s : State) (i : SiteId) (x : Site) : (s.setSite i x).events = s.events := rfl
@[simp] theorem State.setSite_inhibit (s : State) (i : SiteId) (x : Site) : (s.setSite i x).inhibit = s.inhibit := rfl
@[simp] theorem State.setSite_timebase (s : State) (i : SiteId) (x : Site) : (s.setSite i x).timebase = s.timebase := rfl
@[simp] theorem State.setSite_plans (s : State) (i : SiteId) (x : Site) : (s.setSite i x).plans = s.plans := rfl
@[simp] theorem State.setSite_masks (s : State) (i : SiteId) (x : Site) : (s.setSite i x).masks = s.masks := rfl
@[simp] theorem State.setSite_binMap (s : State) (i : SiteId) (x : Site) : (s.setSite i x).binMap = s.binMap := rfl
@[simp] theorem State.setSite_jobs (s : State) (i : SiteId) (x : Site) : (s.setSite i x).jobs = s.jobs := rfl
@[simp] theorem State.setSite_nextId (s : State) (i : SiteId) (x : Site) : (s.setSite i x).nextId = s.nextId := rfl
@[simp] theorem State.setSite_nextSeq (s : State) (i : SiteId) (x : Site) : (s.setSite i x).nextSeq = s.nextSeq := rfl
@[simp] theorem State.setSite_head (s : State) (i : SiteId) (x : Site) : (s.setSite i x).head = s.head := rfl
@[simp] theorem State.setSite_lanes (s : State) (i : SiteId) (x : Site) : (s.setSite i x).lanes = s.lanes := rfl
@[simp] theorem State.setSite_freeSegments (s : State) (i : SiteId) (x : Site) : (s.setSite i x).freeSegments = s.freeSegments := rfl
@[simp] theorem State.setSite_results (s : State) (i : SiteId) (x : Site) : (s.setSite i x).results = s.results := rfl
@[simp] theorem State.setSite_hold (s : State) (i : SiteId) (x : Site) : (s.setSite i x).hold = s.hold := rfl
@[simp] theorem State.setSite_cal (s : State) (i : SiteId) (x : Site) : (s.setSite i x).cal = s.cal := rfl
@[simp] theorem State.setSite_reconsider (s : State) (i : SiteId) (x : Site) : (s.setSite i x).reconsider = s.reconsider := rfl
@[simp] theorem State.setSite_replies (s : State) (i : SiteId) (x : Site) : (s.setSite i x).replies = s.replies := rfl
@[simp] theorem State.setSite_pending (s : State) (i : SiteId) (x : Site) : (s.setSite i x).pending = s.pending := rfl

/-! ### setLane -/

@[simp] theorem State.setLane_port (s : State) (l : LaneId) (x : Lane) : (s.setLane l x).port = s.port := rfl
@[simp] theorem State.setLane_events (s : State) (l : LaneId) (x : Lane) : (s.setLane l x).events = s.events := rfl
@[simp] theorem State.setLane_sites (s : State) (l : LaneId) (x : Lane) : (s.setLane l x).sites = s.sites := rfl
@[simp] theorem State.setLane_inhibit (s : State) (l : LaneId) (x : Lane) : (s.setLane l x).inhibit = s.inhibit := rfl
@[simp] theorem State.setLane_timebase (s : State) (l : LaneId) (x : Lane) : (s.setLane l x).timebase = s.timebase := rfl
@[simp] theorem State.setLane_plans (s : State) (l : LaneId) (x : Lane) : (s.setLane l x).plans = s.plans := rfl
@[simp] theorem State.setLane_masks (s : State) (l : LaneId) (x : Lane) : (s.setLane l x).masks = s.masks := rfl
@[simp] theorem State.setLane_binMap (s : State) (l : LaneId) (x : Lane) : (s.setLane l x).binMap = s.binMap := rfl
@[simp] theorem State.setLane_jobs (s : State) (l : LaneId) (x : Lane) : (s.setLane l x).jobs = s.jobs := rfl
@[simp] theorem State.setLane_nextId (s : State) (l : LaneId) (x : Lane) : (s.setLane l x).nextId = s.nextId := rfl
@[simp] theorem State.setLane_nextSeq (s : State) (l : LaneId) (x : Lane) : (s.setLane l x).nextSeq = s.nextSeq := rfl
@[simp] theorem State.setLane_head (s : State) (l : LaneId) (x : Lane) : (s.setLane l x).head = s.head := rfl
@[simp] theorem State.setLane_freeSegments (s : State) (l : LaneId) (x : Lane) : (s.setLane l x).freeSegments = s.freeSegments := rfl
@[simp] theorem State.setLane_results (s : State) (l : LaneId) (x : Lane) : (s.setLane l x).results = s.results := rfl
@[simp] theorem State.setLane_hold (s : State) (l : LaneId) (x : Lane) : (s.setLane l x).hold = s.hold := rfl
@[simp] theorem State.setLane_cal (s : State) (l : LaneId) (x : Lane) : (s.setLane l x).cal = s.cal := rfl
@[simp] theorem State.setLane_reconsider (s : State) (l : LaneId) (x : Lane) : (s.setLane l x).reconsider = s.reconsider := rfl
@[simp] theorem State.setLane_replies (s : State) (l : LaneId) (x : Lane) : (s.setLane l x).replies = s.replies := rfl
@[simp] theorem State.setLane_pending (s : State) (l : LaneId) (x : Lane) : (s.setLane l x).pending = s.pending := rfl

/-! ### updateJob -/

@[simp] theorem State.updateJob_port (s : State) (id : Nat) (f : Job → Job) : (s.updateJob id f).port = s.port := rfl
@[simp] theorem State.updateJob_events (s : State) (id : Nat) (f : Job → Job) : (s.updateJob id f).events = s.events := rfl
@[simp] theorem State.updateJob_sites (s : State) (id : Nat) (f : Job → Job) : (s.updateJob id f).sites = s.sites := rfl
@[simp] theorem State.updateJob_inhibit (s : State) (id : Nat) (f : Job → Job) : (s.updateJob id f).inhibit = s.inhibit := rfl
@[simp] theorem State.updateJob_timebase (s : State) (id : Nat) (f : Job → Job) : (s.updateJob id f).timebase = s.timebase := rfl
@[simp] theorem State.updateJob_plans (s : State) (id : Nat) (f : Job → Job) : (s.updateJob id f).plans = s.plans := rfl
@[simp] theorem State.updateJob_masks (s : State) (id : Nat) (f : Job → Job) : (s.updateJob id f).masks = s.masks := rfl
@[simp] theorem State.updateJob_binMap (s : State) (id : Nat) (f : Job → Job) : (s.updateJob id f).binMap = s.binMap := rfl
@[simp] theorem State.updateJob_nextId (s : State) (id : Nat) (f : Job → Job) : (s.updateJob id f).nextId = s.nextId := rfl
@[simp] theorem State.updateJob_nextSeq (s : State) (id : Nat) (f : Job → Job) : (s.updateJob id f).nextSeq = s.nextSeq := rfl
@[simp] theorem State.updateJob_head (s : State) (id : Nat) (f : Job → Job) : (s.updateJob id f).head = s.head := rfl
@[simp] theorem State.updateJob_lanes (s : State) (id : Nat) (f : Job → Job) : (s.updateJob id f).lanes = s.lanes := rfl
@[simp] theorem State.updateJob_freeSegments (s : State) (id : Nat) (f : Job → Job) : (s.updateJob id f).freeSegments = s.freeSegments := rfl
@[simp] theorem State.updateJob_results (s : State) (id : Nat) (f : Job → Job) : (s.updateJob id f).results = s.results := rfl
@[simp] theorem State.updateJob_hold (s : State) (id : Nat) (f : Job → Job) : (s.updateJob id f).hold = s.hold := rfl
@[simp] theorem State.updateJob_cal (s : State) (id : Nat) (f : Job → Job) : (s.updateJob id f).cal = s.cal := rfl
@[simp] theorem State.updateJob_reconsider (s : State) (id : Nat) (f : Job → Job) : (s.updateJob id f).reconsider = s.reconsider := rfl
@[simp] theorem State.updateJob_replies (s : State) (id : Nat) (f : Job → Job) : (s.updateJob id f).replies = s.replies := rfl
@[simp] theorem State.updateJob_pending (s : State) (id : Nat) (f : Job → Job) : (s.updateJob id f).pending = s.pending := rfl

/-! ### setCalRecord -/

@[simp] theorem State.setCalRecord_port (s : State) (l : LaneId) (r : CalRecord) : (s.setCalRecord l r).port = s.port := rfl
@[simp] theorem State.setCalRecord_events (s : State) (l : LaneId) (r : CalRecord) : (s.setCalRecord l r).events = s.events := rfl
@[simp] theorem State.setCalRecord_sites (s : State) (l : LaneId) (r : CalRecord) : (s.setCalRecord l r).sites = s.sites := rfl
@[simp] theorem State.setCalRecord_inhibit (s : State) (l : LaneId) (r : CalRecord) : (s.setCalRecord l r).inhibit = s.inhibit := rfl
@[simp] theorem State.setCalRecord_timebase (s : State) (l : LaneId) (r : CalRecord) : (s.setCalRecord l r).timebase = s.timebase := rfl
@[simp] theorem State.setCalRecord_plans (s : State) (l : LaneId) (r : CalRecord) : (s.setCalRecord l r).plans = s.plans := rfl
@[simp] theorem State.setCalRecord_masks (s : State) (l : LaneId) (r : CalRecord) : (s.setCalRecord l r).masks = s.masks := rfl
@[simp] theorem State.setCalRecord_binMap (s : State) (l : LaneId) (r : CalRecord) : (s.setCalRecord l r).binMap = s.binMap := rfl
@[simp] theorem State.setCalRecord_jobs (s : State) (l : LaneId) (r : CalRecord) : (s.setCalRecord l r).jobs = s.jobs := rfl
@[simp] theorem State.setCalRecord_nextId (s : State) (l : LaneId) (r : CalRecord) : (s.setCalRecord l r).nextId = s.nextId := rfl
@[simp] theorem State.setCalRecord_nextSeq (s : State) (l : LaneId) (r : CalRecord) : (s.setCalRecord l r).nextSeq = s.nextSeq := rfl
@[simp] theorem State.setCalRecord_head (s : State) (l : LaneId) (r : CalRecord) : (s.setCalRecord l r).head = s.head := rfl
@[simp] theorem State.setCalRecord_lanes (s : State) (l : LaneId) (r : CalRecord) : (s.setCalRecord l r).lanes = s.lanes := rfl
@[simp] theorem State.setCalRecord_freeSegments (s : State) (l : LaneId) (r : CalRecord) : (s.setCalRecord l r).freeSegments = s.freeSegments := rfl
@[simp] theorem State.setCalRecord_results (s : State) (l : LaneId) (r : CalRecord) : (s.setCalRecord l r).results = s.results := rfl
@[simp] theorem State.setCalRecord_hold (s : State) (l : LaneId) (r : CalRecord) : (s.setCalRecord l r).hold = s.hold := rfl
@[simp] theorem State.setCalRecord_reconsider (s : State) (l : LaneId) (r : CalRecord) : (s.setCalRecord l r).reconsider = s.reconsider := rfl
@[simp] theorem State.setCalRecord_replies (s : State) (l : LaneId) (r : CalRecord) : (s.setCalRecord l r).replies = s.replies := rfl
@[simp] theorem State.setCalRecord_pending (s : State) (l : LaneId) (r : CalRecord) : (s.setCalRecord l r).pending = s.pending := rfl

/-! ### callArbiter -/

@[simp] theorem State.callArbiter_port (s : State) : (s.callArbiter).port = s.port := rfl
@[simp] theorem State.callArbiter_events (s : State) : (s.callArbiter).events = s.events := rfl
@[simp] theorem State.callArbiter_sites (s : State) : (s.callArbiter).sites = s.sites := rfl
@[simp] theorem State.callArbiter_inhibit (s : State) : (s.callArbiter).inhibit = s.inhibit := rfl
@[simp] theorem State.callArbiter_timebase (s : State) : (s.callArbiter).timebase = s.timebase := rfl
@[simp] theorem State.callArbiter_plans (s : State) : (s.callArbiter).plans = s.plans := rfl
@[simp] theorem State.callArbiter_masks (s : State) : (s.callArbiter).masks = s.masks := rfl
@[simp] theorem State.callArbiter_binMap (s : State) : (s.callArbiter).binMap = s.binMap := rfl
@[simp] theorem State.callArbiter_jobs (s : State) : (s.callArbiter).jobs = s.jobs := rfl
@[simp] theorem State.callArbiter_nextId (s : State) : (s.callArbiter).nextId = s.nextId := rfl
@[simp] theorem State.callArbiter_nextSeq (s : State) : (s.callArbiter).nextSeq = s.nextSeq := rfl
@[simp] theorem State.callArbiter_head (s : State) : (s.callArbiter).head = s.head := rfl
@[simp] theorem State.callArbiter_lanes (s : State) : (s.callArbiter).lanes = s.lanes := rfl
@[simp] theorem State.callArbiter_freeSegments (s : State) : (s.callArbiter).freeSegments = s.freeSegments := rfl
@[simp] theorem State.callArbiter_results (s : State) : (s.callArbiter).results = s.results := rfl
@[simp] theorem State.callArbiter_hold (s : State) : (s.callArbiter).hold = s.hold := rfl
@[simp] theorem State.callArbiter_cal (s : State) : (s.callArbiter).cal = s.cal := rfl
@[simp] theorem State.callArbiter_replies (s : State) : (s.callArbiter).replies = s.replies := rfl
@[simp] theorem State.callArbiter_pending (s : State) : (s.callArbiter).pending = s.pending := rfl

/-! ### leaveGang -/

@[simp] theorem State.leaveGang_port (s : State) (id : Nat) : (s.leaveGang id).port = s.port := rfl
@[simp] theorem State.leaveGang_events (s : State) (id : Nat) : (s.leaveGang id).events = s.events := rfl
@[simp] theorem State.leaveGang_sites (s : State) (id : Nat) : (s.leaveGang id).sites = s.sites := rfl
@[simp] theorem State.leaveGang_inhibit (s : State) (id : Nat) : (s.leaveGang id).inhibit = s.inhibit := rfl
@[simp] theorem State.leaveGang_timebase (s : State) (id : Nat) : (s.leaveGang id).timebase = s.timebase := rfl
@[simp] theorem State.leaveGang_plans (s : State) (id : Nat) : (s.leaveGang id).plans = s.plans := rfl
@[simp] theorem State.leaveGang_masks (s : State) (id : Nat) : (s.leaveGang id).masks = s.masks := rfl
@[simp] theorem State.leaveGang_binMap (s : State) (id : Nat) : (s.leaveGang id).binMap = s.binMap := rfl
@[simp] theorem State.leaveGang_nextId (s : State) (id : Nat) : (s.leaveGang id).nextId = s.nextId := rfl
@[simp] theorem State.leaveGang_nextSeq (s : State) (id : Nat) : (s.leaveGang id).nextSeq = s.nextSeq := rfl
@[simp] theorem State.leaveGang_head (s : State) (id : Nat) : (s.leaveGang id).head = s.head := rfl
@[simp] theorem State.leaveGang_lanes (s : State) (id : Nat) : (s.leaveGang id).lanes = s.lanes := rfl
@[simp] theorem State.leaveGang_freeSegments (s : State) (id : Nat) : (s.leaveGang id).freeSegments = s.freeSegments := rfl
@[simp] theorem State.leaveGang_results (s : State) (id : Nat) : (s.leaveGang id).results = s.results := rfl
@[simp] theorem State.leaveGang_hold (s : State) (id : Nat) : (s.leaveGang id).hold = s.hold := rfl
@[simp] theorem State.leaveGang_cal (s : State) (id : Nat) : (s.leaveGang id).cal = s.cal := rfl
@[simp] theorem State.leaveGang_reconsider (s : State) (id : Nat) : (s.leaveGang id).reconsider = s.reconsider := rfl
@[simp] theorem State.leaveGang_replies (s : State) (id : Nat) : (s.leaveGang id).replies = s.replies := rfl
@[simp] theorem State.leaveGang_pending (s : State) (id : Nat) : (s.leaveGang id).pending = s.pending := rfl

/-! ### openConnection -/

@[simp] theorem State.openConnection_port (s : State) (i : SiteId) : (s.openConnection i).port = s.port := rfl
@[simp] theorem State.openConnection_events (s : State) (i : SiteId) : (s.openConnection i).events = s.events := rfl
@[simp] theorem State.openConnection_sites (s : State) (i : SiteId) : (s.openConnection i).sites = s.sites := rfl
@[simp] theorem State.openConnection_inhibit (s : State) (i : SiteId) : (s.openConnection i).inhibit = s.inhibit := rfl
@[simp] theorem State.openConnection_timebase (s : State) (i : SiteId) : (s.openConnection i).timebase = s.timebase := rfl
@[simp] theorem State.openConnection_plans (s : State) (i : SiteId) : (s.openConnection i).plans = s.plans := rfl
@[simp] theorem State.openConnection_masks (s : State) (i : SiteId) : (s.openConnection i).masks = s.masks := rfl
@[simp] theorem State.openConnection_binMap (s : State) (i : SiteId) : (s.openConnection i).binMap = s.binMap := rfl
@[simp] theorem State.openConnection_jobs (s : State) (i : SiteId) : (s.openConnection i).jobs = s.jobs := rfl
@[simp] theorem State.openConnection_nextId (s : State) (i : SiteId) : (s.openConnection i).nextId = s.nextId := rfl
@[simp] theorem State.openConnection_nextSeq (s : State) (i : SiteId) : (s.openConnection i).nextSeq = s.nextSeq := rfl
@[simp] theorem State.openConnection_head (s : State) (i : SiteId) : (s.openConnection i).head = s.head := rfl
@[simp] theorem State.openConnection_freeSegments (s : State) (i : SiteId) : (s.openConnection i).freeSegments = s.freeSegments := rfl
@[simp] theorem State.openConnection_results (s : State) (i : SiteId) : (s.openConnection i).results = s.results := rfl
@[simp] theorem State.openConnection_hold (s : State) (i : SiteId) : (s.openConnection i).hold = s.hold := rfl
@[simp] theorem State.openConnection_cal (s : State) (i : SiteId) : (s.openConnection i).cal = s.cal := rfl
@[simp] theorem State.openConnection_reconsider (s : State) (i : SiteId) : (s.openConnection i).reconsider = s.reconsider := rfl
@[simp] theorem State.openConnection_replies (s : State) (i : SiteId) : (s.openConnection i).replies = s.replies := rfl
@[simp] theorem State.openConnection_pending (s : State) (i : SiteId) : (s.openConnection i).pending = s.pending := rfl

/-! ### moveLanes -/

@[simp] theorem State.moveLanes_port (s : State) (p q : LaneState) : (s.moveLanes p q).port = s.port := rfl
@[simp] theorem State.moveLanes_events (s : State) (p q : LaneState) : (s.moveLanes p q).events = s.events := rfl
@[simp] theorem State.moveLanes_sites (s : State) (p q : LaneState) : (s.moveLanes p q).sites = s.sites := rfl
@[simp] theorem State.moveLanes_inhibit (s : State) (p q : LaneState) : (s.moveLanes p q).inhibit = s.inhibit := rfl
@[simp] theorem State.moveLanes_timebase (s : State) (p q : LaneState) : (s.moveLanes p q).timebase = s.timebase := rfl
@[simp] theorem State.moveLanes_plans (s : State) (p q : LaneState) : (s.moveLanes p q).plans = s.plans := rfl
@[simp] theorem State.moveLanes_masks (s : State) (p q : LaneState) : (s.moveLanes p q).masks = s.masks := rfl
@[simp] theorem State.moveLanes_binMap (s : State) (p q : LaneState) : (s.moveLanes p q).binMap = s.binMap := rfl
@[simp] theorem State.moveLanes_jobs (s : State) (p q : LaneState) : (s.moveLanes p q).jobs = s.jobs := rfl
@[simp] theorem State.moveLanes_nextId (s : State) (p q : LaneState) : (s.moveLanes p q).nextId = s.nextId := rfl
@[simp] theorem State.moveLanes_nextSeq (s : State) (p q : LaneState) : (s.moveLanes p q).nextSeq = s.nextSeq := rfl
@[simp] theorem State.moveLanes_head (s : State) (p q : LaneState) : (s.moveLanes p q).head = s.head := rfl
@[simp] theorem State.moveLanes_freeSegments (s : State) (p q : LaneState) : (s.moveLanes p q).freeSegments = s.freeSegments := rfl
@[simp] theorem State.moveLanes_results (s : State) (p q : LaneState) : (s.moveLanes p q).results = s.results := rfl
@[simp] theorem State.moveLanes_hold (s : State) (p q : LaneState) : (s.moveLanes p q).hold = s.hold := rfl
@[simp] theorem State.moveLanes_cal (s : State) (p q : LaneState) : (s.moveLanes p q).cal = s.cal := rfl
@[simp] theorem State.moveLanes_reconsider (s : State) (p q : LaneState) : (s.moveLanes p q).reconsider = s.reconsider := rfl
@[simp] theorem State.moveLanes_replies (s : State) (p q : LaneState) : (s.moveLanes p q).replies = s.replies := rfl
@[simp] theorem State.moveLanes_pending (s : State) (p q : LaneState) : (s.moveLanes p q).pending = s.pending := rfl

/-! ### flagLevel -/

@[simp] theorem State.flagLevel_port (s : State) (i : SiteId) : (s.flagLevel i).port = s.port := rfl
@[simp] theorem State.flagLevel_events (s : State) (i : SiteId) : (s.flagLevel i).events = s.events := rfl
@[simp] theorem State.flagLevel_sites (s : State) (i : SiteId) : (s.flagLevel i).sites = s.sites := rfl
@[simp] theorem State.flagLevel_inhibit (s : State) (i : SiteId) : (s.flagLevel i).inhibit = s.inhibit := rfl
@[simp] theorem State.flagLevel_timebase (s : State) (i : SiteId) : (s.flagLevel i).timebase = s.timebase := rfl
@[simp] theorem State.flagLevel_plans (s : State) (i : SiteId) : (s.flagLevel i).plans = s.plans := rfl
@[simp] theorem State.flagLevel_masks (s : State) (i : SiteId) : (s.flagLevel i).masks = s.masks := rfl
@[simp] theorem State.flagLevel_binMap (s : State) (i : SiteId) : (s.flagLevel i).binMap = s.binMap := rfl
@[simp] theorem State.flagLevel_nextId (s : State) (i : SiteId) : (s.flagLevel i).nextId = s.nextId := rfl
@[simp] theorem State.flagLevel_nextSeq (s : State) (i : SiteId) : (s.flagLevel i).nextSeq = s.nextSeq := rfl
@[simp] theorem State.flagLevel_head (s : State) (i : SiteId) : (s.flagLevel i).head = s.head := rfl
@[simp] theorem State.flagLevel_lanes (s : State) (i : SiteId) : (s.flagLevel i).lanes = s.lanes := rfl
@[simp] theorem State.flagLevel_freeSegments (s : State) (i : SiteId) : (s.flagLevel i).freeSegments = s.freeSegments := rfl
@[simp] theorem State.flagLevel_results (s : State) (i : SiteId) : (s.flagLevel i).results = s.results := rfl
@[simp] theorem State.flagLevel_hold (s : State) (i : SiteId) : (s.flagLevel i).hold = s.hold := rfl
@[simp] theorem State.flagLevel_cal (s : State) (i : SiteId) : (s.flagLevel i).cal = s.cal := rfl
@[simp] theorem State.flagLevel_reconsider (s : State) (i : SiteId) : (s.flagLevel i).reconsider = s.reconsider := rfl
@[simp] theorem State.flagLevel_replies (s : State) (i : SiteId) : (s.flagLevel i).replies = s.replies := rfl
@[simp] theorem State.flagLevel_pending (s : State) (i : SiteId) : (s.flagLevel i).pending = s.pending := rfl

/-! ### flagRunning -/

@[simp] theorem State.flagRunning_port (s : State) (f : JobFlags → JobFlags) : (s.flagRunning f).port = s.port := rfl
@[simp] theorem State.flagRunning_events (s : State) (f : JobFlags → JobFlags) : (s.flagRunning f).events = s.events := rfl
@[simp] theorem State.flagRunning_sites (s : State) (f : JobFlags → JobFlags) : (s.flagRunning f).sites = s.sites := rfl
@[simp] theorem State.flagRunning_inhibit (s : State) (f : JobFlags → JobFlags) : (s.flagRunning f).inhibit = s.inhibit := rfl
@[simp] theorem State.flagRunning_timebase (s : State) (f : JobFlags → JobFlags) : (s.flagRunning f).timebase = s.timebase := rfl
@[simp] theorem State.flagRunning_plans (s : State) (f : JobFlags → JobFlags) : (s.flagRunning f).plans = s.plans := rfl
@[simp] theorem State.flagRunning_masks (s : State) (f : JobFlags → JobFlags) : (s.flagRunning f).masks = s.masks := rfl
@[simp] theorem State.flagRunning_binMap (s : State) (f : JobFlags → JobFlags) : (s.flagRunning f).binMap = s.binMap := rfl
@[simp] theorem State.flagRunning_nextId (s : State) (f : JobFlags → JobFlags) : (s.flagRunning f).nextId = s.nextId := rfl
@[simp] theorem State.flagRunning_nextSeq (s : State) (f : JobFlags → JobFlags) : (s.flagRunning f).nextSeq = s.nextSeq := rfl
@[simp] theorem State.flagRunning_head (s : State) (f : JobFlags → JobFlags) : (s.flagRunning f).head = s.head := rfl
@[simp] theorem State.flagRunning_lanes (s : State) (f : JobFlags → JobFlags) : (s.flagRunning f).lanes = s.lanes := rfl
@[simp] theorem State.flagRunning_freeSegments (s : State) (f : JobFlags → JobFlags) : (s.flagRunning f).freeSegments = s.freeSegments := rfl
@[simp] theorem State.flagRunning_results (s : State) (f : JobFlags → JobFlags) : (s.flagRunning f).results = s.results := rfl
@[simp] theorem State.flagRunning_hold (s : State) (f : JobFlags → JobFlags) : (s.flagRunning f).hold = s.hold := rfl
@[simp] theorem State.flagRunning_cal (s : State) (f : JobFlags → JobFlags) : (s.flagRunning f).cal = s.cal := rfl
@[simp] theorem State.flagRunning_reconsider (s : State) (f : JobFlags → JobFlags) : (s.flagRunning f).reconsider = s.reconsider := rfl
@[simp] theorem State.flagRunning_replies (s : State) (f : JobFlags → JobFlags) : (s.flagRunning f).replies = s.replies := rfl
@[simp] theorem State.flagRunning_pending (s : State) (f : JobFlags → JobFlags) : (s.flagRunning f).pending = s.pending := rfl

/-! ### setFree -/

@[simp] theorem State.setFree_port (s : State) (n : Nat) : (s.setFree n).port = s.port := rfl
@[simp] theorem State.setFree_events (s : State) (n : Nat) : (s.setFree n).events = s.events := rfl
@[simp] theorem State.setFree_sites (s : State) (n : Nat) : (s.setFree n).sites = s.sites := rfl
@[simp] theorem State.setFree_inhibit (s : State) (n : Nat) : (s.setFree n).inhibit = s.inhibit := rfl
@[simp] theorem State.setFree_timebase (s : State) (n : Nat) : (s.setFree n).timebase = s.timebase := rfl
@[simp] theorem State.setFree_plans (s : State) (n : Nat) : (s.setFree n).plans = s.plans := rfl
@[simp] theorem State.setFree_masks (s : State) (n : Nat) : (s.setFree n).masks = s.masks := rfl
@[simp] theorem State.setFree_binMap (s : State) (n : Nat) : (s.setFree n).binMap = s.binMap := rfl
@[simp] theorem State.setFree_jobs (s : State) (n : Nat) : (s.setFree n).jobs = s.jobs := rfl
@[simp] theorem State.setFree_nextId (s : State) (n : Nat) : (s.setFree n).nextId = s.nextId := rfl
@[simp] theorem State.setFree_nextSeq (s : State) (n : Nat) : (s.setFree n).nextSeq = s.nextSeq := rfl
@[simp] theorem State.setFree_head (s : State) (n : Nat) : (s.setFree n).head = s.head := rfl
@[simp] theorem State.setFree_lanes (s : State) (n : Nat) : (s.setFree n).lanes = s.lanes := rfl
@[simp] theorem State.setFree_results (s : State) (n : Nat) : (s.setFree n).results = s.results := rfl
@[simp] theorem State.setFree_hold (s : State) (n : Nat) : (s.setFree n).hold = s.hold := rfl
@[simp] theorem State.setFree_cal (s : State) (n : Nat) : (s.setFree n).cal = s.cal := rfl
@[simp] theorem State.setFree_reconsider (s : State) (n : Nat) : (s.setFree n).reconsider = s.reconsider := rfl
@[simp] theorem State.setFree_replies (s : State) (n : Nat) : (s.setFree n).replies = s.replies := rfl
@[simp] theorem State.setFree_pending (s : State) (n : Nat) : (s.setFree n).pending = s.pending := rfl
@[simp] theorem State.setFree_site (s : State) (n : Nat) (k : SiteId) : (s.setFree n).site k = s.site k := rfl
@[simp] theorem State.setFree_lane (s : State) (n : Nat) (k : LaneId) : (s.setFree n).lane k = s.lane k := rfl
@[simp] theorem State.setFree_calRecord (s : State) (n : Nat) (k : LaneId) : (s.setFree n).calRecord k = s.calRecord k := rfl
@[simp] theorem State.setFree_now (s : State) (n : Nat) : (s.setFree n).now = s.now := rfl

/-! ### addResult -/

@[simp] theorem State.addResult_port (s : State) (id : Nat) : (s.addResult id).port = s.port := rfl
@[simp] theorem State.addResult_events (s : State) (id : Nat) : (s.addResult id).events = s.events := rfl
@[simp] theorem State.addResult_sites (s : State) (id : Nat) : (s.addResult id).sites = s.sites := rfl
@[simp] theorem State.addResult_inhibit (s : State) (id : Nat) : (s.addResult id).inhibit = s.inhibit := rfl
@[simp] theorem State.addResult_timebase (s : State) (id : Nat) : (s.addResult id).timebase = s.timebase := rfl
@[simp] theorem State.addResult_plans (s : State) (id : Nat) : (s.addResult id).plans = s.plans := rfl
@[simp] theorem State.addResult_masks (s : State) (id : Nat) : (s.addResult id).masks = s.masks := rfl
@[simp] theorem State.addResult_binMap (s : State) (id : Nat) : (s.addResult id).binMap = s.binMap := rfl
@[simp] theorem State.addResult_jobs (s : State) (id : Nat) : (s.addResult id).jobs = s.jobs := rfl
@[simp] theorem State.addResult_nextId (s : State) (id : Nat) : (s.addResult id).nextId = s.nextId := rfl
@[simp] theorem State.addResult_nextSeq (s : State) (id : Nat) : (s.addResult id).nextSeq = s.nextSeq := rfl
@[simp] theorem State.addResult_head (s : State) (id : Nat) : (s.addResult id).head = s.head := rfl
@[simp] theorem State.addResult_lanes (s : State) (id : Nat) : (s.addResult id).lanes = s.lanes := rfl
@[simp] theorem State.addResult_freeSegments (s : State) (id : Nat) : (s.addResult id).freeSegments = s.freeSegments := rfl
@[simp] theorem State.addResult_hold (s : State) (id : Nat) : (s.addResult id).hold = s.hold := rfl
@[simp] theorem State.addResult_cal (s : State) (id : Nat) : (s.addResult id).cal = s.cal := rfl
@[simp] theorem State.addResult_reconsider (s : State) (id : Nat) : (s.addResult id).reconsider = s.reconsider := rfl
@[simp] theorem State.addResult_replies (s : State) (id : Nat) : (s.addResult id).replies = s.replies := rfl
@[simp] theorem State.addResult_pending (s : State) (id : Nat) : (s.addResult id).pending = s.pending := rfl
@[simp] theorem State.addResult_site (s : State) (id : Nat) (k : SiteId) : (s.addResult id).site k = s.site k := rfl
@[simp] theorem State.addResult_lane (s : State) (id : Nat) (k : LaneId) : (s.addResult id).lane k = s.lane k := rfl
@[simp] theorem State.addResult_calRecord (s : State) (id : Nat) (k : LaneId) : (s.addResult id).calRecord k = s.calRecord k := rfl
@[simp] theorem State.addResult_now (s : State) (id : Nat) : (s.addResult id).now = s.now := rfl

/-! ### setHead -/

@[simp] theorem State.setHead_port (s : State) (h : Option (List Nat)) : (s.setHead h).port = s.port := rfl
@[simp] theorem State.setHead_events (s : State) (h : Option (List Nat)) : (s.setHead h).events = s.events := rfl
@[simp] theorem State.setHead_sites (s : State) (h : Option (List Nat)) : (s.setHead h).sites = s.sites := rfl
@[simp] theorem State.setHead_inhibit (s : State) (h : Option (List Nat)) : (s.setHead h).inhibit = s.inhibit := rfl
@[simp] theorem State.setHead_timebase (s : State) (h : Option (List Nat)) : (s.setHead h).timebase = s.timebase := rfl
@[simp] theorem State.setHead_plans (s : State) (h : Option (List Nat)) : (s.setHead h).plans = s.plans := rfl
@[simp] theorem State.setHead_masks (s : State) (h : Option (List Nat)) : (s.setHead h).masks = s.masks := rfl
@[simp] theorem State.setHead_binMap (s : State) (h : Option (List Nat)) : (s.setHead h).binMap = s.binMap := rfl
@[simp] theorem State.setHead_jobs (s : State) (h : Option (List Nat)) : (s.setHead h).jobs = s.jobs := rfl
@[simp] theorem State.setHead_nextId (s : State) (h : Option (List Nat)) : (s.setHead h).nextId = s.nextId := rfl
@[simp] theorem State.setHead_nextSeq (s : State) (h : Option (List Nat)) : (s.setHead h).nextSeq = s.nextSeq := rfl
@[simp] theorem State.setHead_lanes (s : State) (h : Option (List Nat)) : (s.setHead h).lanes = s.lanes := rfl
@[simp] theorem State.setHead_freeSegments (s : State) (h : Option (List Nat)) : (s.setHead h).freeSegments = s.freeSegments := rfl
@[simp] theorem State.setHead_results (s : State) (h : Option (List Nat)) : (s.setHead h).results = s.results := rfl
@[simp] theorem State.setHead_hold (s : State) (h : Option (List Nat)) : (s.setHead h).hold = s.hold := rfl
@[simp] theorem State.setHead_cal (s : State) (h : Option (List Nat)) : (s.setHead h).cal = s.cal := rfl
@[simp] theorem State.setHead_reconsider (s : State) (h : Option (List Nat)) : (s.setHead h).reconsider = s.reconsider := rfl
@[simp] theorem State.setHead_replies (s : State) (h : Option (List Nat)) : (s.setHead h).replies = s.replies := rfl
@[simp] theorem State.setHead_pending (s : State) (h : Option (List Nat)) : (s.setHead h).pending = s.pending := rfl
@[simp] theorem State.setHead_site (s : State) (h : Option (List Nat)) (k : SiteId) : (s.setHead h).site k = s.site k := rfl
@[simp] theorem State.setHead_lane (s : State) (h : Option (List Nat)) (k : LaneId) : (s.setHead h).lane k = s.lane k := rfl
@[simp] theorem State.setHead_calRecord (s : State) (h : Option (List Nat)) (k : LaneId) : (s.setHead h).calRecord k = s.calRecord k := rfl
@[simp] theorem State.setHead_now (s : State) (h : Option (List Nat)) : (s.setHead h).now = s.now := rfl

/-! ### reconsidered -/

@[simp] theorem State.reconsidered_port (s : State) : (s.reconsidered).port = s.port := rfl
@[simp] theorem State.reconsidered_events (s : State) : (s.reconsidered).events = s.events := rfl
@[simp] theorem State.reconsidered_sites (s : State) : (s.reconsidered).sites = s.sites := rfl
@[simp] theorem State.reconsidered_inhibit (s : State) : (s.reconsidered).inhibit = s.inhibit := rfl
@[simp] theorem State.reconsidered_timebase (s : State) : (s.reconsidered).timebase = s.timebase := rfl
@[simp] theorem State.reconsidered_plans (s : State) : (s.reconsidered).plans = s.plans := rfl
@[simp] theorem State.reconsidered_masks (s : State) : (s.reconsidered).masks = s.masks := rfl
@[simp] theorem State.reconsidered_binMap (s : State) : (s.reconsidered).binMap = s.binMap := rfl
@[simp] theorem State.reconsidered_jobs (s : State) : (s.reconsidered).jobs = s.jobs := rfl
@[simp] theorem State.reconsidered_nextId (s : State) : (s.reconsidered).nextId = s.nextId := rfl
@[simp] theorem State.reconsidered_nextSeq (s : State) : (s.reconsidered).nextSeq = s.nextSeq := rfl
@[simp] theorem State.reconsidered_head (s : State) : (s.reconsidered).head = s.head := rfl
@[simp] theorem State.reconsidered_lanes (s : State) : (s.reconsidered).lanes = s.lanes := rfl
@[simp] theorem State.reconsidered_freeSegments (s : State) : (s.reconsidered).freeSegments = s.freeSegments := rfl
@[simp] theorem State.reconsidered_results (s : State) : (s.reconsidered).results = s.results := rfl
@[simp] theorem State.reconsidered_hold (s : State) : (s.reconsidered).hold = s.hold := rfl
@[simp] theorem State.reconsidered_cal (s : State) : (s.reconsidered).cal = s.cal := rfl
@[simp] theorem State.reconsidered_replies (s : State) : (s.reconsidered).replies = s.replies := rfl
@[simp] theorem State.reconsidered_pending (s : State) : (s.reconsidered).pending = s.pending := rfl
@[simp] theorem State.reconsidered_site (s : State) (k : SiteId) : (s.reconsidered).site k = s.site k := rfl
@[simp] theorem State.reconsidered_lane (s : State) (k : LaneId) : (s.reconsidered).lane k = s.lane k := rfl
@[simp] theorem State.reconsidered_calRecord (s : State) (k : LaneId) : (s.reconsidered).calRecord k = s.calRecord k := rfl
@[simp] theorem State.reconsidered_now (s : State) : (s.reconsidered).now = s.now := rfl

@[simp] theorem State.setFree_freeSegments (s : State) (n : Nat) : (s.setFree n).freeSegments = n := rfl
@[simp] theorem State.addResult_results (s : State) (id : Nat) : (s.addResult id).results = s.results ++ [id] := rfl
@[simp] theorem State.setHead_head (s : State) (h : Option (List Nat)) : (s.setHead h).head = h := rfl
@[simp] theorem State.reconsidered_reconsider (s : State) : s.reconsidered.reconsider = false := rfl

/-! ### Calling the arbiter on a condition, and raising a kind -/

@[simp] theorem State.callArbiterIf_port (s : State) (b : Bool) : (s.callArbiterIf b).port = s.port := by cases b <;> rfl
@[simp] theorem State.callArbiterIf_events (s : State) (b : Bool) : (s.callArbiterIf b).events = s.events := by cases b <;> rfl
@[simp] theorem State.callArbiterIf_sites (s : State) (b : Bool) : (s.callArbiterIf b).sites = s.sites := by cases b <;> rfl
@[simp] theorem State.callArbiterIf_inhibit (s : State) (b : Bool) : (s.callArbiterIf b).inhibit = s.inhibit := by cases b <;> rfl
@[simp] theorem State.callArbiterIf_timebase (s : State) (b : Bool) : (s.callArbiterIf b).timebase = s.timebase := by cases b <;> rfl
@[simp] theorem State.callArbiterIf_plans (s : State) (b : Bool) : (s.callArbiterIf b).plans = s.plans := by cases b <;> rfl
@[simp] theorem State.callArbiterIf_masks (s : State) (b : Bool) : (s.callArbiterIf b).masks = s.masks := by cases b <;> rfl
@[simp] theorem State.callArbiterIf_binMap (s : State) (b : Bool) : (s.callArbiterIf b).binMap = s.binMap := by cases b <;> rfl
@[simp] theorem State.callArbiterIf_jobs (s : State) (b : Bool) : (s.callArbiterIf b).jobs = s.jobs := by cases b <;> rfl
@[simp] theorem State.callArbiterIf_nextId (s : State) (b : Bool) : (s.callArbiterIf b).nextId = s.nextId := by cases b <;> rfl
@[simp] theorem State.callArbiterIf_nextSeq (s : State) (b : Bool) : (s.callArbiterIf b).nextSeq = s.nextSeq := by cases b <;> rfl
@[simp] theorem State.callArbiterIf_head (s : State) (b : Bool) : (s.callArbiterIf b).head = s.head := by cases b <;> rfl
@[simp] theorem State.callArbiterIf_lanes (s : State) (b : Bool) : (s.callArbiterIf b).lanes = s.lanes := by cases b <;> rfl
@[simp] theorem State.callArbiterIf_freeSegments (s : State) (b : Bool) : (s.callArbiterIf b).freeSegments = s.freeSegments := by cases b <;> rfl
@[simp] theorem State.callArbiterIf_results (s : State) (b : Bool) : (s.callArbiterIf b).results = s.results := by cases b <;> rfl
@[simp] theorem State.callArbiterIf_hold (s : State) (b : Bool) : (s.callArbiterIf b).hold = s.hold := by cases b <;> rfl
@[simp] theorem State.callArbiterIf_cal (s : State) (b : Bool) : (s.callArbiterIf b).cal = s.cal := by cases b <;> rfl
@[simp] theorem State.callArbiterIf_replies (s : State) (b : Bool) : (s.callArbiterIf b).replies = s.replies := by cases b <;> rfl
@[simp] theorem State.callArbiterIf_pending (s : State) (b : Bool) : (s.callArbiterIf b).pending = s.pending := by cases b <;> rfl
@[simp] theorem State.callArbiter_reconsider (s : State) : s.callArbiter.reconsider = true := rfl
@[simp] theorem State.callArbiterIf_reconsider (s : State) (b : Bool) :
    (s.callArbiterIf b).reconsider = (b || s.reconsider) := by cases b <;> simp [State.callArbiterIf, State.callArbiter]

@[simp] theorem State.raise_sites (s : State) (k : EventKind) : (s.raise k).sites = s.sites := by unfold State.raise; split <;> rfl
@[simp] theorem State.raise_inhibit (s : State) (k : EventKind) : (s.raise k).inhibit = s.inhibit := by unfold State.raise; split <;> rfl
@[simp] theorem State.raise_timebase (s : State) (k : EventKind) : (s.raise k).timebase = s.timebase := by unfold State.raise; split <;> rfl
@[simp] theorem State.raise_plans (s : State) (k : EventKind) : (s.raise k).plans = s.plans := by unfold State.raise; split <;> rfl
@[simp] theorem State.raise_masks (s : State) (k : EventKind) : (s.raise k).masks = s.masks := by unfold State.raise; split <;> rfl
@[simp] theorem State.raise_binMap (s : State) (k : EventKind) : (s.raise k).binMap = s.binMap := by unfold State.raise; split <;> rfl
@[simp] theorem State.raise_jobs (s : State) (k : EventKind) : (s.raise k).jobs = s.jobs := by unfold State.raise; split <;> rfl
@[simp] theorem State.raise_nextId (s : State) (k : EventKind) : (s.raise k).nextId = s.nextId := by unfold State.raise; split <;> rfl
@[simp] theorem State.raise_nextSeq (s : State) (k : EventKind) : (s.raise k).nextSeq = s.nextSeq := by unfold State.raise; split <;> rfl
@[simp] theorem State.raise_head (s : State) (k : EventKind) : (s.raise k).head = s.head := by unfold State.raise; split <;> rfl
@[simp] theorem State.raise_lanes (s : State) (k : EventKind) : (s.raise k).lanes = s.lanes := by unfold State.raise; split <;> rfl
@[simp] theorem State.raise_freeSegments (s : State) (k : EventKind) : (s.raise k).freeSegments = s.freeSegments := by unfold State.raise; split <;> rfl
@[simp] theorem State.raise_results (s : State) (k : EventKind) : (s.raise k).results = s.results := by unfold State.raise; split <;> rfl
@[simp] theorem State.raise_hold (s : State) (k : EventKind) : (s.raise k).hold = s.hold := by unfold State.raise; split <;> rfl
@[simp] theorem State.raise_cal (s : State) (k : EventKind) : (s.raise k).cal = s.cal := by unfold State.raise; split <;> rfl
@[simp] theorem State.raise_reconsider (s : State) (k : EventKind) : (s.raise k).reconsider = s.reconsider := by unfold State.raise; split <;> rfl
@[simp] theorem State.raise_replies (s : State) (k : EventKind) : (s.raise k).replies = s.replies := by unfold State.raise; split <;> rfl
@[simp] theorem State.raise_pending (s : State) (k : EventKind) : (s.raise k).pending = s.pending := by unfold State.raise; split <;> rfl
@[simp] theorem State.raise_mask (s : State) (k : EventKind) : (s.raise k).events.mask = s.events.mask := by
  unfold State.raise; split <;> rfl
@[simp] theorem State.raise_link (s : State) (k : EventKind) : (s.raise k).port.link = s.port.link := by
  unfold State.raise; split <;> rfl
@[simp] theorem State.raise_badCount (s : State) (k : EventKind) : (s.raise k).port.badCount = s.port.badCount := by
  unfold State.raise; split <;> rfl
@[simp] theorem State.raise_queue (s : State) (k : EventKind) : (s.raise k).port.queue = s.port.queue := by
  unfold State.raise; split <;> rfl
@[simp] theorem State.raise_inHand (s : State) (k : EventKind) : (s.raise k).port.inHand = s.port.inHand := by
  unfold State.raise; split <;> rfl
@[simp] theorem State.raise_transmitter (s : State) (k : EventKind) :
    (s.raise k).port.transmitter = s.port.transmitter := by unfold State.raise; split <;> rfl

/-! ### Reading back -/

theorem State.setSite_site (s : State) (i k : SiteId) (x : Site) :
    (s.setSite i x).site k = if i = k then x else s.site k := by
  simp [State.setSite, State.site, Vector.getElem_set, Fin.val_inj]

@[simp] theorem State.setSite_site_self (s : State) (i : SiteId) (x : Site) : (s.setSite i x).site i = x := by
  simp [State.setSite_site]

theorem State.setSite_site_ne (s : State) {i k : SiteId} (x : Site) (h : i ≠ k) : (s.setSite i x).site k = s.site k := by
  simp [State.setSite_site, h]

theorem State.setLane_lane (s : State) (l k : LaneId) (x : Lane) :
    (s.setLane l x).lane k = if l = k then x else s.lane k := by
  simp [State.setLane, State.lane, Vector.getElem_set, Fin.val_inj]

@[simp] theorem State.setLane_lane_self (s : State) (l : LaneId) (x : Lane) : (s.setLane l x).lane l = x := by
  simp [State.setLane_lane]

theorem State.setLane_lane_ne (s : State) {l k : LaneId} (x : Lane) (h : l ≠ k) : (s.setLane l x).lane k = s.lane k := by
  simp [State.setLane_lane, h]

theorem State.setCalRecord_calRecord (s : State) (l k : LaneId) (r : CalRecord) :
    (s.setCalRecord l r).calRecord k = if l = k then r else s.calRecord k := by
  simp [State.setCalRecord, State.calRecord, Vector.getElem_set, Fin.val_inj]

@[simp] theorem State.setCalRecord_calRecord_self (s : State) (l : LaneId) (r : CalRecord) :
    (s.setCalRecord l r).calRecord l = r := by simp [State.setCalRecord_calRecord]

/-! ### Views the updates leave -/

@[simp] theorem State.setLane_site (s : State) (l : LaneId) (x : Lane) (k : SiteId) : (s.setLane l x).site k = s.site k := rfl
@[simp] theorem State.updateJob_site (s : State) (id : Nat) (f : Job → Job) (k : SiteId) : (s.updateJob id f).site k = s.site k := rfl
@[simp] theorem State.setCalRecord_site (s : State) (l : LaneId) (r : CalRecord) (k : SiteId) : (s.setCalRecord l r).site k = s.site k := rfl
@[simp] theorem State.callArbiter_site (s : State) (k : SiteId) : (s.callArbiter).site k = s.site k := rfl
@[simp] theorem State.leaveGang_site (s : State) (id : Nat) (k : SiteId) : (s.leaveGang id).site k = s.site k := rfl
@[simp] theorem State.openConnection_site (s : State) (i : SiteId) (k : SiteId) : (s.openConnection i).site k = s.site k := rfl
@[simp] theorem State.moveLanes_site (s : State) (p q : LaneState) (k : SiteId) : (s.moveLanes p q).site k = s.site k := rfl
@[simp] theorem State.flagLevel_site (s : State) (i : SiteId) (k : SiteId) : (s.flagLevel i).site k = s.site k := rfl
@[simp] theorem State.flagRunning_site (s : State) (f : JobFlags → JobFlags) (k : SiteId) : (s.flagRunning f).site k = s.site k := rfl
@[simp] theorem State.callArbiterIf_site (s : State) (b : Bool) (k : SiteId) : (s.callArbiterIf b).site k = s.site k := by
  cases b <;> rfl
@[simp] theorem State.raise_site (s : State) (e : EventKind) (k : SiteId) : (s.raise e).site k = s.site k := by
  unfold State.raise; split <;> rfl
@[simp] theorem State.setSite_lane (s : State) (i : SiteId) (x : Site) (k : LaneId) : (s.setSite i x).lane k = s.lane k := rfl
@[simp] theorem State.updateJob_lane (s : State) (id : Nat) (f : Job → Job) (k : LaneId) : (s.updateJob id f).lane k = s.lane k := rfl
@[simp] theorem State.setCalRecord_lane (s : State) (l : LaneId) (r : CalRecord) (k : LaneId) : (s.setCalRecord l r).lane k = s.lane k := rfl
@[simp] theorem State.callArbiter_lane (s : State) (k : LaneId) : (s.callArbiter).lane k = s.lane k := rfl
@[simp] theorem State.leaveGang_lane (s : State) (id : Nat) (k : LaneId) : (s.leaveGang id).lane k = s.lane k := rfl
@[simp] theorem State.flagLevel_lane (s : State) (i : SiteId) (k : LaneId) : (s.flagLevel i).lane k = s.lane k := rfl
@[simp] theorem State.flagRunning_lane (s : State) (f : JobFlags → JobFlags) (k : LaneId) : (s.flagRunning f).lane k = s.lane k := rfl
@[simp] theorem State.callArbiterIf_lane (s : State) (b : Bool) (k : LaneId) : (s.callArbiterIf b).lane k = s.lane k := by
  cases b <;> rfl
@[simp] theorem State.raise_lane (s : State) (e : EventKind) (k : LaneId) : (s.raise e).lane k = s.lane k := by
  unfold State.raise; split <;> rfl
@[simp] theorem State.setSite_calRecord (s : State) (i : SiteId) (x : Site) (k : LaneId) : (s.setSite i x).calRecord k = s.calRecord k := rfl
@[simp] theorem State.setLane_calRecord (s : State) (l : LaneId) (x : Lane) (k : LaneId) : (s.setLane l x).calRecord k = s.calRecord k := rfl
@[simp] theorem State.updateJob_calRecord (s : State) (id : Nat) (f : Job → Job) (k : LaneId) : (s.updateJob id f).calRecord k = s.calRecord k := rfl
@[simp] theorem State.callArbiter_calRecord (s : State) (k : LaneId) : (s.callArbiter).calRecord k = s.calRecord k := rfl
@[simp] theorem State.leaveGang_calRecord (s : State) (id : Nat) (k : LaneId) : (s.leaveGang id).calRecord k = s.calRecord k := rfl
@[simp] theorem State.openConnection_calRecord (s : State) (i : SiteId) (k : LaneId) : (s.openConnection i).calRecord k = s.calRecord k := rfl
@[simp] theorem State.moveLanes_calRecord (s : State) (p q : LaneState) (k : LaneId) : (s.moveLanes p q).calRecord k = s.calRecord k := rfl
@[simp] theorem State.flagLevel_calRecord (s : State) (i : SiteId) (k : LaneId) : (s.flagLevel i).calRecord k = s.calRecord k := rfl
@[simp] theorem State.flagRunning_calRecord (s : State) (f : JobFlags → JobFlags) (k : LaneId) : (s.flagRunning f).calRecord k = s.calRecord k := rfl
@[simp] theorem State.callArbiterIf_calRecord (s : State) (b : Bool) (k : LaneId) : (s.callArbiterIf b).calRecord k = s.calRecord k := by
  cases b <;> rfl
@[simp] theorem State.raise_calRecord (s : State) (e : EventKind) (k : LaneId) : (s.raise e).calRecord k = s.calRecord k := by
  unfold State.raise; split <;> rfl
@[simp] theorem State.setSite_now (s : State) (i : SiteId) (x : Site) : (s.setSite i x).now = s.now := rfl
@[simp] theorem State.setLane_now (s : State) (l : LaneId) (x : Lane) : (s.setLane l x).now = s.now := rfl
@[simp] theorem State.updateJob_now (s : State) (id : Nat) (f : Job → Job) : (s.updateJob id f).now = s.now := rfl
@[simp] theorem State.setCalRecord_now (s : State) (l : LaneId) (r : CalRecord) : (s.setCalRecord l r).now = s.now := rfl
@[simp] theorem State.callArbiter_now (s : State) : (s.callArbiter).now = s.now := rfl
@[simp] theorem State.leaveGang_now (s : State) (id : Nat) : (s.leaveGang id).now = s.now := rfl
@[simp] theorem State.openConnection_now (s : State) (i : SiteId) : (s.openConnection i).now = s.now := rfl
@[simp] theorem State.moveLanes_now (s : State) (p q : LaneState) : (s.moveLanes p q).now = s.now := rfl
@[simp] theorem State.flagLevel_now (s : State) (i : SiteId) : (s.flagLevel i).now = s.now := rfl
@[simp] theorem State.flagRunning_now (s : State) (f : JobFlags → JobFlags) : (s.flagRunning f).now = s.now := rfl
@[simp] theorem State.callArbiterIf_now (s : State) (b : Bool) : (s.callArbiterIf b).now = s.now := by
  cases b <;> rfl
@[simp] theorem State.raise_now (s : State) (e : EventKind) : (s.raise e).now = s.now := by
  unfold State.raise; split <;> rfl

end Sys2Proof.Machine
end

