-- ==== Sys2Proof/Laws/Setting.lean ====
section
/-! SUPPORT. What the operations of the job controller, and the close of every event, leave as it was: the setting they work
in. One lemma per operation says it of the whole setting; a lemma about one field follows by projection. -/

namespace Sys2Proof.Machine

/-! ### Single-record operations -/

@[simp] theorem setSite_setting (s : State) (i : SiteId) (x : Site) : (s.setSite i x).setting = s.setting := rfl
@[simp] theorem setLane_setting (s : State) (l : LaneId) (x : Lane) : (s.setLane l x).setting = s.setting := rfl
@[simp] theorem updateJob_setting (s : State) (id : Nat) (f : Job → Job) : (s.updateJob id f).setting = s.setting := rfl
@[simp] theorem setCalRecord_setting (s : State) (l : LaneId) (r : CalRecord) :
    (s.setCalRecord l r).setting = s.setting := rfl
@[simp] theorem callArbiter_setting (s : State) : s.callArbiter.setting = s.setting := rfl
@[simp] theorem callArbiterIf_setting (s : State) (b : Bool) : (s.callArbiterIf b).setting = s.setting := by
  cases b <;> rfl
@[simp] theorem leaveGang_setting (s : State) (id : Nat) : (s.leaveGang id).setting = s.setting := rfl
@[simp] theorem openConnection_setting (s : State) (i : SiteId) : (s.openConnection i).setting = s.setting := rfl
@[simp] theorem moveLanes_setting (s : State) (p q : LaneState) : (s.moveLanes p q).setting = s.setting := rfl
@[simp] theorem flagLevel_setting (s : State) (i : SiteId) : (s.flagLevel i).setting = s.setting := rfl
@[simp] theorem flagRunning_setting (s : State) (f : JobFlags → JobFlags) : (s.flagRunning f).setting = s.setting := rfl
@[simp] theorem raise_setting (s : State) (k : EventKind) : (s.raise k).setting = s.setting := by
  unfold State.raise; split <;> rfl

@[simp] theorem setFree_setting (s : State) (n : Nat) : (s.setFree n).setting = s.setting := rfl
@[simp] theorem addResult_setting (s : State) (id : Nat) : (s.addResult id).setting = s.setting := rfl
@[simp] theorem setHead_setting (s : State) (h : Option (List Nat)) : (s.setHead h).setting = s.setting := rfl
@[simp] theorem reconsidered_setting (s : State) : s.reconsidered.setting = s.setting := rfl

/-! ### Sites, calibration begin, lane release, job end -/

@[simp] theorem siteReady_setting (s : State) (i : SiteId) (x : Site) : (s.siteReady i x).setting = s.setting := by
  simp [State.siteReady]

@[simp] theorem siteAlert_setting (s : State) (i : SiteId) (x : Site) : (s.siteAlert i x).setting = s.setting := by
  simp [State.siteAlert]

@[simp] theorem releaseSite_setting (s : State) (l : LaneId) : (s.releaseSite l).setting = s.setting := by
  unfold State.releaseSite
  split
  · rfl
  · dsimp only; split <;> simp

@[simp] theorem beginStep_setting (s : State) (l : LaneId) (r : RangeId) : (s.beginStep l r).setting = s.setting := by
  simp [State.beginStep]

@[simp] theorem beginCalibration_setting (s : State) (l : LaneId) (b : Bool) :
    (s.beginCalibration l b).setting = s.setting := by
  unfold State.beginCalibration; dsimp only; split <;> simp

@[simp] theorem releaseLane_setting (s : State) (l : LaneId) : (s.releaseLane l).setting = s.setting := by
  unfold State.releaseLane; dsimp only; split <;> simp

@[simp] theorem returnBuffer_setting (s : State) (j : Job) : (s.returnBuffer j).setting = s.setting := by
  simp [State.returnBuffer]

@[simp] theorem recordEnd_setting (s : State) (id : Nat) (e : EndReason) (r : Result) :
    (s.recordEnd id e r).setting = s.setting := by
  simp [State.recordEnd]

@[simp] theorem endRecord_setting (s : State) (e : EndReason) (j : Job) : (s.endRecord e j).setting = s.setting := by
  simp [State.endRecord]

@[simp] theorem endTerminal_setting (e : EndReason) (s : State) (id : Nat) : (s.endTerminal e id).setting = s.setting := by
  unfold State.endTerminal
  split
  · rfl
  · split
    · rfl
    · split <;> simp

theorem foldl_setting {α : Type} (f : State → α → State) (h : ∀ s a, (f s a).setting = s.setting) :
    ∀ (xs : List α) (s : State), (xs.foldl f s).setting = s.setting
  | [], _ => rfl
  | x :: xs, s => by rw [List.foldl_cons, foldl_setting f h xs, h]

@[simp] theorem endJobs_setting (s : State) (e : EndReason) (js : List Job) : (s.endJobs e js).setting = s.setting :=
  foldl_setting _ (fun s id => endTerminal_setting e s id) _ s

/-! ### Acquisition start and end -/

@[simp] theorem startAcquisition_setting (s : State) (j : Job) (l : LaneId) :
    (s.startAcquisition j l).setting = s.setting := by simp [State.startAcquisition]

@[simp] theorem startGangs_setting (s : State) : s.startGangs.setting = s.setting :=
  foldl_setting _ (fun s j => by split <;> simp) _ s

@[simp] theorem endAcquisition_setting (s : State) (l : LaneId) (j : Job) (a : Acquisition) (e : EndReason) (d : Nat) :
    (s.endAcquisition l j a e d).setting = s.setting := by simp [State.endAcquisition]

/-! ### The arbiter -/

@[simp] theorem unreserve_setting (s : State) : s.unreserve.setting = s.setting := rfl
@[simp] theorem reserve_setting (s : State) : s.reserve.setting = s.setting := rfl

@[simp] theorem assignOne_setting (s : State) (j : Job) (l : LaneId) : (s.assignOne j l).setting = s.setting := by
  simp [State.assignOne]

@[simp] theorem assign_setting (s : State) (c : List Job) : (s.assign c).setting = s.setting := by
  simp only [State.assign, setHead_setting, unreserve_setting]
  exact foldl_setting (fun (s : State) (x : Job × LaneId) => s.assignOne x.1 x.2) (fun s x => assignOne_setting s x.1 x.2) _ s

@[simp] theorem serveHead_setting (s : State) (c : List Job) : (s.serveHead c).1.setting = s.setting := by
  unfold State.serveHead
  dsimp only
  repeat' split
  all_goals simp

@[simp] theorem takeHead_setting (s : State) (c : List Job) : (s.takeHead c).setting = s.setting := by
  unfold State.takeHead; split <;> simp

@[simp] theorem reconsiderWith_setting : ∀ (fuel : Nat) (s : State), (State.reconsiderWith fuel s).setting = s.setting
  | 0, _ => rfl
  | fuel + 1, s => by
    unfold State.reconsiderWith
    split
    · simp
    · dsimp only
      split
      · rw [reconsiderWith_setting fuel]; simp
      · split
        · rw [reconsiderWith_setting fuel]; simp
        · simp

@[simp] theorem arbitrate_setting (s : State) : s.arbitrate.setting = s.setting := by
  unfold State.arbitrate; split <;> simp

/-! ### The close of an event -/

@[simp] theorem beginFrame_setting (s : State) (r : Rate) : (s.beginFrame r).setting = s.setting := by
  unfold State.beginFrame
  dsimp only
  repeat' split
  all_goals rfl

@[simp] theorem settlePort_setting (s : State) : s.settlePort.setting = s.setting := by
  unfold State.settlePort; split <;> simp

/-- What follows an event's own effects leaves the setting. -/
@[simp] theorem finish_setting (s : State) : s.finish.setting = s.setting := by simp [State.finish]

@[simp] theorem orderEnds_setting (s : State) (before : List Nat) : (s.orderEnds before).setting = s.setting := rfl

/-- The close of an event leaves the setting. -/
@[simp] theorem close_setting (s s₀ : State) : (s.close s₀).setting = s.setting := by simp [State.close]

/-! ### The fields of the setting after the close of an event -/

@[simp] theorem close_link (s s₀ : State) : (s.close s₀).port.link = s.port.link :=
  congrArg Setting.link (close_setting s s₀)
@[simp] theorem close_badCount (s s₀ : State) : (s.close s₀).port.badCount = s.port.badCount :=
  congrArg Setting.badCount (close_setting s s₀)
@[simp] theorem close_queue (s s₀ : State) : (s.close s₀).port.queue = s.port.queue :=
  congrArg Setting.queue (close_setting s s₀)
@[simp] theorem close_inHand (s s₀ : State) : (s.close s₀).port.inHand = s.port.inHand :=
  congrArg Setting.inHand (close_setting s s₀)
@[simp] theorem close_mask (s s₀ : State) : (s.close s₀).events.mask = s.events.mask :=
  congrArg Setting.mask (close_setting s s₀)
@[simp] theorem close_inhibit (s s₀ : State) : (s.close s₀).inhibit = s.inhibit :=
  congrArg Setting.inhibit (close_setting s s₀)
@[simp] theorem close_timebase (s s₀ : State) : (s.close s₀).timebase = s.timebase :=
  congrArg Setting.timebase (close_setting s s₀)
@[simp] theorem close_plans (s s₀ : State) : (s.close s₀).plans = s.plans :=
  congrArg Setting.plans (close_setting s s₀)
@[simp] theorem close_masks (s s₀ : State) : (s.close s₀).masks = s.masks :=
  congrArg Setting.masks (close_setting s s₀)
@[simp] theorem close_binMap (s s₀ : State) : (s.close s₀).binMap = s.binMap :=
  congrArg Setting.binMap (close_setting s s₀)
@[simp] theorem close_nextId (s s₀ : State) : (s.close s₀).nextId = s.nextId :=
  congrArg Setting.nextId (close_setting s s₀)
@[simp] theorem close_nextSeq (s s₀ : State) : (s.close s₀).nextSeq = s.nextSeq :=
  congrArg Setting.nextSeq (close_setting s s₀)
@[simp] theorem close_hold (s s₀ : State) : (s.close s₀).hold = s.hold :=
  congrArg Setting.hold (close_setting s s₀)
@[simp] theorem close_working (s s₀ : State) : (s.close s₀).cal.working = s.cal.working :=
  congrArg Setting.working (close_setting s s₀)
@[simp] theorem close_stored (s s₀ : State) : (s.close s₀).cal.stored = s.cal.stored :=
  congrArg Setting.stored (close_setting s s₀)
@[simp] theorem close_checkMatches (s s₀ : State) : (s.close s₀).cal.checkMatches = s.cal.checkMatches :=
  congrArg Setting.checkMatches (close_setting s s₀)
@[simp] theorem close_image (s s₀ : State) : (s.close s₀).cal.image = s.cal.image :=
  congrArg Setting.image (close_setting s s₀)
@[simp] theorem close_replies (s s₀ : State) : (s.close s₀).replies = s.replies :=
  congrArg Setting.replies (close_setting s s₀)
@[simp] theorem close_pending (s s₀ : State) : (s.close s₀).pending = s.pending :=
  congrArg Setting.pending (close_setting s s₀)

end Sys2Proof.Machine
end

