-- ==== Sys2Proof/Laws/Carried.lean ====
section
/-! SUPPORT. What the job controller's own operations can do to the rest of the part, said once for each: the setting stands,
a site changes only between READY and MEASURING, the job table keeps its ids, the result list only grows, and no pending kind
is lost. -/

namespace Sys2Proof.Machine

theorem Site.Kept.refl (now : Word) (x : Site) : Site.Kept now x x :=
  ⟨fun _ => rfl, fun h => h, x.state, x.entered, x.timer, x.faultCount, rfl, .inl rfl, .inl rfl, .inl rfl⟩

theorem Site.Kept.trans {now : Word} {x y z : Site} (h : Site.Kept now x y) (g : Site.Kept now y z) :
    Site.Kept now x z := by
  refine ⟨fun hx => ?_, fun hx => g.selectable (h.selectable hx), ?_⟩
  · have hy := h.other hx
    subst hy
    exact g.other hx
  · obtain ⟨st, e, tm, fc, rfl, he, ht, hf⟩ := h.same
    obtain ⟨st', e', tm', fc', rfl, he', ht', hf'⟩ := g.same
    refine ⟨st', e', tm', fc', rfl, ?_, ?_, ?_⟩
    · rcases he' with rfl | rfl
      · exact he
      · exact .inr rfl
    · rcases ht' with rfl | rfl
      · exact ht
      · exact .inr rfl
    · rcases hf' with rfl | rfl
      · exact hf
      · exact .inr rfl

theorem Site.release_kept (x : Site) (now : Word) (h : x.state = .measuring) : Site.Kept now x (x.release now) :=
  ⟨fun hx => by simp [h, SiteState.selectable] at hx, fun _ => rfl, .ready, now, .stopped, 0, rfl, .inr rfl, .inr rfl,
    .inr rfl⟩

theorem Site.connect_kept (x : Site) (now : Word) (h : x.state.selectable = true) : Site.Kept now x (x.connect now) :=
  ⟨fun hx => by simp [h] at hx, fun _ => rfl, .measuring, now, x.timer, x.faultCount, rfl, .inr rfl, .inl rfl, .inl rfl⟩

theorem Job.Kept.refl (j : Job) : j.Kept j := ⟨rfl, rfl, rfl, rfl, rfl, rfl, rfl, rfl, fun h => h, fun h => h, fun h => h⟩

theorem Job.Kept.trans {j k m : Job} (h : j.Kept k) (g : k.Kept m) : j.Kept m :=
  ⟨g.id.trans h.id, g.site.trans h.site, g.plan.trans h.plan, g.group.trans h.group, g.priority.trans h.priority,
    g.seq.trans h.seq, g.attempts.trans h.attempts, g.recount.trans h.recount, g.level ∘ h.level,
    g.refHoldover ∘ h.refHoldover, g.refLost ∘ h.refLost⟩

theorem JobsKept.refl (js : List Job) : JobsKept js js := List.forall₂_same.2 fun j _ => Job.Kept.refl j

theorem JobsKept.trans {js ks ms : List Job} (h : JobsKept js ks) (g : JobsKept ks ms) : JobsKept js ms := by
  induction h generalizing ms with
  | nil => cases g; exact .nil
  | cons a _ ih => cases g with
    | cons b g => exact .cons (a.trans b) (ih g)

theorem JobsKept.map {js : List Job} {f : Job → Job} (h : ∀ j ∈ js, j.Kept (f j)) : JobsKept js (js.map f) := by
  induction js with
  | nil => exact .nil
  | cons j js ih =>
    exact .cons (h j (List.mem_cons_self ..)) (ih fun k hk => h k (List.mem_cons_of_mem _ hk))

/-- The ids stand where they stood. -/
theorem JobsKept.ids {js ks : List Job} (h : JobsKept js ks) : ks.map Job.id = js.map Job.id := by
  induction h with
  | nil => rfl
  | cons a _ ih => simp [a.id, ih]

/-- Every record has its successor. -/
theorem JobsKept.exists {js ks : List Job} (h : JobsKept js ks) {j : Job} (hj : j ∈ js) : ∃ k ∈ ks, j.Kept k := by
  induction h with
  | nil => simp at hj
  | cons a _ ih =>
    rcases List.mem_cons.1 hj with rfl | hj
    · exact ⟨_, List.mem_cons_self .., a⟩
    · obtain ⟨k, hk, h⟩ := ih hj
      exact ⟨k, List.mem_cons_of_mem _ hk, h⟩

theorem Carried.refl (s : State) : Carried s s :=
  ⟨rfl, fun _ => Site.Kept.refl _ _, JobsKept.refl _, List.prefix_refl _, BitVec.and_self, fun _ => rfl⟩

theorem Carried.trans {s t u : State} (h : Carried s t) (g : Carried t u) : Carried s u where
  setting := g.setting.trans h.setting
  sites i := by
    have hn : t.now = s.now := congrArg (fun x => x.timebase.uptime) h.setting
    exact (h.sites i).trans (hn ▸ g.sites i)
  jobs := h.jobs.trans g.jobs
  results := h.results.trans g.results
  events := by
    have a := h.events
    have b := g.events
    rw [← a, BitVec.and_assoc, b]
  failures l := (g.failures l).trans (h.failures l)

/-- An operation that changes only lanes, calibration records, free segments, the head, the port's transmitter or the call
for the arbiter. -/
theorem Carried.of_eq {s t : State} (h : t.setting = s.setting) (hs : t.sites = s.sites) (hj : t.jobs = s.jobs)
    (hr : t.results = s.results) (he : t.events = s.events)
    (hf : ∀ l, (t.lane l).tuneFailures = (s.lane l).tuneFailures) : Carried s t :=
  ⟨h, fun i => by simpa [State.site, hs] using Site.Kept.refl s.now (s.site i), by rw [hj]; exact JobsKept.refl _, by rw [hr],
    by rw [he]; exact BitVec.and_self, hf⟩

/-- An operation that changes only job records, within what is kept of them. -/
theorem Carried.of_jobs {s t : State} (h : t.setting = s.setting) (hs : t.sites = s.sites)
    (hj : JobsKept s.jobs t.jobs) (hr : t.results = s.results) (he : t.events = s.events)
    (hl : t.lanes = s.lanes) : Carried s t :=
  ⟨h, fun i => by simpa [State.site, hs] using Site.Kept.refl s.now (s.site i), hj, by rw [hr],
    by rw [he]; exact BitVec.and_self, fun l => by simp [State.lane, hl]⟩

/-! ### Single-record operations -/

theorem setLane_carried (s : State) (l : LaneId) (x : Lane) (h : x.tuneFailures = (s.lane l).tuneFailures) :
    Carried s (s.setLane l x) :=
  .of_eq rfl rfl rfl rfl rfl fun m => by
    by_cases hm : l = m
    · subst hm; simpa [State.lane, State.setLane] using h
    · simp [State.lane, State.setLane, Fin.val_inj, hm]
theorem setCalRecord_carried (s : State) (l : LaneId) (r : CalRecord) : Carried s (s.setCalRecord l r) :=
  .of_eq rfl rfl rfl rfl rfl fun _ => rfl
theorem callArbiter_carried (s : State) : Carried s s.callArbiter := .of_eq rfl rfl rfl rfl rfl fun _ => rfl
theorem callArbiterIf_carried (s : State) (b : Bool) : Carried s (s.callArbiterIf b) := by
  cases b
  · exact Carried.refl s
  · exact callArbiter_carried s
theorem setFree_carried (s : State) (n : Nat) : Carried s (s.setFree n) := .of_eq rfl rfl rfl rfl rfl fun _ => rfl
theorem setHead_carried (s : State) (h : Option (List Nat)) : Carried s (s.setHead h) :=
  .of_eq rfl rfl rfl rfl rfl fun _ => rfl
theorem reconsidered_carried (s : State) : Carried s s.reconsidered := .of_eq rfl rfl rfl rfl rfl fun _ => rfl
theorem moveLanes_carried (s : State) (p q : LaneState) : Carried s (s.moveLanes p q) :=
  .of_eq rfl rfl rfl rfl rfl fun l => by
    simp only [State.lane, State.moveLanes, Fin.getElem_fin, Vector.getElem_map]
    split <;> rfl

theorem addResult_carried (s : State) (id : Nat) : Carried s (s.addResult id) :=
  ⟨rfl, fun _ => Site.Kept.refl _ _, JobsKept.refl _, List.prefix_append _ _, BitVec.and_self, fun _ => rfl⟩

theorem updateJob_carried (s : State) (id : Nat) (f : Job → Job) (h : ∀ j : Job, Job.Kept j (f j)) :
    Carried s (s.updateJob id f) := by
  refine .of_jobs rfl rfl (JobsKept.map fun j _ => ?_) rfl rfl rfl
  split
  · exact h j
  · exact Job.Kept.refl j

theorem leaveGang_carried (s : State) (id : Nat) : Carried s (s.leaveGang id) := by
  refine .of_jobs rfl rfl (JobsKept.map fun j _ => ?_) rfl rfl rfl
  split <;> exact ⟨rfl, rfl, rfl, rfl, rfl, rfl, rfl, rfl, fun h => h, fun h => h, fun h => h⟩

theorem raise_carried (s : State) (k : EventKind) : Carried s (s.raise k) := by
  refine ⟨raise_setting s k, fun i => by simpa using Site.Kept.refl s.now (s.site i),
    by simpa using JobsKept.refl s.jobs, by simp, ?_, fun l => by unfold State.raise State.lane; split <;> rfl⟩
  unfold State.raise
  split
  · exact BitVec.and_self
  · dsimp only
    ext i h
    simp only [BitVec.getElem_and, BitVec.getElem_or]
    cases s.events.pending[i] <;> simp

theorem setSite_carried (s : State) (i : SiteId) (x : Site) (h : Site.Kept s.now (s.site i) x) : Carried s (s.setSite i x) := by
  refine ⟨rfl, fun k => ?_, JobsKept.refl _, List.prefix_refl _, BitVec.and_self, fun _ => rfl⟩
  rw [State.setSite_site]
  split
  · subst_vars; exact h
  · exact Site.Kept.refl _ _

/-! ### Lanes and job ends -/

theorem siteReady_carried (s : State) (i : SiteId) (x : Site) (h : Site.Kept s.now (s.site i) x) : Carried s (s.siteReady i x) :=
  ((setSite_carried s i x h).trans (raise_carried _ _)).trans (callArbiter_carried _)

theorem releaseSite_carried (s : State) (l : LaneId) : Carried s (s.releaseSite l) := by
  unfold State.releaseSite
  split
  · exact Carried.refl s
  · dsimp only
    split
    · rename_i i _ hm
      exact (setLane_carried s l _ (by rfl)).trans (siteReady_carried _ _ _ (Site.release_kept _ _ hm))
    · exact setLane_carried s l _ (by rfl)

theorem beginStep_carried (s : State) (l : LaneId) (r : RangeId) : Carried s (s.beginStep l r) :=
  (setLane_carried s l _ (by rfl)).trans (setCalRecord_carried _ _ _)

theorem beginCalibration_carried (s : State) (l : LaneId) (b : Bool) : Carried s (s.beginCalibration l b) := by
  unfold State.beginCalibration
  dsimp only
  split
  · exact ((setLane_carried s l _ (by rfl)).trans (setCalRecord_carried _ _ _)).trans (beginStep_carried _ _ _)
  · exact (setLane_carried s l _ (by rfl)).trans (setCalRecord_carried _ _ _)

theorem releaseLane_carried (s : State) (l : LaneId) : Carried s (s.releaseLane l) := by
  unfold State.releaseLane
  dsimp only
  split
  · exact (setLane_carried s l _ (by rfl)).trans (beginCalibration_carried _ _ _)
  · exact ((setLane_carried s l _ (by rfl)).trans (setLane_carried _ _ _ (by rfl))).trans (callArbiter_carried _)

theorem returnBuffer_carried (s : State) (j : Job) : Carried s (s.returnBuffer j) :=
  ((setFree_carried s _).trans (updateJob_carried _ _ _ (by intro _; exact ⟨rfl, rfl, rfl, rfl, rfl, rfl, rfl, rfl, fun h => h, fun h => h, fun h => h⟩))).trans (callArbiterIf_carried _ _)

theorem recordEnd_carried (s : State) (id : Nat) (e : EndReason) (r : Result) : Carried s (s.recordEnd id e r) :=
  ((((leaveGang_carried s id).trans (updateJob_carried _ _ _ (by intro _; exact ⟨rfl, rfl, rfl, rfl, rfl, rfl, rfl, rfl, fun h => h, fun h => h, fun h => h⟩))).trans (addResult_carried _ _)).trans
    (raise_carried _ _)).trans (callArbiter_carried _)

theorem endRecord_carried (s : State) (e : EndReason) (j : Job) : Carried s (s.endRecord e j) :=
  (returnBuffer_carried s j).trans (recordEnd_carried _ _ _ _)

theorem endTerminal_carried (e : EndReason) (s : State) (id : Nat) : Carried s (s.endTerminal e id) := by
  unfold State.endTerminal
  split
  · exact Carried.refl s
  · split
    · exact Carried.refl s
    · split
      · exact endRecord_carried _ _ _
      · exact ((releaseSite_carried s _).trans (endRecord_carried _ _ _)).trans (releaseLane_carried _ _)

theorem foldl_carried {α : Type} (f : State → α → State) (h : ∀ s a, Carried s (f s a)) :
    ∀ (xs : List α) (s : State), Carried s (xs.foldl f s)
  | [], s => Carried.refl s
  | x :: xs, s => (h s x).trans (foldl_carried f h xs (f s x))

theorem endJobs_carried (s : State) (e : EndReason) (js : List Job) : Carried s (s.endJobs e js) :=
  foldl_carried _ (fun s id => endTerminal_carried e s id) _ s

/-! ### Acquisition start and end -/

theorem startAcquisition_carried (s : State) (j : Job) (l : LaneId) : Carried s (s.startAcquisition j l) :=
  (updateJob_carried s _ _ (by intro _; exact ⟨rfl, rfl, rfl, rfl, rfl, rfl, rfl, rfl, fun h => h, fun h => h, fun h => h⟩)).trans (setLane_carried _ _ _ (by rfl))

theorem startGangs_carried (s : State) : Carried s s.startGangs :=
  foldl_carried _ (fun s j => by
    split
    · exact startAcquisition_carried s j _
    · exact Carried.refl s) _ s

theorem endAcquisition_carried (s : State) (l : LaneId) (j : Job) (a : Acquisition) (e : EndReason) (d : Nat) :
    Carried s (s.endAcquisition l j a e d) :=
  ((setLane_carried s l _ (by rfl)).trans (updateJob_carried _ _ _ (by intro _; exact ⟨rfl, rfl, rfl, rfl, rfl, rfl, rfl, rfl, fun h => h, fun h => h, fun h => h⟩))).trans (releaseSite_carried _ _)

/-! ### The arbiter -/

theorem assignOne_carried (s : State) (j : Job) (l : LaneId) (h : (s.site j.site).state.selectable = true) :
    Carried s (s.assignOne j l) :=
  (((setSite_carried s _ _ (Site.connect_kept _ _ h)).trans (updateJob_carried _ _ _ (by
      intro _
      exact ⟨rfl, rfl, rfl, rfl, rfl, rfl, rfl, rfl, fun hk => by simp [hk], fun h => h, fun h => h⟩))).trans
    (setLane_carried _ _ _ (by rfl))).trans (setFree_carried _ _)

theorem assignAll_carried : ∀ (xs : List (Job × LaneId)) (s : State),
    (∀ x ∈ xs, (s.site x.1.site).state.selectable = true) →
    Carried s (xs.foldl (fun s x => s.assignOne x.1 x.2) s)
  | [], s, _ => Carried.refl s
  | x :: xs, s, h => by
    have h1 := assignOne_carried s x.1 x.2 (h x (List.mem_cons_self ..))
    refine h1.trans (assignAll_carried xs _ fun y hy => ?_)
    exact (h1.sites y.1.site).selectable (h y (List.mem_cons_of_mem _ hy))

theorem mem_insertBySite {j k : Job} : ∀ {c : List Job}, k ∈ insertBySite j c → k = j ∨ k ∈ c
  | [], h => by simpa [insertBySite] using h
  | x :: c, h => by
    unfold insertBySite at h
    split at h
    · simpa using h
    · rcases List.mem_cons.1 h with rfl | h
      · exact .inr (List.mem_cons_self ..)
      · rcases mem_insertBySite h with h | h
        · exact .inl h
        · exact .inr (List.mem_cons_of_mem _ h)

theorem mem_bySite {k : Job} : ∀ {c : List Job}, k ∈ bySite c → k ∈ c
  | [], h => h
  | x :: c, h => by
    rcases mem_insertBySite h with rfl | h
    · exact List.mem_cons_self ..
    · exact List.mem_cons_of_mem _ (mem_bySite h)

theorem assign_carried (s : State) (c : List Job) (h : ∀ j ∈ c, (s.site j.site).state.selectable = true) :
    Carried s (s.assign c) := by
  refine ((assignAll_carried _ s fun x hx => ?_).trans (moveLanes_carried _ _ _)).trans (setHead_carried _ _)
  exact h _ (mem_bySite (List.of_mem_zip hx).1)

theorem serveHead_carried (s : State) (c : List Job) (h : ∀ j ∈ c, (s.site j.site).state.selectable = true) :
    Carried s (s.serveHead c).1 := by
  unfold State.serveHead
  dsimp only
  repeat' split
  · exact assign_carried s c h
  · exact moveLanes_carried s _ _
  · exact (moveLanes_carried s _ _).trans (raise_carried _ _)
  · exact raise_carried s _
  · exact (moveLanes_carried s _ _).trans (raise_carried _ _)

theorem takeHead_carried (s : State) (c : List Job) : Carried s (s.takeHead c) := by
  unfold State.takeHead
  split
  · exact Carried.refl s
  · exact (moveLanes_carried s _ _).trans (setHead_carried _ _)

/-- The sites of a head are READY when it is found (R65). -/
theorem findHead_sites {s : State} {c : List Job} (h : s.findHead = some c) :
    ∀ j ∈ c, (s.site j.site).state = .ready := by
  unfold State.findHead at h
  split at h
  · have := List.find?_some h
    simpa [State.sitesReady] using this
  · simp at h

theorem reconsiderWith_carried : ∀ (fuel : Nat) (s : State), Carried s (State.reconsiderWith fuel s)
  | 0, s => Carried.refl s
  | fuel + 1, s => by
    unfold State.reconsiderWith
    split
    · exact (moveLanes_carried s _ _).trans (setHead_carried _ _)
    · rename_i c hc
      have ht := takeHead_carried s c
      have hs : ∀ j ∈ c, ((s.takeHead c).site j.site).state.selectable = true := fun j hj =>
        (ht.sites j.site).selectable (by rw [findHead_sites hc j hj]; rfl)
      dsimp only
      split
      · exact (ht.trans (endJobs_carried _ _ _)).trans (reconsiderWith_carried fuel _)
      · split
        · exact (ht.trans (serveHead_carried _ c hs)).trans (reconsiderWith_carried fuel _)
        · exact ht.trans (serveHead_carried _ c hs)

theorem arbitrate_carried (s : State) : Carried s s.arbitrate := by
  unfold State.arbitrate
  split
  · exact (reconsiderWith_carried _ s).trans (reconsidered_carried _)
  · exact Carried.refl s

/-! ### The close of an event -/

theorem settlePort_carried (s : State) : Carried s s.settlePort := by
  unfold State.settlePort
  split
  · unfold State.beginFrame
    dsimp only
    repeat' split
    all_goals exact .of_eq rfl rfl rfl rfl rfl fun _ => rfl
  · exact Carried.refl s

/-- What follows an event's own effects is carried. -/
theorem finish_carried (s : State) : Carried s s.finish :=
  ((startGangs_carried s).trans (arbitrate_carried _)).trans (settlePort_carried _)

/-- The close of an event leaves a site that is neither READY nor MEASURING. -/
theorem close_site (s s₀ : State) (i : SiteId) (h : (s.site i).state.selectable = false) :
    (s.close s₀).site i = s.site i := ((finish_carried s).sites i).other h

/-! ### The order of the results -/

theorem perm_insertId (s : State) (id : Nat) : ∀ ids : List Nat, (s.insertId id ids).Perm (id :: ids)
  | [] => List.Perm.refl _
  | k :: ids => by
    unfold State.insertId
    split
    · exact List.Perm.refl _
    · exact ((perm_insertId s id ids).cons k).trans (List.Perm.swap id k ids)

/-- The ids of a list, oldest first, are the ids of the list. -/
theorem perm_idsOldestFirst (s : State) : ∀ ids : List Nat, (s.idsOldestFirst ids).Perm ids
  | [] => List.Perm.refl _
  | id :: ids => (perm_insertId s id (s.idsOldestFirst ids)).trans ((perm_idsOldestFirst s ids).cons id)

theorem sorted_insertId (s : State) (id : Nat) : ∀ ids : List Nat, ids.Pairwise (fun a b => s.idAge b ≤ s.idAge a) →
    (s.insertId id ids).Pairwise fun a b => s.idAge b ≤ s.idAge a
  | [], _ => by simp [State.insertId]
  | k :: ids, h => by
    unfold State.insertId
    obtain ⟨hk, ht⟩ := List.pairwise_cons.1 h
    split
    · rename_i hi
      refine List.pairwise_cons.2 ⟨fun b hb => ?_, h⟩
      rcases List.mem_cons.1 hb with rfl | hb
      · exact hi
      · exact (hk b hb).trans hi
    · rename_i hi
      refine List.pairwise_cons.2 ⟨fun b hb => ?_, sorted_insertId s id ids ht⟩
      rcases List.mem_cons.1 ((perm_insertId s id ids).mem_iff.1 hb) with rfl | hb
      · omega
      · exact hk b hb

/-- Ids, oldest first, fall in age (R149). -/
theorem sorted_idsOldestFirst (s : State) : ∀ ids : List Nat,
    (s.idsOldestFirst ids).Pairwise fun a b => s.idAge b ≤ s.idAge a
  | [] => List.Pairwise.nil
  | id :: ids => sorted_insertId s id _ (sorted_idsOldestFirst s ids)

/-- The order of the results neither adds an id nor drops one. -/
@[simp] theorem mem_orderEnds {s : State} {before : List Nat} {id : Nat} :
    id ∈ (s.orderEnds before).results ↔ id ∈ s.results := by
  simp only [State.orderEnds, List.mem_append, (perm_idsOldestFirst s _).mem_iff, List.mem_filter]
  cases before.contains id <;> simp

/-- Results of which the event appended none stand as they are. -/
theorem orderEnds_of_subset {s : State} {before : List Nat} (h : s.results ⊆ before) : s.orderEnds before = s := by
  have h1 : (s.results.filter fun id => before.contains id) = s.results :=
    List.filter_eq_self.2 fun id hid => by simpa using h hid
  have h2 : (s.results.filter fun id => !before.contains id) = [] :=
    List.filter_eq_nil_iff.2 fun id hid => by simpa using h hid
  simp only [State.orderEnds, h1, h2, State.idsOldestFirst, List.foldr_nil, List.append_nil]

/-- What stood in the result list before the event stays at its head. -/
theorem orderEnds_prefix {s : State} {before r : List Nat} (h : r <+: s.results) (hr : r ⊆ before) :
    r <+: (s.orderEnds before).results := by
  obtain ⟨u, hu⟩ := h
  have : (r.filter fun id => before.contains id) = r := List.filter_eq_self.2 fun id hid => by simpa using hr hid
  refine ⟨(u.filter fun id => before.contains id) ++ s.idsOldestFirst (s.results.filter fun id => !before.contains id), ?_⟩
  rw [State.orderEnds, ← hu]
  simp only [List.filter_append, this, List.append_assoc]

theorem Carried.orderEnds {s t : State} {before : List Nat} (h : Carried s t) (hr : s.results ⊆ before) :
    Carried s (t.orderEnds before) :=
  ⟨h.setting, h.sites, h.jobs, orderEnds_prefix h.results hr, h.events, h.failures⟩

/-- What an event does to a state and the close of the event are carried together, where that state holds no result but those
the event met. -/
theorem Carried.close {s t s₀ : State} (h : Carried s t) (hr : s.results ⊆ s₀.results) : Carried s (t.close s₀) :=
  (h.trans (finish_carried t)).orderEnds hr

/-- The close of an event after which there is no result but those it met is what follows its own effects. -/
theorem close_of_subset {s s₀ : State} (h : s.finish.results ⊆ s₀.results) : s.close s₀ = s.finish := orderEnds_of_subset h

/-- An event that calls for no reconsideration, while no gang can start, ends with the transmitter alone. -/
theorem finish_of_settled (s : State) (hr : s.reconsider = false) (hg : s.startingMembers = []) :
    s.finish = s.settlePort := by
  simp [State.finish, State.startGangs, hg, State.arbitrate, hr]

@[simp] theorem settlePort_results (s : State) : s.settlePort.results = s.results := by
  unfold State.settlePort
  split
  · unfold State.beginFrame; dsimp only; repeat' split
    all_goals rfl
  · rfl

/-- The close of such an event, where it left no result but those it met. -/
theorem close_of_settled {s s₀ : State} (hr : s.reconsider = false) (hg : s.startingMembers = [])
    (h : s.results ⊆ s₀.results) : s.close s₀ = s.settlePort := by
  have hf := finish_of_settled s hr hg
  rw [close_of_subset (by rw [hf, settlePort_results]; exact h), hf]

end Sys2Proof.Machine
end

