-- ==== Sys2Proof/Laws/Line.lean ====
section
/-! SUPPORT. What no block's own effect touches: the line, which is the port but for its due notice, with the count of replies
and the commands that wait. One lemma per operation says it, up to the blocks' carrying out of requests, and up to the arbiter. -/

namespace Sys2Proof.Machine

/-- The line of a state: what only the port itself changes. -/
structure Line where
  link : Link
  badCount : Nat
  queue : List Frame
  inHand : Option InHand
  transmitter : Transmitter
  replies : Nat
  pending : List Instr

/-- The line of a state. -/
def State.line (s : State) : Line :=
  ⟨s.port.link, s.port.badCount, s.port.queue, s.port.inHand, s.port.transmitter, s.replies, s.pending⟩

/-! ### Single-record operations -/

@[simp] theorem setSite_line (s : State) (i : SiteId) (x : Site) : (s.setSite i x).line = s.line := rfl
@[simp] theorem setLane_line (s : State) (l : LaneId) (x : Lane) : (s.setLane l x).line = s.line := rfl
@[simp] theorem updateJob_line (s : State) (id : Nat) (f : Job → Job) : (s.updateJob id f).line = s.line := rfl
@[simp] theorem setCalRecord_line (s : State) (l : LaneId) (r : CalRecord) :
    (s.setCalRecord l r).line = s.line := rfl
@[simp] theorem callArbiter_line (s : State) : s.callArbiter.line = s.line := rfl
@[simp] theorem callArbiterIf_line (s : State) (b : Bool) : (s.callArbiterIf b).line = s.line := by
  cases b <;> rfl
@[simp] theorem leaveGang_line (s : State) (id : Nat) : (s.leaveGang id).line = s.line := rfl
@[simp] theorem openConnection_line (s : State) (i : SiteId) : (s.openConnection i).line = s.line := rfl
@[simp] theorem moveLanes_line (s : State) (p q : LaneState) : (s.moveLanes p q).line = s.line := rfl
@[simp] theorem flagLevel_line (s : State) (i : SiteId) : (s.flagLevel i).line = s.line := rfl
@[simp] theorem flagRunning_line (s : State) (f : JobFlags → JobFlags) : (s.flagRunning f).line = s.line := rfl
@[simp] theorem raise_line (s : State) (k : EventKind) : (s.raise k).line = s.line := by
  unfold State.raise; split <;> rfl

@[simp] theorem setFree_line (s : State) (n : Nat) : (s.setFree n).line = s.line := rfl
@[simp] theorem addResult_line (s : State) (id : Nat) : (s.addResult id).line = s.line := rfl
@[simp] theorem setHead_line (s : State) (h : Option (List Nat)) : (s.setHead h).line = s.line := rfl
@[simp] theorem reconsidered_line (s : State) : s.reconsidered.line = s.line := rfl

/-! ### Sites, calibration begin, lane release, job end -/

@[simp] theorem siteReady_line (s : State) (i : SiteId) (x : Site) : (s.siteReady i x).line = s.line := by
  simp [State.siteReady]

@[simp] theorem siteAlert_line (s : State) (i : SiteId) (x : Site) : (s.siteAlert i x).line = s.line := by
  simp [State.siteAlert]

@[simp] theorem releaseSite_line (s : State) (l : LaneId) : (s.releaseSite l).line = s.line := by
  unfold State.releaseSite
  split
  · rfl
  · dsimp only; split <;> simp

@[simp] theorem beginStep_line (s : State) (l : LaneId) (r : RangeId) : (s.beginStep l r).line = s.line := by
  simp [State.beginStep]

@[simp] theorem beginCalibration_line (s : State) (l : LaneId) (b : Bool) :
    (s.beginCalibration l b).line = s.line := by
  unfold State.beginCalibration; dsimp only; split <;> simp

@[simp] theorem releaseLane_line (s : State) (l : LaneId) : (s.releaseLane l).line = s.line := by
  unfold State.releaseLane; dsimp only; split <;> simp

@[simp] theorem returnBuffer_line (s : State) (j : Job) : (s.returnBuffer j).line = s.line := by
  simp [State.returnBuffer]

@[simp] theorem recordEnd_line (s : State) (id : Nat) (e : EndReason) (r : Result) :
    (s.recordEnd id e r).line = s.line := by
  simp [State.recordEnd]

@[simp] theorem endRecord_line (s : State) (e : EndReason) (j : Job) : (s.endRecord e j).line = s.line := by
  simp [State.endRecord]

@[simp] theorem endTerminal_line (e : EndReason) (s : State) (id : Nat) : (s.endTerminal e id).line = s.line := by
  unfold State.endTerminal
  split
  · rfl
  · split
    · rfl
    · split <;> simp

theorem foldl_line {α : Type} (f : State → α → State) (h : ∀ s a, (f s a).line = s.line) :
    ∀ (xs : List α) (s : State), (xs.foldl f s).line = s.line
  | [], _ => rfl
  | x :: xs, s => by rw [List.foldl_cons, foldl_line f h xs, h]

@[simp] theorem endJobs_line (s : State) (e : EndReason) (js : List Job) : (s.endJobs e js).line = s.line :=
  foldl_line _ (fun s id => endTerminal_line e s id) _ s

/-! ### Acquisition start and end -/

@[simp] theorem startAcquisition_line (s : State) (j : Job) (l : LaneId) :
    (s.startAcquisition j l).line = s.line := by simp [State.startAcquisition]

@[simp] theorem startGangs_line (s : State) : s.startGangs.line = s.line :=
  foldl_line _ (fun s j => by split <;> simp) _ s

@[simp] theorem endAcquisition_line (s : State) (l : LaneId) (j : Job) (a : Acquisition) (e : EndReason) (d : Nat) :
    (s.endAcquisition l j a e d).line = s.line := by simp [State.endAcquisition]

/-! ### The arbiter -/

@[simp] theorem unreserve_line (s : State) : s.unreserve.line = s.line := rfl
@[simp] theorem reserve_line (s : State) : s.reserve.line = s.line := rfl

@[simp] theorem assignOne_line (s : State) (j : Job) (l : LaneId) : (s.assignOne j l).line = s.line := by
  simp [State.assignOne]

@[simp] theorem assign_line (s : State) (c : List Job) : (s.assign c).line = s.line := by
  simp only [State.assign, setHead_line, unreserve_line]
  exact foldl_line (fun (s : State) (x : Job × LaneId) => s.assignOne x.1 x.2) (fun s x => assignOne_line s x.1 x.2) _ s

@[simp] theorem serveHead_line (s : State) (c : List Job) : (s.serveHead c).1.line = s.line := by
  unfold State.serveHead
  dsimp only
  repeat' split
  all_goals simp

@[simp] theorem takeHead_line (s : State) (c : List Job) : (s.takeHead c).line = s.line := by
  unfold State.takeHead; split <;> simp

@[simp] theorem reconsiderWith_line : ∀ (fuel : Nat) (s : State), (State.reconsiderWith fuel s).line = s.line
  | 0, _ => rfl
  | fuel + 1, s => by
    unfold State.reconsiderWith
    split
    · simp
    · dsimp only
      split
      · rw [reconsiderWith_line fuel]; simp
      · split
        · rw [reconsiderWith_line fuel]; simp
        · simp

@[simp] theorem arbitrate_line (s : State) : s.arbitrate.line = s.line := by
  unfold State.arbitrate; split <;> simp

/-! ### Requests -/

@[simp] theorem refuseWith_fst (st : Status) (s : State) : (refuseWith st s).1 = s := rfl
@[simp] theorem refuseWith_snd (st : Status) (s : State) : (refuseWith st s).2 = Reply.refuse st := rfl
@[simp] theorem accept_fst (s : State) : (accept s).1 = s := rfl
@[simp] theorem accept_snd (s : State) : (accept s).2 = Reply.ok [] := rfl

@[simp] theorem siteSet_line (s : State) (f : SiteSetFields) : (s.siteSet f).1.line = s.line := by
  unfold State.siteSet; split <;> rfl

@[simp] theorem powerOn_line (s : State) (i : SiteId) : (s.powerOn i).1.line = s.line := by
  unfold State.powerOn; dsimp only; repeat' split
  all_goals rfl

@[simp] theorem powerOff_line (s : State) (i : SiteId) : (s.powerOff i).1.line = s.line := by
  unfold State.powerOff; dsimp only; split <;> simp

@[simp] theorem sitePower_line (s : State) (a b : Byte) : (s.sitePower a b).1.line = s.line := by
  unfold State.sitePower; split <;> simp

@[simp] theorem siteClear_line (s : State) (a : Byte) : (s.siteClear a).1.line = s.line := by
  unfold State.siteClear; split
  · rfl
  · dsimp only; split <;> simp

@[simp] theorem siteRead_line (s : State) (a : Byte) : (s.siteRead a).1.line = s.line := by
  unfold State.siteRead; split <;> rfl

@[simp] theorem report_line (s : State) (t : Timebase) (f : JobFlags → JobFlags) : (s.report t f).line = s.line := by
  simp only [State.report, callArbiterIf_line, raise_line]; rfl

@[simp] theorem setReference_line (s : State) (m : RefMode) (f : RefFreq) (w : RefWindow) :
    (s.setReference m f w).line = s.line := by
  unfold State.setReference; dsimp only; repeat' split
  all_goals first | exact report_line _ _ _ | rfl

@[simp] theorem refSet_line (s : State) (a b c : Byte) : (s.refSet a b c).1.line = s.line := by
  unfold State.refSet; split <;> simp

@[simp] theorem planPut_line (s : State) (f : PlanFields) : (s.planPut f).1.line = s.line := by
  unfold State.planPut; repeat' split
  all_goals rfl

@[simp] theorem planGet_line (s : State) (a : Byte) : (s.planGet a).1.line = s.line := by
  unfold State.planGet; repeat' split
  all_goals rfl

@[simp] theorem planDrop_line (s : State) (a : Byte) : (s.planDrop a).1.line = s.line := by
  unfold State.planDrop; repeat' split
  all_goals rfl

@[simp] theorem maskPut_line (s : State) (f : MaskFields) : (s.maskPut f).1.line = s.line := by
  unfold State.maskPut; repeat' split
  all_goals rfl

@[simp] theorem maskGet_line (s : State) (a : Byte) : (s.maskGet a).1.line = s.line := by
  unfold State.maskGet; repeat' split
  all_goals rfl

@[simp] theorem maskDrop_line (s : State) (a : Byte) : (s.maskDrop a).1.line = s.line := by
  unfold State.maskDrop; repeat' split
  all_goals rfl

@[simp] theorem binmapPut_line (s : State) (v : Vector Byte 9) : (s.binmapPut v).1.line = s.line := by
  unfold State.binmapPut; split <;> rfl

@[simp] theorem submit_line (s : State) (i : SiteId) (p : PlanId) (g : Fin 16) (u : Priority) :
    (s.submit i p g u).1.line = s.line := by
  unfold State.submit; dsimp only; split <;> simp <;> rfl

@[simp] theorem jobSubmit_line (s : State) (a b c d : Byte) : (s.jobSubmit a b c d).1.line = s.line := by
  unfold State.jobSubmit; repeat' split
  all_goals simp

@[simp] theorem jobRead_line (s : State) (a : Half) : (s.jobRead a).1.line = s.line := by
  unfold State.jobRead; split <;> rfl

@[simp] theorem abortWhere_line (s : State) (p : Job → Bool) : (s.abortWhere p).1.line = s.line := by
  simp [State.abortWhere]

@[simp] theorem abortJob_line (s : State) (n : Nat) : (s.abortJob n).1.line = s.line := by
  unfold State.abortJob; repeat' split
  all_goals simp

@[simp] theorem jobAbort_line (s : State) (a : Byte) (v : Half) : (s.jobAbort a v).1.line = s.line := by
  unfold State.jobAbort; dsimp only; repeat' split
  all_goals simp

@[simp] theorem groupRelease_line (s : State) (a : Byte) : (s.groupRelease a).1.line = s.line := by
  unfold State.groupRelease; repeat' split
  all_goals rfl

@[simp] theorem snapTake_line (s : State) (a : Byte) (v : Half) : (s.snapTake a v).1.line = s.line := by
  unfold State.snapTake; repeat' split
  all_goals rfl

@[simp] theorem snapRead_line (s : State) (a : Byte) (v : Half) (b : Byte) : (s.snapRead a v b).1.line = s.line := by
  unfold State.snapRead; repeat' split
  all_goals rfl

@[simp] theorem snapHold_line (s : State) (a : Byte) : (s.snapHold a).1.line = s.line := by
  unfold State.snapHold; split <;> rfl

@[simp] theorem resultRead_line (s : State) (v : Half) (b : Byte) : (s.resultRead v b).1.line = s.line := by
  unfold State.resultRead; repeat' split
  all_goals rfl

@[simp] theorem resultRelease_line (s : State) (v : Half) : (s.resultRelease v).1.line = s.line := by
  unfold State.resultRelease; repeat' split
  all_goals simp [State.dropJob]; try rfl

@[simp] theorem claim_line (s : State) (l : LaneId) (k : CalKind) (r : Vector Bool 4) : (s.claim l k r).1.line = s.line := by
  unfold State.claim; dsimp only; repeat' split
  all_goals simp [State.claimLater, State.claimNow]

@[simp] theorem calStart_line (s : State) (f : CalStartFields) : (s.calStart f).1.line = s.line := by
  unfold State.calStart; repeat' split
  all_goals simp

@[simp] theorem endCalibration_line (s : State) (l : LaneId) (o : CalStatus) : (s.endCalibration l o).line = s.line := by
  simp [State.endCalibration]

@[simp] theorem calCancel_line (s : State) (a : Byte) : (s.calCancel a).1.line = s.line := by
  unfold State.calCancel; repeat' split
  all_goals simp [State.cancelPending]

@[simp] theorem calRead_line (s : State) (a : Byte) : (s.calRead a).1.line = s.line := by
  unfold State.calRead; split <;> rfl

@[simp] theorem calStore_line (s : State) : s.calStore.1.line = s.line := by
  unfold State.calStore; split <;> rfl

@[simp] theorem calRevert_line (s : State) (a : Byte) : (s.calRevert a).1.line = s.line := by
  unfold State.calRevert; repeat' split
  all_goals rfl

/-- Carrying out a request leaves the line. -/
@[simp] theorem carryOut_line (s : State) (r : Request) : (s.carryOut r).1.line = s.line := by
  cases r <;> first | rfl | simp [State.carryOut]

/-- Answering a frame leaves the line (R174). -/
@[simp] theorem answer_line (s : State) (f : Frame) : (s.answer f).1.line = s.line := by
  unfold State.answer; split <;> simp

/-! ### The fields of the line after a frame is answered -/

@[simp] theorem answer_link (s : State) (f : Frame) : (s.answer f).1.port.link = s.port.link := congrArg Line.link (answer_line s f)
@[simp] theorem answer_badCount (s : State) (f : Frame) : (s.answer f).1.port.badCount = s.port.badCount := congrArg Line.badCount (answer_line s f)
@[simp] theorem answer_queue (s : State) (f : Frame) : (s.answer f).1.port.queue = s.port.queue := congrArg Line.queue (answer_line s f)
@[simp] theorem answer_inHand (s : State) (f : Frame) : (s.answer f).1.port.inHand = s.port.inHand := congrArg Line.inHand (answer_line s f)
@[simp] theorem answer_transmitter (s : State) (f : Frame) : (s.answer f).1.port.transmitter = s.port.transmitter := congrArg Line.transmitter (answer_line s f)
@[simp] theorem answer_replies (s : State) (f : Frame) : (s.answer f).1.replies = s.replies := congrArg Line.replies (answer_line s f)
@[simp] theorem answer_pending (s : State) (f : Frame) : (s.answer f).1.pending = s.pending := congrArg Line.pending (answer_line s f)

end Sys2Proof.Machine
end

