-- ==== Sys2Proof/Laws/Requests.lean ====
section
/-! SUPPORT. What a request that is taken at once does: the carrying out of the request, with its reply in hand, and the close
of the event. -/

namespace Sys2Proof.Machine

/-- A state whose port has met a good frame and taken it: no bad frame counted, none waiting (R172, R174). -/
def State.cleared (s : State) : State := { s with port := { s.port with badCount := 0, queue := [] } }

/-- A state with a reply in hand, counted (R174). -/
def State.holding (s : State) (kind tag : Byte) (r : Reply) : State :=
  { s with
    port := { s.port with inHand := some ⟨kind, tag, r.payload s.replies⟩ }
    replies := s.replies + 1 }

@[simp] theorem cleared_behindPort (s : State) : s.cleared.behindPort = s.behindPort := rfl
@[simp] theorem cleared_replies (s : State) : s.cleared.replies = s.replies := rfl
@[simp] theorem holding_behindPort (s : State) (k t : Byte) (r : Reply) : (s.holding k t r).behindPort = s.behindPort := rfl
@[simp] theorem holding_inHand (s : State) (k t : Byte) (r : Reply) :
    (s.holding k t r).port.inHand = some ⟨k, t, r.payload s.replies⟩ := rfl
@[simp] theorem holding_results (s : State) (k t : Byte) (r : Reply) : (s.holding k t r).results = s.results := rfl
@[simp] theorem holding_reconsider (s : State) (k t : Byte) (r : Reply) : (s.holding k t r).reconsider = s.reconsider := rfl
@[simp] theorem holding_startingMembers (s : State) (k t : Byte) (r : Reply) :
    (s.holding k t r).startingMembers = s.startingMembers := rfl

/-- The take of a frame: its answer's effects, with the reply in hand (R174). -/
theorem take_eq (s : State) (f : Frame) : s.take f = (s.answer f).1.holding f.kind f.tag (s.answer f).2 := rfl

/-- A good frame at a listening port is taken at once (R172, R174). -/
theorem arrive_of_listens {s : State} {rate : Rate} (h : s.listens rate) (f : Frame) :
    s.arrive rate f = s.cleared.take f := by
  obtain ⟨hl, hi, hq⟩ := h
  simp [State.arrive, hl, State.offer, State.takeNext, joinQueue, hi, hq, Config.queuePlaces, State.cleared]

/-- A frame that spells a request is answered by carrying it out (R174). -/
theorem answer_of_decode {f : Frame} {r : Request} (h : decodeFrame f = .request r) (s : State) :
    s.answer f = s.carryOut r := by simp [State.answer, h]

/-- A request at a listening port (R174). -/
theorem request_of_listens {s : State} {h : Header} {r : Request} (hd : decodeFrame (r.frame h.tag) = .request r)
    (hl : s.listens h.rate) :
    s.request h r = ((s.cleared.carryOut r).1.holding r.kind h.tag (s.cleared.carryOut r).2).close s := by
  rw [State.request, arrive_of_listens hl, take_eq, answer_of_decode hd]; rfl

/-! ### The close of an event, seen from behind the port -/

@[simp] theorem beginFrame_behindPort (s : State) (r : Rate) : (s.beginFrame r).behindPort = s.behindPort := by
  unfold State.beginFrame
  dsimp only
  repeat' split
  all_goals rfl

@[simp] theorem settlePort_behindPort (s : State) : s.settlePort.behindPort = s.behindPort := by
  unfold State.settlePort; split <;> simp

/-- The close of an event that calls nothing and ends no job changes only the port. -/
theorem close_behindPort {s s₀ : State} (hr : s.reconsider = false) (hg : s.startingMembers = [])
    (h : s.results ⊆ s₀.results) : (s.close s₀).behindPort = s.behindPort := by
  rw [close_of_settled hr hg h, settlePort_behindPort]

/-- A settled state is one that the close of an event leaves as it is. -/
theorem close_settled {s s₀ : State} (h : s.settled) (hs : s.results ⊆ s₀.results) : s.close s₀ = s := by
  obtain ⟨hr, hg, hp⟩ := h
  rw [close_of_settled hr hg hs]
  unfold State.settlePort
  split
  · rename_i r hl ht
    obtain ⟨hi, hn⟩ := hp (by simp [Port.isLocked, hl]) ht
    simp [State.beginFrame, hi, hn]
  · rfl

/-- What carries behind the port. -/
theorem Carried.behindPort {s t : State} (h : Carried s t) : Carried s.behindPort t.behindPort where
  setting := by
    have := h.setting
    simp only [State.setting, Setting.mk.injEq] at this
    simp only [State.setting, State.behindPort, Setting.mk.injEq]
    tauto
  sites := h.sites
  jobs := h.jobs
  results := h.results
  events := h.events
  failures := h.failures

/-- A request at a listening port answers a next state with its reply in hand. Behind the port, a state that the request's own
effect carries, and that holds no result but those the request met, is carried through the close of the event. -/
theorem request_answered {s u : State} {h : Header} {r : Request} (hd : decodeFrame (r.frame h.tag) = .request r)
    (hl : s.listens h.rate) (hu : Carried u (s.cleared.carryOut r).1) (hs : u.results ⊆ s.results) :
    (s.request h r).answered r.kind h.tag (s.cleared.carryOut r).2 s.replies ∧
      Carried u.behindPort (s.request h r).behindPort := by
  rw [request_of_listens hd hl]
  refine ⟨?_, ?_⟩
  · have : (s.cleared.carryOut r).1.replies = s.replies := congrArg Line.replies (carryOut_line s.cleared r)
    simp [State.answered, this]
  · have hf := (finish_carried ((s.cleared.carryOut r).1.holding r.kind h.tag (s.cleared.carryOut r).2)).behindPort
    rw [holding_behindPort] at hf
    have h := hu.behindPort.trans hf
    exact ⟨h.setting, h.sites, h.jobs, orderEnds_prefix h.results hs, h.events, h.failures⟩

/-- A request that calls nothing, in a settled state, leaves behind the port its own effect alone. -/
theorem request_quiet {s : State} {h : Header} {r : Request} (hd : decodeFrame (r.frame h.tag) = .request r)
    (hl : s.listens h.rate) (hr : (s.cleared.carryOut r).1.reconsider = false)
    (hg : (s.cleared.carryOut r).1.startingMembers = []) (hs : (s.cleared.carryOut r).1.results ⊆ s.results) :
    (s.request h r).behindPort = (s.cleared.carryOut r).1.behindPort := by
  rw [request_of_listens hd hl, close_behindPort (by simpa using hr) (by simpa using hg) (by simpa using hs), holding_behindPort]

end Sys2Proof.Machine
end

