-- ==== Sys2Proof/Laws/Jobs.lean ====
section
/-! SUPPORT. Which job records and which lanes the close of an event can reach: records in QUEUED and GANG_WAIT, lanes in IDLE
and RESERVED, and the lanes of waiting gang members. Every other record and lane stands. -/

namespace Sys2Proof.Machine

/-! ### Records out of reach -/

/-- Every record whose id is not in a set stands, but for its gang. -/
def Reaches (X : Nat → Prop) (s t : State) : Prop :=
  ∀ k ∈ s.jobs, ¬X k.id → ∃ k' ∈ t.jobs, ∃ g, k' = { k with gang := g }

theorem Reaches.of_jobs {X : Nat → Prop} {s t : State} (h : t.jobs = s.jobs) : Reaches X s t :=
  fun k hk _ => ⟨k, by rw [h]; exact hk, k.gang, rfl⟩

theorem Reaches.refl (X : Nat → Prop) (s : State) : Reaches X s s := .of_jobs rfl

theorem Reaches.trans {X : Nat → Prop} {s t u : State} (h : Reaches X s t) (g : Reaches X t u) : Reaches X s u := by
  intro k hk hx
  obtain ⟨k', hk', a, rfl⟩ := h k hk hx
  obtain ⟨k'', hk'', b, rfl⟩ := g _ hk' hx
  exact ⟨_, hk'', b, rfl⟩

theorem Reaches.mono {X Y : Nat → Prop} {s t : State} (h : Reaches X s t) (hxy : ∀ n, X n → Y n) : Reaches Y s t :=
  fun k hk hx => h k hk fun hn => hx (hxy _ hn)

theorem updateJob_reaches (s : State) (id : Nat) (f : Job → Job) : Reaches (· = id) s (s.updateJob id f) := by
  intro k hk hx
  refine ⟨k, ?_, k.gang, rfl⟩
  simp only [State.updateJob, List.mem_map]
  exact ⟨k, hk, by simp [show k.id ≠ id from hx]⟩

theorem leaveGang_reaches (s : State) (id : Nat) : Reaches (· = id) s (s.leaveGang id) := by
  intro k hk hx
  refine ⟨{ k with gang := k.gang.map fun g => g.filter (· != id) }, ?_, _, rfl⟩
  simp only [State.leaveGang, List.mem_map]
  exact ⟨k, hk, by simp [show k.id ≠ id from hx]⟩

theorem foldl_reaches {α : Type} {X : Nat → Prop} (f : State → α → State) :
    ∀ (xs : List α) (s : State), (∀ a ∈ xs, ∀ s, Reaches X s (f s a)) → Reaches X s (xs.foldl f s)
  | [], s, _ => .refl X s
  | x :: xs, s, h =>
    (h x (List.mem_cons_self ..) s).trans
      (foldl_reaches f xs _ fun a ha => h a (List.mem_cons_of_mem _ ha))

/-! ### Operations that leave the job table -/

theorem setSite_jobs' (s : State) (i : SiteId) (x : Site) : (s.setSite i x).jobs = s.jobs := rfl

@[simp] theorem siteReady_jobs (s : State) (i : SiteId) (x : Site) : (s.siteReady i x).jobs = s.jobs := by
  simp [State.siteReady]

@[simp] theorem callArbiterIf_jobs (s : State) (b : Bool) : (s.callArbiterIf b).jobs = s.jobs := by cases b <;> rfl

@[simp] theorem siteAlert_jobs (s : State) (i : SiteId) (x : Site) : (s.siteAlert i x).jobs = s.jobs := by
  simp [State.siteAlert]

@[simp] theorem releaseSite_jobs (s : State) (l : LaneId) : (s.releaseSite l).jobs = s.jobs := by
  unfold State.releaseSite
  split
  · rfl
  · dsimp only; split <;> simp

@[simp] theorem beginStep_jobs (s : State) (l : LaneId) (r : RangeId) : (s.beginStep l r).jobs = s.jobs := rfl

@[simp] theorem beginCalibration_jobs (s : State) (l : LaneId) (b : Bool) : (s.beginCalibration l b).jobs = s.jobs := by
  unfold State.beginCalibration; dsimp only; split <;> rfl

@[simp] theorem releaseLane_jobs (s : State) (l : LaneId) : (s.releaseLane l).jobs = s.jobs := by
  unfold State.releaseLane; dsimp only; split <;> simp

@[simp] theorem moveLanes_jobs (s : State) (p q : LaneState) : (s.moveLanes p q).jobs = s.jobs := rfl

@[simp] theorem takeHead_jobs (s : State) (c : List Job) : (s.takeHead c).jobs = s.jobs := by
  unfold State.takeHead; split <;> rfl

@[simp] theorem settlePort_jobs (s : State) : s.settlePort.jobs = s.jobs := by
  unfold State.settlePort
  split
  · unfold State.beginFrame; dsimp only; repeat' split
    all_goals rfl
  · rfl

/-! ### Job ends -/

theorem returnBuffer_reaches (s : State) (j : Job) : Reaches (· = j.id) s (s.returnBuffer j) := by
  refine (Reaches.of_jobs (t := s.setFree (s.freeSegments + j.bufferSize)) rfl).trans
    ((updateJob_reaches _ j.id fun j => { j with buffer := none }).trans (.of_jobs ?_))
  simp [State.returnBuffer]

theorem recordEnd_reaches (s : State) (id : Nat) (e : EndReason) (r : Result) :
    Reaches (· = id) s (s.recordEnd id e r) :=
  (leaveGang_reaches s id).trans ((updateJob_reaches _ id _).trans (.of_jobs (by
    unfold State.recordEnd; rw [State.callArbiter_jobs, State.raise_jobs]; rfl)))

/-- The record a job id names carries that id. -/
theorem job?_id {s : State} {id : Nat} {j : Job} (h : s.job? id = some j) : j.id = id := by
  simpa using List.find?_some h

theorem job?_mem {s : State} {id : Nat} {j : Job} (h : s.job? id = some j) : j ∈ s.jobs := List.mem_of_find?_eq_some h

theorem endRecord_reaches (s : State) (e : EndReason) (j : Job) : Reaches (· = j.id) s (s.endRecord e j) :=
  (returnBuffer_reaches s j).trans (recordEnd_reaches _ _ _ _)

theorem endTerminal_reaches (e : EndReason) (s : State) (id : Nat) : Reaches (· = id) s (s.endTerminal e id) := by
  unfold State.endTerminal
  split
  · exact .refl _ s
  · rename_i j hj
    have := job?_id hj
    subst this
    split
    · exact .refl _ s
    · split
      · exact endRecord_reaches s e j
      · exact (Reaches.of_jobs (releaseSite_jobs s _)).trans
          ((endRecord_reaches (s.releaseSite _) e j).trans (.of_jobs (releaseLane_jobs _ _)))

/-- Ending jobs reaches the records of those jobs. -/
theorem endJobs_reaches (s : State) (e : EndReason) (js : List Job) :
    Reaches (fun n => ∃ j ∈ s.oldestFirst js, j.id = n) s (s.endJobs e js) :=
  foldl_reaches _ _ s fun id hid s => (endTerminal_reaches e s id).mono fun n hn => by
    obtain ⟨j, hj, rfl⟩ := List.mem_map.1 hid
    exact ⟨j, hj, hn.symm⟩

theorem mem_insertByAge {s : State} {j k : Job} : ∀ {c : List Job}, k ∈ s.insertByAge j c ↔ k = j ∨ k ∈ c
  | [] => by simp [State.insertByAge]
  | x :: c => by
    unfold State.insertByAge
    split
    · simp
    · simp only [List.mem_cons, mem_insertByAge (c := c)]; tauto

theorem mem_oldestFirst {s : State} {k : Job} : ∀ {c : List Job}, k ∈ s.oldestFirst c ↔ k ∈ c
  | [] => by simp [State.oldestFirst]
  | x :: c => by
    show k ∈ s.insertByAge x (s.oldestFirst c) ↔ _
    rw [mem_insertByAge, mem_oldestFirst (c := c), List.mem_cons]

/-! ### States -/

/-- Every record of the second state comes from one of the first with its id; and it is QUEUED only if that one was. -/
def NoNewQueued (s t : State) : Prop :=
  ∀ k ∈ t.jobs, k.state = .queued → ∃ j ∈ s.jobs, j.id = k.id ∧ j.state = .queued

theorem NoNewQueued.refl (s : State) : NoNewQueued s s := fun k hk h => ⟨k, hk, rfl, h⟩
theorem NoNewQueued.of_jobs {s t : State} (h : t.jobs = s.jobs) : NoNewQueued s t := fun k hk hq =>
  ⟨k, by rw [← h]; exact hk, rfl, hq⟩
theorem NoNewQueued.trans {s t u : State} (h : NoNewQueued s t) (g : NoNewQueued t u) : NoNewQueued s u := by
  intro k hk hq
  obtain ⟨j, hj, hi, hjq⟩ := g k hk hq
  obtain ⟨m, hm, hmi, hmq⟩ := h j hj hjq
  exact ⟨m, hm, hmi.trans hi, hmq⟩

theorem updateJob_noNewQueued (s : State) (id : Nat) (f : Job → Job) (hi : ∀ j : Job, (f j).id = j.id)
    (hq : ∀ j : Job, (f j).state = .queued → j.state = .queued) : NoNewQueued s (s.updateJob id f) := by
  intro k hk h
  obtain ⟨j, hj, rfl⟩ := List.mem_map.1 hk
  refine ⟨j, hj, ?_, ?_⟩
  · split <;> simp [hi]
  · split at h
    · exact hq j h
    · exact h

theorem leaveGang_noNewQueued (s : State) (id : Nat) : NoNewQueued s (s.leaveGang id) := by
  intro k hk h
  obtain ⟨j, hj, rfl⟩ := List.mem_map.1 hk
  refine ⟨j, hj, ?_, ?_⟩
  · split <;> rfl
  · split at h <;> exact h

theorem foldl_noNewQueued {α : Type} (f : State → α → State) (h : ∀ s a, NoNewQueued s (f s a)) :
    ∀ (xs : List α) (s : State), NoNewQueued s (xs.foldl f s)
  | [], s => .refl s
  | x :: xs, s => (h s x).trans (foldl_noNewQueued f h xs (f s x))

theorem recordEnd_noNewQueued (s : State) (id : Nat) (e : EndReason) (r : Result) :
    NoNewQueued s (s.recordEnd id e r) := by
  refine (leaveGang_noNewQueued s id).trans ((updateJob_noNewQueued _ id (fun j => { j with
    state := .done, reason := some e, result := some r, lane := none, buffer := none }) (fun _ => rfl) ?_).trans
    (.of_jobs ?_))
  · intro _ h; simp at h
  · unfold State.recordEnd; rw [State.callArbiter_jobs, State.raise_jobs]; rfl

theorem returnBuffer_noNewQueued (s : State) (j : Job) : NoNewQueued s (s.returnBuffer j) :=
  (NoNewQueued.of_jobs (t := s.setFree (s.freeSegments + j.bufferSize)) rfl).trans
    ((updateJob_noNewQueued _ j.id (fun j => { j with buffer := none }) (fun _ => rfl) fun _ h => h).trans
      (.of_jobs (by simp [State.returnBuffer])))

theorem endRecord_noNewQueued (s : State) (e : EndReason) (j : Job) : NoNewQueued s (s.endRecord e j) :=
  (returnBuffer_noNewQueued s j).trans (recordEnd_noNewQueued _ _ _ _)

theorem endTerminal_noNewQueued (e : EndReason) (s : State) (id : Nat) : NoNewQueued s (s.endTerminal e id) := by
  unfold State.endTerminal
  split
  · exact .refl s
  · split
    · exact .refl s
    · split
      · exact endRecord_noNewQueued s e _
      · exact (NoNewQueued.of_jobs (releaseSite_jobs s _)).trans
          ((endRecord_noNewQueued (s.releaseSite _) e _).trans (.of_jobs (releaseLane_jobs _ _)))

theorem endJobs_noNewQueued (s : State) (e : EndReason) (js : List Job) : NoNewQueued s (s.endJobs e js) :=
  foldl_noNewQueued _ (fun s id => endTerminal_noNewQueued e s id) _ s

/-! ### The common start of gangs -/

theorem startAcquisition_reaches (s : State) (j : Job) (l : LaneId) : Reaches (· = j.id) s (s.startAcquisition j l) :=
  (updateJob_reaches s j.id _).trans (.of_jobs rfl)

/-- The start of gangs reaches records in GANG_WAIT. -/
theorem startGangs_reaches (s : State) :
    Reaches (fun n => ∃ j ∈ s.jobs, j.id = n ∧ j.state = .gangWait) s s.startGangs :=
  foldl_reaches _ _ s fun j hj s' => by
    have hm := List.mem_filter.1 hj
    split
    · refine (startAcquisition_reaches s' j _).mono fun n hn => ⟨j, hm.1, hn.symm, ?_⟩
      have := hm.2
      simp only [Bool.and_eq_true, beq_iff_eq] at this
      exact this.1
    · exact .refl _ _

/-! ### The arbiter -/

/-- The members of a head are QUEUED records (R64, R65). -/
theorem findHead_queued {s : State} {c : List Job} (h : s.findHead = some c) : ∀ j ∈ c, j ∈ s.jobs ∧ j.state = .queued := by
  intro j hj
  unfold State.findHead at h
  split at h
  · have hm := List.mem_of_find?_eq_some h
    simp only [State.candidates, List.mem_append, List.mem_filter, List.mem_map] at hm
    have : ∃ k, k ∈ s.oldestFirst (s.jobs.filter s.leads) ∧ s.candidateOf k = c := by
      rcases hm with ⟨h, _⟩ | ⟨h, _⟩ <;> exact h
    obtain ⟨k, hk, rfl⟩ := this
    obtain ⟨hk, hl⟩ := List.mem_filter.1 (mem_oldestFirst.1 hk)
    simp only [State.leads, Bool.and_eq_true, beq_iff_eq, List.all_eq_true, decide_eq_true_eq] at hl
    refine ⟨?_, (hl.2 j hj).1⟩
    unfold State.candidateOf at hj
    split at hj
    · simp only [List.mem_singleton] at hj; subst hj; exact hk
    · unfold State.gangOf at hj
      split at hj
      · simp at hj
      · exact (List.mem_filter.1 hj).1
  · simp at h

theorem assignOne_reaches (s : State) (j : Job) (l : LaneId) : Reaches (· = j.id) s (s.assignOne j l) :=
  (Reaches.of_jobs (t := s.setSite j.site ((s.site j.site).connect s.now)) rfl).trans
    ((updateJob_reaches _ j.id _).trans (.of_jobs rfl))

theorem assignOne_noNewQueued (s : State) (j : Job) (l : LaneId) : NoNewQueued s (s.assignOne j l) := by
  refine (NoNewQueued.of_jobs (t := s.setSite j.site ((s.site j.site).connect s.now)) rfl).trans
    ((updateJob_noNewQueued _ j.id _ ?_ ?_).trans (.of_jobs rfl))
  · intro _; rfl
  · intro _ h; simp at h

theorem assign_reaches (s : State) (c : List Job) : Reaches (fun n => ∃ j ∈ c, j.id = n) s (s.assign c) := by
  refine (foldl_reaches (fun (s : State) (x : Job × LaneId) => s.assignOne x.1 x.2) _ s fun x hx s' => ?_).trans
    (Reaches.of_jobs rfl)
  exact (assignOne_reaches s' x.1 x.2).mono fun n hn => ⟨x.1, mem_bySite (List.of_mem_zip hx).1, hn.symm⟩

theorem assign_noNewQueued (s : State) (c : List Job) : NoNewQueued s (s.assign c) :=
  (foldl_noNewQueued (fun (s : State) (x : Job × LaneId) => s.assignOne x.1 x.2)
    (fun s x => assignOne_noNewQueued s x.1 x.2) _ s).trans (.of_jobs rfl)

theorem serveHead_jobs (s : State) (c : List Job) :
    Reaches (fun n => ∃ j ∈ c, j.id = n) s (s.serveHead c).1 ∧ NoNewQueued s (s.serveHead c).1 := by
  unfold State.serveHead
  dsimp only
  repeat' split
  · exact ⟨assign_reaches s c, assign_noNewQueued s c⟩
  all_goals exact ⟨.of_jobs (by simp [State.reserve, State.unreserve]), .of_jobs (by simp [State.reserve, State.unreserve])⟩

/-- The arbiter reaches records in QUEUED. -/
theorem reconsiderWith_reaches : ∀ (fuel : Nat) (s : State),
    Reaches (fun n => ∃ j ∈ s.jobs, j.id = n ∧ j.state = .queued) s (State.reconsiderWith fuel s)
  | 0, s => .refl _ s
  | fuel + 1, s => by
    unfold State.reconsiderWith
    split
    · exact .of_jobs rfl
    · rename_i c hc
      have hq := findHead_queued hc
      have step : ∀ t : State, Reaches (fun n => ∃ j ∈ c, j.id = n) s t → NoNewQueued s t →
          Reaches (fun n => ∃ j ∈ s.jobs, j.id = n ∧ j.state = .queued) s (State.reconsiderWith fuel t) := by
        intro t ht hn
        refine (ht.mono fun n => ?_).trans ((reconsiderWith_reaches fuel t).mono fun n => ?_)
        · rintro ⟨j, hj, rfl⟩
          exact ⟨j, (hq j hj).1, rfl, (hq j hj).2⟩
        · rintro ⟨j, hj, rfl, hjq⟩
          obtain ⟨m, hm, hmi, hmq⟩ := hn j hj hjq
          exact ⟨m, hm, hmi, hmq⟩
      have ht : Reaches (fun n => ∃ j ∈ c, j.id = n) s (s.takeHead c) := .of_jobs (by simp)
      have hn : NoNewQueued s (s.takeHead c) := .of_jobs (by simp)
      obtain ⟨hs, hsn⟩ := serveHead_jobs (s.takeHead c) c
      dsimp only
      split
      · refine step _ (ht.trans ((endJobs_reaches _ _ _).mono ?_)) (hn.trans (endJobs_noNewQueued _ _ _))
        rintro n ⟨j, hj, rfl⟩
        exact ⟨j, mem_oldestFirst.1 hj, rfl⟩
      · split
        · exact step _ (ht.trans hs) (hn.trans hsn)
        · refine (ht.trans hs).mono ?_
          rintro n ⟨j, hj, rfl⟩
          exact ⟨j, (hq j hj).1, rfl, (hq j hj).2⟩

theorem arbitrate_reaches (s : State) :
    Reaches (fun n => ∃ j ∈ s.jobs, j.id = n ∧ j.state = .queued) s s.arbitrate := by
  unfold State.arbitrate
  split
  · exact (reconsiderWith_reaches _ s).trans (.of_jobs rfl)
  · exact .refl _ s

/-- In a table of distinct ids a record's id names it alone. -/
theorem State.distinct.unique {s : State} (hd : s.distinct) {j k : Job} (hj : j ∈ s.jobs) (hk : k ∈ s.jobs)
    (h : j.id = k.id) : j = k := List.inj_on_of_nodup_map hd hj hk h

/-- Distinct ids stay distinct over everything that keeps the job table. -/
theorem Carried.distinct {s t : State} (h : Carried s t) (hd : s.distinct) : t.distinct := by
  unfold State.distinct; rw [h.jobs.ids]; exact hd

/-- What follows an event's own effects leaves every record that is neither QUEUED nor in GANG_WAIT, but for its gang. -/
theorem finish_job {s : State} (hd : s.distinct) {k : Job} (hk : k ∈ s.jobs) (hq : k.state ≠ .queued)
    (hg : k.state ≠ .gangWait) : ∃ k' ∈ s.finish.jobs, ∃ g, k' = { k with gang := g } := by
  obtain ⟨k', hk', g, rfl⟩ := startGangs_reaches s k hk (by
    rintro ⟨j, hj, hi, hw⟩
    exact hg (hd.unique hj hk hi ▸ hw))
  have hd' : s.startGangs.distinct := (startGangs_carried s).distinct hd
  obtain ⟨k'', hk'', g', rfl⟩ := arbitrate_reaches s.startGangs _ hk' (by
    rintro ⟨j, hj, hi, hw⟩
    have := hd'.unique hj hk' hi
    subst this
    exact hq hw)
  exact ⟨_, by simpa [State.finish] using hk'', g', rfl⟩

/-- The close of an event leaves every record that is neither QUEUED nor in GANG_WAIT, but for its gang. -/
theorem close_job {s : State} (s₀ : State) (hd : s.distinct) {k : Job} (hk : k ∈ s.jobs) (hq : k.state ≠ .queued)
    (hg : k.state ≠ .gangWait) : ∃ k' ∈ (s.close s₀).jobs, ∃ g, k' = { k with gang := g } := finish_job hd hk hq hg

end Sys2Proof.Machine
end

