-- ==== Sys2Proof/Laws/Ends.lean ====
section
/-! SUPPORT. What a job end leaves (R79), and that the close of an event leaves a finished record and a busy lane. -/

namespace Sys2Proof.Machine

/-! ### Finished records -/

/-- The terminal result of a record rests on the setting and on the record's plan slot alone. -/
theorem terminalResult_of_setting {s t : State} (h : t.setting = s.setting) {j k : Job} (hp : k.plan = j.plan) (v : Verdict) :
    t.terminalResult k v = s.terminalResult j v := by
  have hb : t.binMap = s.binMap := congrArg Setting.binMap h
  have hs : t.plans = s.plans := congrArg Setting.plans h
  simp [State.terminalResult, State.planOf, hb, hs, hp]

/-- The result given to a job that ends without evaluation is its terminal result (R132). -/
theorem resultFor_terminal (s : State) (j : Job) (e : EndReason) :
    s.resultFor j (terminalVerdict e) none = s.terminalResult j (terminalVerdict e) := by cases e <;> rfl

theorem State.ended.of_reaches {X : Nat → Prop} {s t : State} {id : Nat} {e : EndReason} {v : Verdict}
    (h : s.ended id e v) (hr : Reaches X s t) (hc : Carried s t) (hx : ¬X id) : t.ended id e v := by
  obtain ⟨hi, k, hk, rfl, h1, h2, h3, h4, h5⟩ := h
  obtain ⟨k', hk', g, rfl⟩ := hr k hk hx
  exact ⟨hc.results.subset hi, _, hk', rfl, h1, h2, h3, h4, h5.trans (by rw [terminalResult_of_setting hc.setting]; rfl)⟩

/-- The close of an event leaves an ended job. -/
theorem State.ended.close {s : State} {id : Nat} {e : EndReason} {v : Verdict} (h : s.ended id e v)
    (hd : s.distinct) (s₀ : State) : (s.close s₀).ended id e v := by
  obtain ⟨hi, k, hk, rfl, h1, h2, h3, h4, h5⟩ := h
  obtain ⟨k', hk', g, rfl⟩ := close_job s₀ hd hk (by simp [h1]) (by simp [h1])
  refine ⟨mem_orderEnds.2 ((finish_carried s).results.subset hi), _, hk', rfl, h1, h2, h3, h4, h5.trans ?_⟩
  rw [terminalResult_of_setting (close_setting s s₀)]; rfl

theorem recordEnd_ended {s : State} {j : Job} (hj : j ∈ s.jobs) (e : EndReason) :
    (s.recordEnd j.id e (s.resultFor j (terminalVerdict e) none)).ended j.id e (terminalVerdict e) := by
  rw [resultFor_terminal]
  generalize hr' : s.terminalResult j (terminalVerdict e) = r
  have hr : (s.recordEnd j.id e r).results = s.results ++ [j.id] := by
    unfold State.recordEnd; rw [State.callArbiter_results, State.raise_results]; rfl
  have hjobs : (s.recordEnd j.id e r).jobs = ((s.leaveGang j.id).updateJob j.id fun j =>
      { j with state := .done, reason := some e, result := some r, lane := none, buffer := none }).jobs := by
    unfold State.recordEnd; rw [State.callArbiter_jobs, State.raise_jobs]; rfl
  refine ⟨by simp [hr], { j with gang := none, state := .done, reason := some e, result := some r, lane := none,
                                 buffer := none }, ?_, rfl, rfl, rfl, rfl, rfl,
    congrArg some (hr'.symm.trans (by rw [terminalResult_of_setting (recordEnd_setting s j.id e r)]; rfl))⟩
  rw [hjobs]
  exact List.mem_map.2 ⟨{ j with gang := none }, List.mem_map.2 ⟨j, hj, by simp⟩, by simp⟩

/-- The lookup of a record by its id, in a table of distinct ids. -/
theorem State.distinct.job? {s : State} (hd : s.distinct) {j : Job} (hj : j ∈ s.jobs) : s.job? j.id = some j := by
  obtain ⟨k, hk⟩ : ∃ k, s.job? j.id = some k := by
    have : (s.job? j.id).isSome := by
      simp only [State.job?, List.find?_isSome]
      exact ⟨j, hj, by simp⟩
    exact Option.isSome_iff_exists.1 this
  rw [hk, hd.unique hj (job?_mem hk) (job?_id hk).symm]

theorem endRecord_ended {s : State} {j : Job} (hj : j ∈ s.jobs) (e : EndReason) :
    (s.endRecord e j).ended j.id e (terminalVerdict e) := by
  have : { j with buffer := none } ∈ (s.returnBuffer j).jobs := by
    unfold State.returnBuffer
    simp only [callArbiterIf_jobs]
    exact List.mem_map.2 ⟨j, hj, by simp⟩
  exact recordEnd_ended (j := { j with buffer := none }) this e

/-- A job that has neither been evaluated nor ended ends (R79). -/
theorem endTerminal_ended {s : State} (hd : s.distinct) {j : Job} (hj : j ∈ s.jobs) (he : j.state ≠ .evaluating)
    (hn : j.state ≠ .done) (e : EndReason) : (s.endTerminal e j.id).ended j.id e (terminalVerdict e) := by
  unfold State.endTerminal
  simp only [hd.job? hj, he, hn, or_self, if_false]
  split
  · exact endRecord_ended hj e
  · rename_i l _
    refine (endRecord_ended (s := s.releaseSite l) (by simpa using hj) e).of_reaches (X := fun _ => False) (.of_jobs (by simp))
      (releaseLane_carried _ _) (fun h => h)

theorem foldl_ended (e : EndReason) : ∀ (ids : List Nat) (s : State), s.distinct →
    (∀ id ∈ ids, (∃ j ∈ s.jobs, j.id = id ∧ j.state ≠ .evaluating ∧ j.state ≠ .done) ∨
      s.ended id e (terminalVerdict e)) →
    ∀ id, (id ∈ ids ∨ s.ended id e (terminalVerdict e)) →
      (ids.foldl (State.endTerminal e) s).ended id e (terminalVerdict e)
  | [], s, _, _, id, h => by simpa using h
  | x :: ids, s, hd, h, id, hid => by
    have hc := endTerminal_carried e s x
    have keep : ∀ n, s.ended n e (terminalVerdict e) → (s.endTerminal e x).ended n e (terminalVerdict e) := by
      intro n hn
      obtain ⟨hi, k, hk, rfl, h1, h2⟩ := hn
      by_cases hx : k.id = x
      · subst hx
        have : s.endTerminal e k.id = s := by
          unfold State.endTerminal; simp [hd.job? hk, h1]
        rw [this]; exact ⟨hi, k, hk, rfl, h1, h2⟩
      · exact State.ended.of_reaches ⟨hi, k, hk, rfl, h1, h2⟩ (endTerminal_reaches e s x) hc hx
    have hx : (s.endTerminal e x).ended x e (terminalVerdict e) := by
      rcases h x (List.mem_cons_self ..) with ⟨j, hj, rfl, h1, h2⟩ | h1
      · exact endTerminal_ended hd hj h1 h2 e
      · exact keep x h1
    refine foldl_ended e ids _ (hc.distinct hd) (fun n hn => ?_) id ?_
    · rcases h n (List.mem_cons_of_mem _ hn) with ⟨j, hj, rfl, h1, h2⟩ | h1
      · by_cases hjx : j.id = x
        · exact .inr (hjx ▸ hx)
        · obtain ⟨k', hk', g, rfl⟩ := endTerminal_reaches e s x j hj hjx
          exact .inl ⟨_, hk', rfl, h1, h2⟩
      · exact .inr (keep n h1)
    · rcases hid with hid | hid
      · rcases List.mem_cons.1 hid with rfl | hid
        · exact .inr hx
        · exact .inl hid
      · exact .inr (keep id hid)

/-- Jobs ended by one event have ended, each with the terminal verdict of the reason (R79, R132). -/
theorem endJobs_ended {s : State} (hd : s.distinct) (e : EndReason) {js : List Job}
    (h : ∀ j ∈ js, j ∈ s.jobs ∧ j.state ≠ .evaluating ∧ j.state ≠ .done) {j : Job} (hj : j ∈ js) :
    (s.endJobs e js).ended j.id e (terminalVerdict e) := by
  refine foldl_ended e _ s hd (fun id hid => ?_) j.id (.inl (List.mem_map.2 ⟨j, mem_oldestFirst.2 hj, rfl⟩))
  obtain ⟨k, hk, rfl⟩ := List.mem_map.1 hid
  have hk := mem_oldestFirst.1 hk
  exact .inl ⟨k, (h k hk).1, rfl, (h k hk).2⟩

/-! ### Busy lanes -/

/-- The states in which the arbiter takes a lane (R69). -/
def LaneState.open : LaneState → Bool
  | .idle | .reserved => true
  | .tuning | .gangWait | .acquiring | .evaluating | .calibrating | .outOfService => false

@[simp] theorem raise_lane (s : State) (k : EventKind) (l : LaneId) : (s.raise k).lane l = s.lane l := by
  unfold State.raise State.lane; split <;> rfl

theorem moveLanes_lane (s : State) {p q : LaneState} (hp : p.open = true) {l : LaneId}
    (h : (s.lane l).state.open = false) : (s.moveLanes p q).lane l = s.lane l := by
  have : (s.lane l).state ≠ p := by rintro rfl; simp [hp] at h
  simp only [State.lane, Fin.getElem_fin] at this
  simp [State.moveLanes, State.lane, this]

theorem setLane_lane_ne (s : State) {l m : LaneId} (x : Lane) (h : m ≠ l) : (s.setLane m x).lane l = s.lane l := by
  simp [State.setLane, State.lane, Fin.val_inj, h]

/-- A job that waits has no lane to give back: its end leaves the lanes and the calibration unit. -/
theorem endTerminal_lanes {e : EndReason} {s : State} {id : Nat}
    (h : ∀ j, s.job? id = some j → j.state.running = false) : (s.endTerminal e id).lanes = s.lanes ∧ (s.endTerminal e id).cal = s.cal := by
  unfold State.endTerminal
  split
  · exact ⟨rfl, rfl⟩
  · rename_i j hj
    split
    · exact ⟨rfl, rfl⟩
    · have : j.servingLane = none := by simp [Job.servingLane, h j hj]
      simp only [this]
      unfold State.endRecord State.recordEnd State.returnBuffer
      unfold State.callArbiterIf
      split <;> simp

theorem foldl_endTerminal_lanes {e : EndReason} : ∀ (ids : List Nat) (s : State), s.distinct →
    (∀ id ∈ ids, ∀ j ∈ s.jobs, j.id = id → j.state.running = false) →
    (ids.foldl (State.endTerminal e) s).lanes = s.lanes ∧ (ids.foldl (State.endTerminal e) s).cal = s.cal
  | [], _, _, _ => ⟨rfl, rfl⟩
  | x :: ids, s, hd, h => by
    have hx := endTerminal_lanes (e := e) fun j hj => h x (List.mem_cons_self ..) j (job?_mem hj) (job?_id hj)
    have ih := foldl_endTerminal_lanes (e := e) ids _ ((endTerminal_carried e s x).distinct hd) ?_
    · rw [List.foldl_cons, ih.1, ih.2, hx.1, hx.2]
      exact ⟨rfl, rfl⟩
    intro id hid j hj hi
    obtain ⟨k, hk, hki⟩ : ∃ k ∈ s.jobs, k.id = j.id := by
      have := (endTerminal_carried e s x).jobs.ids
      have hm : j.id ∈ s.jobs.map Job.id := this ▸ List.mem_map.2 ⟨j, hj, rfl⟩
      obtain ⟨k, hk, hki⟩ := List.mem_map.1 hm
      exact ⟨k, hk, hki⟩
    by_cases hkx : k.id = x
    · -- the record just ended
      by_cases hs : k.state = .evaluating ∨ k.state = .done
      · have : s.endTerminal e x = s := by
          subst hkx; unfold State.endTerminal; simp [hd.job? hk, hs]
        rw [this] at hj
        have := hd.unique hj hk hki.symm
        subst this
        rcases hs with hs | hs <;> simp [hs, JobState.running]
      · have hs' := not_or.1 hs
        obtain ⟨_, m, hm, hmi, hmd, _⟩ := hkx ▸ endTerminal_ended hd hk hs'.1 hs'.2 e
        have hd' := (endTerminal_carried e s x).distinct hd
        have := hd'.unique hj hm (hki.symm.trans (hkx.trans hmi.symm))
        subst this
        simp [hmd, JobState.running]
    · obtain ⟨k', hk', g, rfl⟩ := endTerminal_reaches e s x k hk hkx
      have hd' := (endTerminal_carried e s x).distinct hd
      have := hd'.unique hj hk' hki.symm
      subst this
      exact h id (List.mem_cons_of_mem _ hid) k hk (hki.trans hi)

theorem assignOne_lane (s : State) (j : Job) {l m : LaneId} (h : m ≠ l) : (s.assignOne j m).lane l = s.lane l := by
  simp only [State.assignOne]
  exact setLane_lane_ne _ _ h

theorem assign_lane (s : State) (c : List Job) {l : LaneId} (h : (s.lane l).state.open = false) :
    (s.assign c).lane l = s.lane l := by
  have key : ∀ (xs : List (Job × LaneId)) (t : State), (∀ x ∈ xs, x.2 ≠ l) →
      (xs.foldl (fun s x => s.assignOne x.1 x.2) t).lane l = t.lane l := by
    intro xs
    induction xs with
    | nil => intro _ _; rfl
    | cons x xs ih =>
      intro t ht
      rw [List.foldl_cons, ih _ fun y hy => ht y (List.mem_cons_of_mem _ hy)]
      exact assignOne_lane t x.1 (ht x (List.mem_cons_self ..))
  have hk := key ((bySite c).zip s.openLanes) s (by
    intro x hx hl
    have := (List.of_mem_zip hx).2
    simp only [State.openLanes, List.mem_filter, Bool.or_eq_true, beq_iff_eq] at this
    rw [hl] at this
    rcases this.2 with h' | h' <;> simp [h', LaneState.open] at h)
  show (State.unreserve _).lane l = _
  rw [State.unreserve, moveLanes_lane _ rfl (by rw [hk]; exact h), hk]

theorem serveHead_lane (s : State) (c : List Job) {l : LaneId} (h : (s.lane l).state.open = false) :
    (s.serveHead c).1.lane l = s.lane l := by
  unfold State.serveHead
  dsimp only
  repeat' split
  · exact assign_lane s c h
  · exact moveLanes_lane s rfl h
  · rw [raise_lane]; exact moveLanes_lane s rfl h
  · exact raise_lane _ _ _
  · rw [raise_lane]; exact moveLanes_lane s rfl h

theorem takeHead_lane (s : State) (c : List Job) {l : LaneId} (h : (s.lane l).state.open = false) :
    (s.takeHead c).lane l = s.lane l := by
  unfold State.takeHead
  split
  · rfl
  · exact moveLanes_lane s rfl h

/-- The arbiter leaves a lane that is neither IDLE nor RESERVED. -/
theorem reconsiderWith_lane : ∀ (fuel : Nat) (s : State), s.distinct → ∀ l : LaneId, (s.lane l).state.open = false →
    (State.reconsiderWith fuel s).lane l = s.lane l
  | 0, _, _, _, _ => rfl
  | fuel + 1, s, hd, l, h => by
    unfold State.reconsiderWith
    split
    · exact moveLanes_lane s rfl h
    · rename_i c hc
      have ht := takeHead_lane s c h
      have hdt : (s.takeHead c).distinct := (takeHead_carried s c).distinct hd
      have hq := findHead_queued hc
      dsimp only
      split
      · have he : ((s.takeHead c).endJobs .noLane c).lanes = (s.takeHead c).lanes := by
          unfold State.endJobs
          refine (foldl_endTerminal_lanes _ _ hdt fun id hid j hj hi => ?_).1
          obtain ⟨k, hk, rfl⟩ := List.mem_map.1 hid
          have hk := hq k (mem_oldestFirst.1 hk)
          have := hd.unique (by simpa using hj) hk.1 hi
          subst this
          simp [hk.2, JobState.running]
        have he' : ((s.takeHead c).endJobs .noLane c).lane l = s.lane l := by
          rw [State.lane, he]; exact ht
        rw [reconsiderWith_lane fuel _ ((endJobs_carried _ _ _).distinct hdt) l (by rw [he']; exact h), he']
      · have hs : ((s.takeHead c).serveHead c).1.lane l = s.lane l := by
          rw [serveHead_lane _ _ (by rw [ht]; exact h), ht]
        split
        · rw [reconsiderWith_lane fuel _ ?_ l (by rw [hs]; exact h), hs]
          refine Carried.distinct (serveHead_carried _ c fun j hj => ?_) hdt
          exact ((takeHead_carried s c).sites j.site).selectable (by rw [findHead_sites hc j hj]; rfl)
        · exact hs

theorem arbitrate_lane {s : State} (hd : s.distinct) {l : LaneId} (h : (s.lane l).state.open = false) :
    s.arbitrate.lane l = s.lane l := by
  unfold State.arbitrate
  split
  · exact reconsiderWith_lane _ s hd l h
  · rfl

theorem startGangs_lane (s : State) {l : LaneId} (h : s.unclaimed l) : s.startGangs.lane l = s.lane l := by
  have key : ∀ (xs : List Job) (t : State), (∀ j ∈ xs, j.lane ≠ some l) →
      (xs.foldl (fun s j => match j.lane with
        | some l => s.startAcquisition j l
        | none => s) t).lane l = t.lane l := by
    intro xs
    induction xs with
    | nil => intro _ _; rfl
    | cons x xs ih =>
      intro t ht
      rw [List.foldl_cons, ih _ fun y hy => ht y (List.mem_cons_of_mem _ hy)]
      split
      · rename_i m hm
        exact setLane_lane_ne _ _ fun hml => ht x (List.mem_cons_self ..) (hml ▸ hm)
      · rfl
  refine key _ s fun j hj => ?_
  obtain ⟨hm, hw⟩ := List.mem_filter.1 hj
  simp only [Bool.and_eq_true, beq_iff_eq] at hw
  exact h j hm hw.1

@[simp] theorem settlePort_lane (s : State) (l : LaneId) : s.settlePort.lane l = s.lane l := by
  unfold State.settlePort
  split
  · unfold State.beginFrame; dsimp only; repeat' split
    all_goals rfl
  · rfl

/-- The close of an event leaves a lane that is neither IDLE nor RESERVED and that no waiting gang member has. -/
theorem close_lane {s : State} (s₀ : State) (hd : s.distinct) {l : LaneId} (hc : s.unclaimed l)
    (h : (s.lane l).state.open = false) : (s.close s₀).lane l = s.lane l := by
  show s.finish.lane l = _
  have hg := startGangs_lane s hc
  rw [State.finish, settlePort_lane, arbitrate_lane ((startGangs_carried s).distinct hd) (by rw [hg]; exact h), hg]

/-! ### The calibration unit -/

@[simp] theorem raise_cal' (s : State) (k : EventKind) : (s.raise k).cal = s.cal := by
  unfold State.raise; split <;> rfl

theorem assign_cal (s : State) (c : List Job) : (s.assign c).cal = s.cal := by
  have key : ∀ (xs : List (Job × LaneId)) (t : State), (xs.foldl (fun s x => s.assignOne x.1 x.2) t).cal = t.cal := by
    intro xs
    induction xs with
    | nil => intro _; rfl
    | cons x xs ih => intro t; rw [List.foldl_cons, ih]; rfl
  exact key _ s

theorem serveHead_cal (s : State) (c : List Job) : (s.serveHead c).1.cal = s.cal := by
  unfold State.serveHead
  dsimp only
  repeat' split
  · exact assign_cal s c
  · rfl
  · rw [raise_cal']; rfl
  · rw [raise_cal']
  · rw [raise_cal']; rfl

theorem takeHead_cal (s : State) (c : List Job) : (s.takeHead c).cal = s.cal := by
  unfold State.takeHead; split <;> rfl

theorem reconsiderWith_cal : ∀ (fuel : Nat) (s : State), s.distinct → (State.reconsiderWith fuel s).cal = s.cal
  | 0, _, _ => rfl
  | fuel + 1, s, hd => by
    unfold State.reconsiderWith
    split
    · rfl
    · rename_i c hc
      have hdt : (s.takeHead c).distinct := (takeHead_carried s c).distinct hd
      have hq := findHead_queued hc
      dsimp only
      split
      · have he : ((s.takeHead c).endJobs .noLane c).cal = (s.takeHead c).cal := by
          unfold State.endJobs
          refine (foldl_endTerminal_lanes _ _ hdt fun id hid j hj hi => ?_).2
          obtain ⟨k, hk, rfl⟩ := List.mem_map.1 hid
          have hk := hq k (mem_oldestFirst.1 hk)
          have := hd.unique (by simpa using hj) hk.1 hi
          subst this
          simp [hk.2, JobState.running]
        rw [reconsiderWith_cal fuel _ ((endJobs_carried _ _ _).distinct hdt), he, takeHead_cal]
      · split
        · rw [reconsiderWith_cal fuel _ ?_, serveHead_cal, takeHead_cal]
          refine Carried.distinct (serveHead_carried _ c fun j hj => ?_) hdt
          exact ((takeHead_carried s c).sites j.site).selectable (by rw [findHead_sites hc j hj]; rfl)
        · rw [serveHead_cal, takeHead_cal]

theorem startGangs_cal (s : State) : s.startGangs.cal = s.cal := by
  have key : ∀ (xs : List Job) (t : State), (xs.foldl (fun s j => match j.lane with
      | some l => s.startAcquisition j l
      | none => s) t).cal = t.cal := by
    intro xs
    induction xs with
    | nil => intro _; rfl
    | cons x xs ih => intro t; rw [List.foldl_cons, ih]; split <;> rfl
  exact key _ s

@[simp] theorem settlePort_cal (s : State) : s.settlePort.cal = s.cal := by
  unfold State.settlePort
  split
  · unfold State.beginFrame; dsimp only; repeat' split
    all_goals rfl
  · rfl

/-- The close of an event leaves the calibration unit. -/
theorem close_cal {s : State} (s₀ : State) (hd : s.distinct) : (s.close s₀).cal = s.cal := by
  show s.finish.cal = _
  unfold State.finish State.arbitrate
  rw [settlePort_cal]
  split
  · show (State.reconsiderWith _ s.startGangs).cal = _
    rw [reconsiderWith_cal _ _ ((startGangs_carried s).distinct hd), startGangs_cal]
  · exact startGangs_cal s

end Sys2Proof.Machine
end

