-- ==== Sys2Proof/Laws/PerInstr.lean ====
section
/-! SUPPORT. The per-command family WellFormed: what every request row's operands are as syntax. -/

namespace Sys2Proof.Laws.WellFormed

open Sys2Proof Sys2Proof.Machine

/-- The payload of PLAN_PUT has the length of R186. -/
theorem planFields_length (f : PlanFields) : f.bytes.length = 98 := by
  simp [PlanFields.bytes, halfBytes, wordBytes, List.length_flatten, Function.comp_def]

/-- The payload of MASK_PUT has the length of R186. -/
theorem maskFields_length (f : MaskFields) : f.bytes.length = 98 := by
  simp [MaskFields.bytes, halfBytes, wordBytes, List.length_flatten, Function.comp_def]

/-- A request row is well-formed, and its request's payload has the length R186 gives the kind. -/
def Statement (i : Instr) : Prop :=
  ∀ h r, requestOfRow i = some (h, r) → i.wf = true ∧ payloadLength r.kind = some r.payload.length

/-- A row that is no request has nothing to meet. -/
theorem of_none {i : Instr} (hi : requestOfRow i = none) : Statement i := by
  intro h r e; rw [hi] at e; cases e

/-- A request row meets the statement if it and its request do. -/
theorem of_some {i : Instr} {h : Header} {r : Request} (hi : requestOfRow i = some (h, r)) (hw : i.wf = true)
    (hr : payloadLength r.kind = some r.payload.length) : Statement i := by
  intro h' r' e; rw [hi] at e; cases e; exact ⟨hw, hr⟩

theorem powerOnReset : Statement (.powerOnReset : Instr) := of_none rfl

theorem goodFrame (rate : Rate) (frame : Frame) : Statement (.goodFrame rate frame : Instr) := of_none rfl

theorem badFrame (rate : Rate) (cause : BadCause) : Statement (.badFrame rate cause : Instr) := of_none rfl

theorem frameGapTimeout (rate : Rate) : Statement (.frameGapTimeout rate : Instr) := of_none rfl

theorem frameTransmitEnd : Statement (.frameTransmitEnd : Instr) := of_none rfl

theorem ident (h : Header) : Statement (.ident h : Instr) := of_some rfl rfl rfl

theorem status (h : Header) : Statement (.status h : Instr) := of_some rfl rfl rfl

theorem eventsMask (h : Header) (mask : Byte) : Statement (.eventsMask h mask : Instr) := of_some rfl rfl rfl

theorem eventsClear (h : Header) (kinds : Byte) : Statement (.eventsClear h kinds : Instr) := of_some rfl rfl rfl

theorem reset (h : Header) : Statement (.reset h : Instr) := of_some rfl rfl rfl

theorem siteSet (h : Header) (fields : SiteSetFields) : Statement (.siteSet h fields : Instr) :=
  of_some rfl rfl (by simp [Request.kind, Request.payload, payloadLength, SiteSetFields.bytes, wordBytes])

theorem sitePowerOn (h : Header) (site : Byte) : Statement (.sitePowerOn h site : Instr) := of_some rfl rfl rfl

theorem sitePowerOff (h : Header) (site : Byte) : Statement (.sitePowerOff h site : Instr) := of_some rfl rfl rfl

theorem siteClear (h : Header) (site : Byte) : Statement (.siteClear h site : Instr) := of_some rfl rfl rfl

theorem siteRead (h : Header) (site : Byte) : Statement (.siteRead h site : Instr) := of_some rfl rfl rfl

theorem supplyInhibitExpiry : Statement (.supplyInhibitExpiry : Instr) := of_none rfl

theorem blankingExpiry (site : SiteId) : Statement (.blankingExpiry site : Instr) := of_none rfl

theorem currentLimitCrossing (site : SiteId) (above : Bool) : Statement (.currentLimitCrossing site above : Instr) :=
  of_none rfl

theorem overcurrent (site : SiteId) : Statement (.overcurrent site : Instr) := of_none rfl

theorem retryExpiry (site : SiteId) : Statement (.retryExpiry site : Instr) := of_none rfl

theorem warmUpExpiry (site : SiteId) : Statement (.warmUpExpiry site : Instr) := of_none rfl

theorem carrierCheckGateEnd (site : SiteId) (frequency : Option Rat) (level : Rat) : Statement (.carrierCheckGateEnd site frequency level : Instr) :=
  of_none rfl

theorem recheckExpiry (site : SiteId) : Statement (.recheckExpiry site : Instr) := of_none rfl

theorem recheckGateEnd (site : SiteId) (frequency : Option Rat) (level : Rat) : Statement (.recheckGateEnd site frequency level : Instr) :=
  of_none rfl

theorem levelReading (site : SiteId) (level : Rat) : Statement (.levelReading site level : Instr) := of_none rfl

theorem refSet (h : Header) (mode frequency window : Byte) : Statement (.refSet h mode frequency window : Instr) :=
  of_some rfl rfl rfl

theorem refRead (h : Header) : Statement (.refRead h : Instr) := of_some rfl rfl rfl

theorem referencePresentEvent : Statement (.referencePresentEvent : Instr) := of_none rfl

theorem referenceAbsentEvent : Statement (.referenceAbsentEvent : Instr) := of_none rfl

theorem windowEnd (offset : Rat) : Statement (.windowEnd offset : Instr) := of_none rfl

theorem holdoverExpiry : Statement (.holdoverExpiry : Instr) := of_none rfl

theorem planPut (h : Header) (fields : PlanFields) : Statement (.planPut h fields : Instr) :=
  of_some rfl rfl (by simp [Request.kind, Request.payload, payloadLength, planFields_length])

theorem planGet (h : Header) (slot : Byte) : Statement (.planGet h slot : Instr) := of_some rfl rfl rfl

theorem planDrop (h : Header) (slot : Byte) : Statement (.planDrop h slot : Instr) := of_some rfl rfl rfl

theorem maskPut (h : Header) (fields : MaskFields) : Statement (.maskPut h fields : Instr) :=
  of_some rfl rfl (by simp [Request.kind, Request.payload, payloadLength, maskFields_length])

theorem maskGet (h : Header) (slot : Byte) : Statement (.maskGet h slot : Instr) := of_some rfl rfl rfl

theorem maskDrop (h : Header) (slot : Byte) : Statement (.maskDrop h slot : Instr) := of_some rfl rfl rfl

theorem binmapPut (h : Header) (bins : Vector Byte 9) : Statement (.binmapPut h bins : Instr) :=
  of_some rfl rfl (by simp [Request.kind, Request.payload, payloadLength])

theorem binmapGet (h : Header) : Statement (.binmapGet h : Instr) := of_some rfl rfl rfl

theorem jobSubmit (h : Header) (site plan group priority : Byte) : Statement (.jobSubmit h site plan group priority : Instr) :=
  of_some rfl rfl rfl

theorem jobRead (h : Header) (job : Half) : Statement (.jobRead h job : Instr) := of_some rfl rfl rfl

theorem jobAbort (h : Header) (selector : Byte) (value : Half) : Statement (.jobAbort h selector value : Instr) :=
  of_some rfl rfl rfl

theorem groupRelease (h : Header) (group : Byte) : Statement (.groupRelease h group : Instr) := of_some rfl rfl rfl

theorem recountGateEnd (lane : LaneId) (frequency : Option Rat) (level : Rat) : Statement (.recountGateEnd lane frequency level : Instr) :=
  of_none rfl

theorem lockEvent (lane : LaneId) : Statement (.lockEvent lane : Instr) := of_none rfl

theorem lockTimerExpiry (lane : LaneId) : Statement (.lockTimerExpiry lane : Instr) := of_none rfl

theorem bandCompletion (lane : LaneId) (band : BandId) (sums : List BinSums) : Statement (.bandCompletion lane band sums : Instr) :=
  of_none rfl

theorem captureDisturbance (lane : LaneId) (cause : Disturbance) : Statement (.captureDisturbance lane cause : Instr) :=
  of_none rfl

theorem snapshotTimerExpiry (lane : LaneId) : Statement (.snapshotTimerExpiry lane : Instr) := of_none rfl

theorem maxDurationExpiry (lane : LaneId) : Statement (.maxDurationExpiry lane : Instr) := of_none rfl

theorem evaluationEnd (lane : LaneId) : Statement (.evaluationEnd lane : Instr) := of_none rfl

theorem snapTake (h : Header) (lane : Byte) (job : Half) : Statement (.snapTake h lane job : Instr) := of_some rfl rfl rfl

theorem snapRead (h : Header) (lane : Byte) (job : Half) (band : Byte) : Statement (.snapRead h lane job band : Instr) :=
  of_some rfl rfl rfl

theorem snapHold (h : Header) (code : Byte) : Statement (.snapHold h code : Instr) := of_some rfl rfl rfl

theorem resultList (h : Header) : Statement (.resultList h : Instr) := of_some rfl rfl rfl

theorem resultRead (h : Header) (job : Half) (part : Byte) : Statement (.resultRead h job part : Instr) := of_some rfl rfl rfl

theorem resultRelease (h : Header) (job : Half) : Statement (.resultRelease h job : Instr) := of_some rfl rfl rfl

theorem calStart (h : Header) (fields : CalStartFields) : Statement (.calStart h fields : Instr) :=
  of_some rfl rfl (by simp [Request.kind, Request.payload, payloadLength])

theorem calChannelLock (lane : LaneId) (channel : ChanId) : Statement (.calChannelLock lane channel : Instr) := of_none rfl

theorem calLockTimerExpiry (lane : LaneId) (channel : ChanId) : Statement (.calLockTimerExpiry lane channel : Instr) :=
  of_none rfl

theorem measurementEvent (lane : LaneId) (gainA gainB : Rat) : Statement (.measurementEvent lane gainA gainB : Instr) :=
  of_none rfl

theorem calCancel (h : Header) (lane : Byte) : Statement (.calCancel h lane : Instr) := of_some rfl rfl rfl

theorem calRead (h : Header) (lane : Byte) : Statement (.calRead h lane : Instr) := of_some rfl rfl rfl

theorem calStore (h : Header) : Statement (.calStore h : Instr) := of_some rfl rfl rfl

theorem storeCompletion : Statement (.storeCompletion : Instr) := of_none rfl

theorem calRevert (h : Header) (selector : Byte) : Statement (.calRevert h selector : Instr) := of_some rfl rfl rfl

theorem referenceInputQualifyChange (signal : Option Rat) : Statement (.referenceInputQualifyChange signal : Instr) :=
  of_none rfl

end Sys2Proof.Laws.WellFormed
end

