-- ==== Sys2Proof/Tests/Slice0.lean ====
section
/-! SUPPORT. Tests: ill-formed operands, words of the line, the manual's worked examples, and for every statement with hypotheses a
state and operands that meet them. -/

namespace Sys2Proof.Tests

open Sys2Proof Sys2Proof.Machine

set_option Elab.async false

/-! ### Small states -/

/-- The header of the test host. -/
def hd : Header := ⟨.r921600, 7⟩

/-- The part after power-on, locked at 921,600 bit/s. -/
def locked : State := { State.reset with port := { Port.reset with link := .locked .r921600 } }

/-- A plan of band 6 alone, with early stop off and snapshots every 100 ms. -/
def plan6 : Plan := { Plan.blank with
  startBand := 5, stopBand := 5, bands := #v[⟨0, 0⟩, ⟨0, 0⟩, ⟨0, 0⟩, ⟨0, 0⟩, ⟨0, 0⟩, ⟨2, 1⟩], maxDuration := 100, snapshot := 100 }

/-- A site record in a state, with what runs there, configured for a 100 MHz carrier. -/
def siteIn (st : SiteState) (tm : SiteTimer) : Site := { Site.reset with
  configured := true, applied := ⟨⟨100000000, 0, 0, 0, 0, 0⟩, 0, 0⟩, state := st, timer := tm }

/-- The locked part with site S3 replaced and every plan slot LOADED. -/
def withSite (x : Site) : State := { locked.setSite 3 x with plans := Vector.replicate 32 (some plan6) }

/-- A job of site S3 with an id, in a state. -/
def jobIn (id : Nat) (st : JobState) : Job := { Job.fresh id id 3 0 0 .normal with state := st }

/-- The locked part with jobs, S3 READY. -/
def withJobs (js : List Job) : State := { withSite (siteIn .ready .stopped) with jobs := js, nextSeq := 10 }

/-- An acquisition on plan6 with one average in progress. -/
def acq6 : Acquisition where
  bands := [⟨5, [], 0, 0, 0, true, false⟩]
  latched := ⟨Coef.default, Coef.default⟩
  nominal := 100000000
  maxTimer := some 100
  snapTimer := some 100
  reason := none

/-- A part whose lane L2 serves job 1 of site S3 at a stage. -/
def serving (st : JobState) (ls : LaneState) (tm : Option TunePhase) (a : Option Acquisition) : State :=
  let j : Job := { jobIn 1 st with lane := some 2, buffer := some (BufferSet.fresh plan6) }
  { (withSite (siteIn .measuring .stopped)).setLane 2 { Lane.reset with
      state := ls, job := some 1, connected := some 3, tune := tm, acquisition := a } with jobs := [j] }

/-- The job of `serving`. -/
def served (st : JobState) : Job := { jobIn 1 st with lane := some 2, buffer := some (BufferSet.fresh plan6) }

/-! ### Ill-formed operands are found (WellFormed) -/

theorem test_wf_long_frame : (Instr.goodFrame .r115200 ⟨1, 0, List.replicate 251 0⟩).wf = false := by decide +kernel
theorem test_wf_check_frequency : (Instr.carrierCheckGateEnd 0 (some 0) 0).wf = false := by decide +kernel
theorem test_wf_recheck_frequency : (Instr.recheckGateEnd 0 (some (-1)) 0).wf = false := by decide +kernel
theorem test_wf_recount_frequency : (Instr.recountGateEnd 0 (some (-5)) 0).wf = false := by decide +kernel
theorem test_wf_reference_frequency : (Instr.referenceInputQualifyChange (some 0)).wf = false := by decide +kernel
theorem test_wf_sums_length : (Instr.bandCompletion 0 5 []).wf = false := by decide +kernel
theorem test_wf_sums_power :
    (Instr.bandCompletion 0 0 (List.replicate 81 ⟨0, 0, -1, 0⟩)).wf = false := by decide +kernel

/-! ### Frames, by hand from R170, R184 to R186 -/

/-- R170: the CRC of the bytes 0x31 to 0x39 is 0x29B1. -/
theorem test_crc_check_value : crc16 [0x31, 0x32, 0x33, 0x34, 0x35, 0x36, 0x37, 0x38, 0x39] = 0x29B1 := by decide +kernel

theorem test_decode_site_set :
    decodeFrame ⟨0x10, 9, [2, 0x00, 0xE1, 0xF5, 0x05, 1, 2, 3, 1, 0xD0, 0x07, 0, 0, 4, 2]⟩ =
      .request (.siteSet ⟨2, 100000000, 1, 2, 3, 1, 2000, 4, 2⟩) := by decide +kernel

theorem test_decode_ref_set : decodeFrame ⟨0x18, 0, [1, 0, 2]⟩ = .request (.refSet 1 0 2) := by decide +kernel

theorem test_decode_mask_put : decodeFrame ⟨0x24, 0, [1, 2, 0xE8, 3, 0, 0, 0x20, 0xD1] ++ List.replicate 90 0⟩ =
    .request (.maskPut ⟨1, 2, (Vector.replicate 16 ⟨0, 0⟩).set 0 ⟨1000, 0xD120⟩⟩) := by decide +kernel

theorem test_decode_job_abort : decodeFrame ⟨0x32, 0, [0, 0x34, 0x12]⟩ = .request (.jobAbort 0 0x1234) := by decide +kernel

theorem test_decode_snap_read : decodeFrame ⟨0x39, 0, [3, 0x02, 0x01, 6]⟩ = .request (.snapRead 3 0x0102 6) := by
  decide +kernel

theorem test_decode_result_read : decodeFrame ⟨0x41, 0, [0x02, 0x01, 8]⟩ = .request (.resultRead 0x0102 8) := by
  decide +kernel

theorem test_decode_cal_start : decodeFrame ⟨0x48, 0, [2, 0, 0, 1, 0, 1]⟩ = .request (.calStart ⟨2, 0, #v[0, 1, 0, 1]⟩) := by
  decide +kernel

/-- PLAN_PUT with a different byte at every offset, to show each field's place and byte order. -/
theorem test_decode_plan_put :
    decodeFrame ⟨0x20, 0, (List.range 98).map (BitVec.ofNat 8)⟩ = .request (.planPut {
      slot := 0, startBand := 1, stopBand := 2
      bands := #v[⟨0x0403, 0x0605⟩, ⟨0x0807, 0x0A09⟩, ⟨0x0C0B, 0x0E0D⟩, ⟨0x100F, 0x1211⟩, ⟨0x1413, 0x1615⟩, ⟨0x1817, 0x1A19⟩]
      maxDuration := 0x1E1D1C1B, earlyStop := 0x1F, snapshot := 0x2120, margin := 0x2322, maskPresent := 0x24, mask := 0x25
      jitterCount := 0x26
      jitter := #v[⟨0x2A292827, 0x2E2D2C2B, 0x3231302F⟩, ⟨0x36353433, 0x3A393837, 0x3E3D3C3B⟩,
        ⟨0x4241403F, 0x46454443, 0x4A494847⟩, ⟨0x4E4D4C4B, 0x5251504F, 0x56555453⟩]
      spurPresent := 0x57, spurThreshold := 0x5958, spurLimit := 0x5B5A, spurReport := 0x5C, tolerancePresent := 0x5D
      tolerance := 0x61605F5E }) := by decide +kernel

/-- A STATUS request on the line: sync, length 0, kind 2, tag 0x55, and the check of the three bytes. -/
theorem test_frame_bytes : (Request.frame .status 0x55).bytes.take 4 = [0xB6, 0, 2, 0x55] ∧
    Decoder.run .hunting (0x11 :: (Request.frame .status 0x55).bytes) = (.hunting, [.good ⟨2, 0x55, []⟩]) := by decide +kernel

/-! ### The manual's worked values -/

/-- R18: +31,000 ppb; chapter 4's +4,210 ppb. -/
theorem test_frequency_errors : frequencyError 100000000 (some 100003100) = some 31000 ∧
    frequencyError 100000000 (some (100000421 : Rat)) = some 4210 := by decide +kernel

/-- R92: D(n) of the table's entries 1, 2, 64, 1000 and 4096. -/
theorem test_averaging_reduction : [1, 2, 64, 1000, 4096].map averagingReduction = [0, 151, 903, 1500, 1806] := by decide +kernel

/-- R91: (−13000 − 13101) / 2 rounds to −13051. -/
theorem test_halving : roundDiv (-13000 + -13101) 2 = -13051 := by decide

/-- R93: three bins of −15000, −15000 and −14000 have the mean −14398. -/
theorem test_point_mean : roundLogSum [-15000, -15000, -14000] 3 = -14398 := by decide +kernel

/-- R94: the worked floor case at n = 256. -/
theorem test_floor_case : finishPoint (-15116) (-13366 - 1204) 300 false = .data (-15116) (-14570) (-14270) true false false := by
  decide

/-- R95: raw M −20500 and F −21000 under a margin of 300. -/
theorem test_clamped_point : finishPoint (-20500) (-21000) 300 false = .data (-20000) (-20000) (-20000) false false true := by
  decide

/-- R107: the lower median of P33 in the example of section 6.1. -/
theorem test_lower_median : lowerMedian [-12500, -14000, -14100, -14050, -14150] = -14050 := by decide

/-- R108: the level of the example's spur in band 4, two bins of 1 kHz. -/
theorem test_spur_level : spurOfRun 3 [⟨17, -13000, 0⟩, ⟨18, -12500, 0⟩] = some ⟨18000, -9381⟩ := by decide +kernel

/-- R156 to R161: a measured +35 cdB is GOOD and written with tag FULL at the step's range alone. -/
theorem test_write_full : (CoefSet.default.writeGood 2 0 1 .full 35)[2][1] = ⟨35, .full⟩ ∧
    (CoefSet.default.writeGood 2 0 1 .full 35)[2][5] = Coef.default := by decide +kernel

/-- R51: the limits of the three-vertex mask and of the tie example. -/
theorem test_mask_limits :
    let mask : List Vertex := [⟨1000, -12000⟩, ⟨100000, -15000⟩, ⟨10000000, -15500⟩]
    [19, 20, 21, 33, 40, 43, 60].map (fun i => vertexLimit i mask) =
      [none, some (-12000), some (-12150), some (-13950), some (-15000), some (-15075), some (-15500)] ∧
    [20, 25].map (fun i => vertexLimit i [⟨100, -10000⟩, ⟨10000, -10005⟩]) = [some (-10003), some (-10004)] := by
  decide +kernel

/-- R84, R85: at a 100 MHz carrier the latched entries are those of range 2. -/
theorem test_latched_range : Config.carrierRange 100000000 = 1 ∧ Config.carrierRange 49999999 = 0 ∧
    Config.carrierRange 600000000 = 3 := by decide

/-- R9, R8: a switched-on site has power pending while the supply inhibit runs. -/
theorem test_power_pending :
    (match exec (.sitePowerOn hd 3) (withSite (siteIn .off .stopped)) with
      | .next t => (t.site 3).powerPending
      | _ => false) = true := by decide +kernel

/-- R69: a submitted job at a READY site is TUNING on the lowest lane, and 3 of the segments are out. -/
theorem test_submit_assigns :
    (match exec (.jobSubmit hd 3 0 0 0) (withJobs []) with
      | .next t => some (t.jobs.map Job.state, (t.lane 0).job, (t.site 3).state, t.freeSegments)
      | _ => none) = some ([.tuning], some 1, .measuring, 189) := by decide +kernel

/-- The example of section 4.8: after a lock timer expiry the only job is QUEUED and at the same event TUNING again. -/
theorem test_requeue :
    (match exec (.lockTimerExpiry 2) (serving .tuning .tuning (some .locking) none) with
      | .next t => some (t.jobs.map Job.attempts, t.jobs.map Job.lane, (t.lane 2).tuneFailures)
      | _ => none) = some ([1], [some 0], 1) := by decide +kernel

/-- R169: the bits of 0xB6, and a stop bit that is low. -/
theorem test_byte_bits : byteBits 0xB6 = [false, false, true, true, false, true, true, false, true, true] ∧
    receiveBits [false, false, true, true, false, true, true, false, true, false] = some .framingError := by decide +kernel

/-- Section 6.5: the flat spectrum, and the case with off-grid edges, a 1/f segment and the spur of section 6.1. -/
theorem test_jitter_cases :
    let e (i : Nat) : Int := if i = 30 then -14000 else if i = 31 then -14200 else if i = 32 then -14300 else -14400
    jitterRange ⟨10000, 1000000, 1⟩ (fun _ => -15000) [] 100000000 = (70, 72) ∧
    integratedNoise ⟨10000, 1000000, 1⟩ (fun _ => -15000) [] = -9004 ∧
    jitterRange ⟨12000, 20000, 1⟩ e [] 100000000 = (13, 15) ∧ integratedNoise ⟨12000, 20000, 1⟩ e [] = -10391 ∧
    integratedNoise ⟨12000, 20000, 1⟩ e [⟨18000, -9381⟩] = -9340 := by decide +kernel

/-! ### Witnesses: the hypotheses of each statement, met together -/

theorem witness_StepRunsFrontCommand : ({ locked with pending := [.storeCompletion] }).pending = .storeCompletion :: [] ∧
    State.reset.pending = [] := ⟨rfl, rfl⟩

theorem witness_RequestFramesDecode : (⟨0x77, 0, List.replicate 250 0xB6⟩ : Frame).wf = true := by decide +kernel

theorem witness_RequestRowsAreGoodFrames : requestOfRow (.calRead hd 3) = some (hd, .calRead 3) := rfl

theorem witness_GoodFrameIsTaken : locked.settled ∧ locked.listens .r921600 := by decide +kernel

/-- A port with a request in hand whose reply is being sent, and four frames waiting. -/
def busy (kind : Byte) (queue : List Frame) (bad : Nat) : State :=
  { locked with port := {
      link := .locked .r921600, badCount := bad, queue := queue, inHand := some ⟨kind, 7, [0]⟩, noticeDue := false
      transmitter := .reply .r921600 ⟨kind + 0x80, 7, [0]⟩ } }

/-- A port sending a notice, with a request in hand. -/
def noticing (kind : Byte) (bad : Nat) : State :=
  { locked with port := { (busy kind [] bad).port with transmitter := .notice .r921600 ⟨0x7F, 0, [1, 0, 0, 0, 0]⟩ } }

theorem witness_GoodFrameLocksWaitsOrIsDropped : State.reset.port.link = .search ∧
    (busy 2 (List.replicate 4 ⟨1, 0, []⟩) 3).settled ∧
    (busy 2 (List.replicate 4 ⟨1, 0, []⟩) 3).port.inHand ≠ none ∧ Rate.r115200 ≠ .r921600 := by decide +kernel

theorem witness_UnknownAndMalformedFrames : locked.settled ∧ locked.listens .r921600 ∧ payloadLength 0x06 = none ∧
    0x7F ≤ (0x7F : Byte).toNat ∧ payloadLength 0x03 = some 1 ∧ ([] : List Byte).length ≠ 1 := by decide +kernel

theorem witness_BrokenFramesCountToSearch :
    (State.reset.settled ∧ State.reset.port.link ≠ .locked .r115200) ∧
    ((busy 2 [] 6).settled ∧ (busy 2 [] 6).port.link = .locked .r921600 ∧ (busy 2 [] 6).port.badCount < 7) ∧
    (busy 2 [] 7).settled ∧ (busy 2 [] 7).port.badCount = 7 ∧ (busy 2 [] 7).port.resetInHand = false := by decide +kernel

theorem witness_TransmissionEnds :
    ((busy 2 [⟨1, 0, []⟩] 0).reconsider = false ∧ (busy 2 [⟨1, 0, []⟩] 0).startingMembers = [] ∧
      (busy 2 [⟨1, 0, []⟩] 0).port.replying = true ∧ (busy 2 [⟨1, 0, []⟩] 0).port.resetInHand = false) ∧
    ((noticing 2 0).port.replying = false ∧ (noticing 2 0).port.inHand = some ⟨2, 7, [0]⟩ ∧
      (noticing 2 0).port.transmitter ≠ .idle) ∧
    (busy 2 [] 0).port.replying = true ∧ (busy 2 [] 0).port.queue = [] := by decide +kernel

theorem witness_EventSetsChange : locked.settled ∧ locked.listens hd.rate ∧
    State.reset.events.pending &&& EventKind.result.bit = 0 ∧
    ({ locked with events := ⟨0x01, 0⟩ }).events.pending &&& EventKind.result.bit ≠ 0 := by decide +kernel

theorem witness_ResetTakesEffectAfterReply :
    (locked.settled ∧ locked.listens hd.rate) ∧
    ((busy 5 [] 0).port.inHand = some ⟨0x05, 7, [0]⟩ ∧ (busy 5 [] 0).port.replying = true) ∧
    (noticing 5 7).port.inHand = some ⟨0x05, 7, [0]⟩ ∧ (noticing 5 7).port.replying = false ∧
      (noticing 5 7).port.link = .locked .r921600 ∧ (noticing 5 7).port.badCount = 7 := by decide +kernel

theorem witness_ReadRequestsChangeNothing : requestOfRow (.status hd) = some (hd, .status) ∧ readsOnly .status = true ∧
    locked.settled ∧ locked.listens hd.rate := by decide +kernel

/-- A result of an ended job. -/
def result : Result := ⟨.aborted, .aborted, 8, none, 5, 5, none, none, none, none⟩

/-- A part with a DONE job of id 1, a mask and loaded plans. -/
def finished : State := { withJobs [{ jobIn 1 .done with reason := some .hostAbort, result := some result }] with
  results := [1], masks := Vector.replicate 8 (some [⟨10, -20000⟩, ⟨10000000, -4000⟩]) }

theorem witness_ReplyLengthsAndBytes : finished.port.link = .locked .r921600 ∧
    [Request.ident, .status, .siteRead 15, .refRead, .planGet 31, .maskGet 7, .binmapGet, .jobRead 1, .resultRead 1 0,
      .calRead 3].all (fun r => (finished.carryOut r).2.status == .ok) = true := by decide +kernel

/-- SITE_SET fields at the ends of their ranges. -/
def siteFields (carrier : Word) : SiteSetFields := ⟨15, carrier, 3, 3, 3, 1, 0xFFFFFFFF, 255, 2⟩

theorem witness_SiteSetAppliesOrStages : locked.settled ∧ locked.listens hd.rate ∧ ¬siteSetLegal (siteFields 4999999) ∧
    siteSetLegal (siteFields 5000000) ∧ siteSetLegal (siteFields 1600000000) ∧
    (15 : SiteId).val = (siteFields 5000000).site.toNat ∧ 7 = min (siteFields 5000000).retryLimit.toNat 7 ∧
    600000 = min (siteFields 5000000).warmUp.toNat 600000 / 100 * 100 := by decide +kernel

theorem witness_SitePowerOnByTable : locked.settled ∧ locked.listens hd.rate := witness_GoodFrameIsTaken

theorem witness_SitePowerOffEndsJobs : (serving .acquiring .acquiring none (some acq6)).settled ∧
    (serving .acquiring .acquiring none (some acq6)).listens hd.rate ∧
    (serving .acquiring .acquiring none (some acq6)).distinct := by decide +kernel

theorem witness_SiteClearUnlatches : (withSite (siteIn .faultLatched .stopped)).settled ∧
    (withSite (siteIn .faultLatched .stopped)).listens hd.rate ∧
    ((withSite (siteIn .faultLatched .stopped)).site 3).state = .faultLatched ∧
    ((withSite (siteIn .faultLatched .stopped)).site 4).state ≠ .faultLatched ∧ 15 < (16 : Byte).toNat := by decide +kernel

theorem witness_SiteTimersExpire : locked.settled ∧ locked.inhibit = true ∧
    [siteIn .ramp .blanking, siteIn .warming (.warmUp 5), siteIn .retryWait .retry, siteIn .noCarrier .recheckWait].all
      (fun x => decide (withSite x).settled && (withSite x).site 3 == x) = true := by decide +kernel

theorem witness_CurrentMonitorSwitchesOff :
    let s := serving .acquiring .acquiring none (some acq6)
    let timed := s.setSite 3 { s.site 3 with monitor := ⟨true, true, true⟩ }
    (timed.settled ∧ timed.distinct ∧ (timed.site 3).state.monitored = true ∧ (timed.site 3).monitor.deglitching = true) ∧
    (s.site 3).monitor.deglitching = false ∧ (s.site 4).state.monitored = false := by decide +kernel

theorem witness_GateEndDecidesPresence :
    let first := withSite (siteIn .checking .checkGate)
    let again := withSite (siteIn .noCarrier .recheckGate)
    (first.settled ∧ first.distinct ∧ (first.site 3).timer = .checkGate) ∧
    (again.settled ∧ again.distinct ∧ (again.site 3).timer = .recheckGate ∧ (again.site 3).state = .noCarrier) ∧
    frequencyError 100000000 (some 100050000) ≠ none ∧ (windowMin 0 : Rat) - 100 ≤ 10 * (-30) ∧
    frequencyError 100000000 none = none ∧ 10 * (-31) < (windowMin 0 : Rat) - 100 := by decide +kernel

theorem witness_FrequencyErrorRounds :
    |((100050000 : Rat) / (100000000 : Nat) - 1) * 1000000000| ≤ 500000 ∧
    500000 < |((100050001 : Rat) / (100000000 : Nat) - 1) * 1000000000| := by norm_num [abs_le, lt_abs]

/-- A site with a settled class and a class that has read once. -/
def classed (st : SiteState) (settled qualifying : Option LevelClass) : State :=
  withSite { siteIn st .stopped with settled := settled, qualifying := qualifying, levelFlag := some .within }

theorem witness_LevelReadingClasses :
    [classed .off none none, classed .warming none none, classed .ready (some .within) none,
      classed .checking (some .within) (some .low), classed .measuring (some .within) (some .low),
      classed .ready (some .low) (some .absent)].all (fun s => decide (s.settled ∧ s.distinct)) = true ∧
    ((classed .off none none).site 3).state.supplied = false ∧ ((classed .warming none none).site 3).settled = none ∧
    ((classed .ready (some .within) none).site 3).qualifying ≠ some .low ∧ classify 0 (-201) = .low ∧
    classify 0 (-301) = .absent := by decide +kernel

/-- The locked part with a timebase record and no signal at the reference input. -/
def withBase (mode : RefMode) (d : Discipline) (present : Bool) (good : Nat) : State :=
  { locked with timebase := { Timebase.reset with
      mode := mode, discipline := d, present := present, goodCount := good, windowStart := some 0 } }

/-- R28: 100,000 ppb of 10 MHz are 1 kHz, and the edges qualify. -/
theorem test_reference_qualifies :
    [none, some 9998999, some 9999000, some 10001000, some 10001001].map
      (fun f => ({ Timebase.reset with input := f } : Timebase).qualifies) = [false, false, true, true, false] := by
  decide +kernel

/-- R28: a present event without a qualifying signal is not raised, and changes nothing. -/
theorem test_reference_present_needs_signal :
    exec .referencePresentEvent (withBase .external .free false 0) = .next (withBase .external .free false 0) := rfl

theorem witness_RefSetChangesReference : locked.settled ∧ locked.listens hd.rate ∧ 2 < (3 : Byte).toNat ∧
    1 < (2 : Byte).toNat ∧ locked.timebase.mode = .internal ∧ locked.timebase.frequency = .mhz10 ∧
    locked.timebase.mode ≠ .external := by decide +kernel

theorem witness_ReferenceDetectorEvents :
    [withBase .internal .free true 0, withBase .internal .free false 0, withBase .external .free false 0,
      withBase .external .holdover false 0, withBase .external .acquiring true 2, withBase .external .locked true 3].all
      (fun s => decide s.settled) = true ∧
    (withBase .external .holdover false 0).timebase.discipline = .holdover ∧
    (withBase .external .holdover false 0).timebase.input = none ∧
    (withBase .external .locked true 3).timebase.present = true ∧
    |(10001000 : Rat) - 10000000| ≤ 10000000 / 10000 ∧ ¬|(10001001 : Rat) - 10000000| ≤ 10000000 / 10000 := by decide +kernel

theorem witness_WindowEndsDiscipline :
    [withBase .external .free false 0, withBase .external .acquiring true 1, withBase .external .acquiring true 2,
      withBase .external .locked true 3].all (fun s => decide s.settled) = true ∧
    (clampInt (-100000) 100000 (roundRat 50)).natAbs ≤ 50 ∧ 50 < (clampInt (-100000) 100000 (roundRat 51)).natAbs ∧
    (clampInt (-100000) 100000 (roundRat (-200))).natAbs ≤ 200 ∧
    200 < (clampInt (-100000) 100000 (roundRat (-201))).natAbs := by decide +kernel

/-- plan6 as PLAN_PUT fields for slot 4, with a mask slot and one jitter band. -/
def fields6 (mask : Byte) (fHi : Word) : PlanFields := { plan6.toFields 4 with
  maskPresent := mask, jitterCount := 1, jitter := (Vector.replicate 4 ⟨0, 0, 0⟩).set 0 ⟨2000000, fHi, 300⟩ }

/-- The shape of these fields. -/
def shape6 (mask : Option MaskId) : PlanShape := ⟨5, 5, false, mask, false, false, 1⟩

theorem witness_PlanPutChecksInOrder :
    let s := withJobs [{ jobIn 1 .queued with plan := 7 }]
    s.settled ∧ s.listens hd.rate ∧ 31 < (32 : Byte).toNat ∧ s.useCount 7 ≠ 0 ∧ s.useCount 4 = 0 ∧
    planShapeOf { fields6 0 10000000 with earlyStop := 2 } = none ∧
    planShapeOf (fields6 1 10000000) = some (shape6 (some 0)) ∧ planShapeOf (fields6 0 10000000) = some (shape6 none) ∧
    (jitterBandsOf (fields6 0 10000001) 1).all (jitterBandLegal (shape6 none)) = false ∧
    (jitterBandsOf (fields6 0 10000000) 1).all (jitterBandLegal (shape6 none)) = true ∧
    durationSuffices (storedPlan (fields6 0 10000000) (shape6 none)) = true ∧
    (storedPlan (fields6 1 10000000) (shape6 (some 0))).mask = some 0 ∧ s.masks[(0 : MaskId)] = none := by decide +kernel

theorem witness_PlanFieldsClamped :
    let bare := fields6 0 10000000
    let full := { bare with spurPresent := 1, tolerancePresent := 1 }
    (planShapeOf bare).isSome = true ∧ bare.spurPresent = 0 ∧ bare.tolerancePresent = 0 ∧ (planShapeOf full).isSome = true := by
  decide +kernel

theorem witness_PlanReadBackIsStoredUnclamped : (withJobs []).settled ∧ (withJobs []).listens hd.rate ∧ plan6.sound ∧
    plan6.mask = none ∧ (withJobs []).useCount 4 = 0 := by decide +kernel

theorem witness_DropsByTable : locked.settled ∧ locked.listens hd.rate ∧ 31 < (32 : Byte).toNat ∧ 7 < (8 : Byte).toNat := by
  decide +kernel

/-- MASK_PUT fields for slot 7 with two vertices. -/
def maskFields (limit : Half) : MaskFields :=
  ⟨7, 2, ((Vector.replicate 16 ⟨0, 0⟩).set 0 ⟨10, limit⟩).set 1 ⟨10000000, 0xF060⟩⟩

theorem witness_MaskPutAndBinmapPut :
    let named := { withJobs [jobIn 1 .queued] with plans := Vector.replicate 32 (some { plan6 with mask := some 7 }) }
    (named.settled ∧ named.listens hd.rate ∧ named.maskBusy 7 = true) ∧ (withJobs []).maskBusy 7 = false ∧
    (7 : MaskId).val = (maskFields 0xB1E0).slot.toNat ∧ maskLegal (maskFields 0xB1E0) = true ∧
    maskLegal (maskFields 0xB1DF) = false ∧ 15 < (16 : Byte).toNat := by decide +kernel

theorem witness_JobSubmitChecksInOrder :
    let full := withJobs ((List.range 64).map fun n => jobIn (n + 1) .done)
    let held := withJobs ((List.range 4).map fun n => { jobIn (n + 1) .held with group := 15, site := Fin.ofNat 16 n })
    (full.settled ∧ full.listens hd.rate ∧ 64 ≤ full.jobs.length) ∧ locked.plans[(31 : PlanId)] = none ∧
    ((withSite (siteIn .faultLatched .stopped)).site 3).state = .faultLatched ∧
    (held.settled ∧ held.listens hd.rate ∧ (held.site 3).configured = true ∧ held.plans[(31 : PlanId)] ≠ none ∧
      4 ≤ (held.heldSet 15).length) := by decide +kernel

/-- A part whose start condition fails, with jobs. -/
def unstarted (js : List Job) : State :=
  { withJobs js with nextId := 1, timebase := { Timebase.reset with mode := .external } }

theorem witness_JobSubmitAccepted :
    let s := { withJobs [jobIn 65535 .queued, { jobIn 1 .held with group := 15, site := 4 }] with nextId := 65535 }
    let none' := { withSite (siteIn .noCarrier .recheckWait) with nextId := 1 }
    (s.settled ∧ s.listens hd.rate ∧ s.distinct ∧ s.jobs.length < 64 ∧ 1 ≤ s.nextId ∧ s.nextId ≤ 65535 ∧
      s.plans[(0 : PlanId)] ≠ none ∧ (s.site 3).configured = true ∧ (s.site 3).state = .ready ∧
      (s.heldSet 15).length < 4) ∧
    (none'.settled ∧ none'.distinct ∧ none'.plans[(31 : PlanId)] ≠ none ∧ (none'.site 3).state = .noCarrier) ∧
    (unstarted []).settled ∧ (unstarted []).distinct ∧ (unstarted []).timebase.mode = .external ∧
    (unstarted []).timebase.discipline ≠ .locked := by decide +kernel

theorem witness_JobAbortEndsJobs :
    let s := serving .acquiring .acquiring none (some acq6)
    let e := serving .evaluating .evaluating none (some acq6)
    (s.settled ∧ s.listens hd.rate ∧ s.distinct ∧ served .acquiring ∈ s.jobs) ∧
    (e.settled ∧ e.listens hd.rate ∧ e.distinct ∧ served .evaluating ∈ e.jobs) ∧ 3 < (4 : Byte).toNat := by decide +kernel

theorem witness_GroupReleaseMakesGang :
    let s := unstarted [{ jobIn 1 .held with group := 15 }]
    s.settled ∧ s.listens hd.rate ∧ s.heldSet 15 ≠ [] ∧ s.heldSet 14 = [] ∧ 15 < (16 : Byte).toNat ∧
    s.timebase.mode = .external ∧ s.timebase.discipline ≠ .locked := by decide +kernel

theorem witness_HeadIsFirstReadyCandidate : (withJobs [jobIn 1 .queued]).jobsSound ∧
    (withJobs [jobIn 1 .queued]).findHead = some [jobIn 1 .queued] ∧ locked.jobsSound ∧ locked.findHead = none := by
  decide +kernel

/-- A gang of two QUEUED jobs at S3 and S4, both READY, with the lanes in some states and some segments free. -/
def gang (l0 l1 l2 l3 : LaneState) (free : Nat) : State :=
  let g : Job := { jobIn 1 .queued with gang := some [1, 2] }
  { (withJobs [g, { g with id := 2, seq := 2, site := 4 }]).setSite 4 (siteIn .ready .stopped) with
    reconsider := true, freeSegments := free, head := some [1, 2]
    lanes := #v[{ Lane.reset with state := l0 }, { Lane.reset with state := l1 }, { Lane.reset with state := l2 },
      { Lane.reset with state := l3 }] }

theorem witness_ReconsiderationByTable :
    ({ locked with reconsider := true }.distinct ∧ ({ locked with reconsider := true } : State).findHead = none) ∧
    [gang .outOfService .outOfService .outOfService .idle 192, gang .calibrating .calibrating .calibrating .idle 6,
      gang .calibrating .calibrating .calibrating .idle 5, gang .calibrating .calibrating .reserved .idle 5,
      gang .calibrating .reserved .idle .idle 5, gang .calibrating .reserved .outOfService .idle 6].all
      (fun s => decide (s.reconsider = true ∧ s.distinct ∧ s.findHead = some s.jobs)) = true ∧
    (((gang .calibrating .reserved .outOfService .idle 6).jobs.map Job.site).Nodup) := by decide +kernel

theorem witness_RecountGateEnds :
    let s := serving .tuning .tuning (some .recount) none
    s.settled ∧ s.distinct ∧ (s.lane 2).tune = some .recount ∧ (s.lane 2).connected = some 3 ∧ (s.lane 2).job = some 1 ∧
    (s.site 3).state = .measuring ∧ frequencyError (s.site 3).applied.supply.carrier (some 100000421) = some 4210 ∧
    (windowMin (s.site 3).applied.levelRange : Rat) - 100 ≤ 10 * (-30) ∧
    10 * (-31) < (windowMin (s.site 3).applied.levelRange : Rat) - 100 := by decide +kernel

/-- A gang of two on lanes L2 and L1, the first TUNING with its lock timer running, the second at a stage. -/
def tuningGang (st : JobState) (ls : LaneState) : State :=
  let s := serving .tuning .tuning (some .locking) none
  let g : Job := { served .tuning with gang := some [1, 2] }
  { s.setLane 1 { Lane.reset with state := ls, job := some 2, tune := some .locking } with
    jobs := [g, { g with id := 2, seq := 2, site := 4, lane := some 1, state := st }] }

theorem witness_LockStartsAcquisition :
    let s := serving .tuning .tuning (some .locking) none
    (s.settled ∧ s.distinct ∧ s.serves 2 (served .tuning) .tuning ∧ (s.lane 2).tune = some .locking ∧
      (served .tuning).lane = some 2 ∧ (served .tuning).gang = none) ∧ (s.lane 0).tune ≠ some .locking ∧
    ((tuningGang .tuning .tuning).settled ∧ (tuningGang .tuning .tuning).distinct) ∧
    (tuningGang .gangWait .gangWait).settled ∧ (tuningGang .gangWait .gangWait).distinct ∧
    (tuningGang .gangWait .gangWait).serves 2 { served .tuning with gang := some [1, 2] } .tuning := by decide +kernel

theorem witness_LockTimerExpires :
    let s := serving .tuning .tuning (some .locking) none
    let third := s.setLane 2 { s.lane 2 with tuneFailures := 2, calPending := true }
    (s.settled ∧ s.distinct ∧ s.unclaimed 2 ∧ s.serves 2 (served .tuning) .tuning ∧ (s.lane 2).tune = some .locking ∧
      (served .tuning).attempts < 2 ∧ (s.site 3).state = .measuring) ∧
    (third.settled ∧ third.distinct ∧ third.unclaimed 2 ∧ third.serves 2 (served .tuning) .tuning) ∧
    (tuningGang .tuning .tuning).unclaimed 2 := by decide +kernel

theorem witness_BandCompletionCounts :
    let s := serving .acquiring .acquiring none (some acq6)
    (locked.settled ∧ (locked.lane 2).job = none) ∧
    (s.settled ∧ s.distinct ∧ s.serves 2 (served .acquiring) .acquiring ∧ (s.lane 2).acquisition = some acq6) ∧
    acq6.bands.find? (fun y => y.band == 5) = some ⟨5, [], 0, 0, 0, true, false⟩ ∧ (∀ x ∈ acq6.bands, x.band ≠ 4) ∧
    s.endedBy (served .acquiring) { acq6 with bands := [⟨5, [], 1, 0, 1, true, false⟩] } 5 = none := by decide +kernel

theorem witness_AcquisitionEnds :
    let s := serving .acquiring .acquiring none (some acq6)
    s.settled ∧ s.distinct ∧ s.unclaimed 2 ∧ s.serves 2 (served .acquiring) .acquiring ∧
    (s.lane 2).acquisition = some acq6 ∧ acq6.maxTimer = some 100 ∧
    s.endedBy (served .acquiring) { acq6 with bands := [⟨5, [], 2, 0, 2, false, false⟩] } 5 = some .complete := by
  decide +kernel

theorem witness_DisturbancesAndSnapshots :
    let s := serving .acquiring .acquiring none (some acq6)
    let e := serving .evaluating .evaluating none (some acq6)
    (e.settled ∧ e.distinct ∧ e.serves 2 (served .evaluating) .evaluating) ∧
    s.settled ∧ s.distinct ∧ s.serves 2 (served .acquiring) .acquiring ∧ acq6.snapTimer ≠ none ∧
    (served .acquiring).buffer = some (BufferSet.fresh plan6) ∧ s.hold = false := by decide +kernel

theorem witness_EvaluationEndsJob :
    let a : Acquisition := { acq6 with reason := some .complete }
    let s := serving .evaluating .evaluating none (some a)
    s.settled ∧ s.distinct ∧ s.unclaimed 2 ∧ s.serves 2 (served .evaluating) .evaluating ∧
    (s.lane 2).acquisition = some a ∧ a.reason = some .complete := by decide +kernel

/-- plan6 with a spur rule and a frequency tolerance. -/
def ruled : Plan := { plan6 with spur := some ⟨600, -14000, 8⟩, tolerance := some 1000 }

theorem witness_PointsAndSpursInOrder : ruled.spur = some ⟨600, -14000, 8⟩ ∧ plan6.spur = none := ⟨rfl, rfl⟩

theorem witness_CriteriaByTables :
    let vs : List Vertex := [⟨10, -20000⟩, ⟨100000, -15000⟩, ⟨10000000, -15500⟩]
    maskSound vs ∧ vs.head? = some ⟨10, -20000⟩ ∧ vs.getLast? = some ⟨10000000, -15500⟩ ∧
    [⟨10, -20000⟩, ⟨100000, -15000⟩] <:+: vs ∧ ruled.tolerance = some 1000 ∧ ruled.spur ≠ none ∧ plan6.tolerance = none := by
  decide +kernel

/-- A spectrum of every band with all points at −100.00 dBc/Hz, and spurs. -/
def flat (spurs : List Spur) : Spectrum where
  segments := (List.finRange 6).map fun b =>
    ⟨b, List.replicate (if b = 5 then 11 else 10) (.data (-10000) (-10300) (-10000) false false false), 1, 0⟩
  spurs := spurs

theorem witness_JitterEntriesByRule :
    let b : JitterBand := ⟨10, 10000000, 71⟩
    let x := flat [⟨18000, -9381⟩]
    let used (i : Nat) : Int := (x.point i).effective
    ((List.range 61).all (fun i => decide (x.point i = .data (-10000) (-10300) (-10000) false false false))) = true ∧
    ({ x with segments := [] } : Spectrum).point 60 = .noData ∧
    (settleRounding (noiseEnds b used x.spurs) firstDigits doublings).isSome = true ∧
    (settleRounding (jitterEnds b used x.spurs 100000000) firstDigits doublings).isSome = true := by decide +kernel

/-- The acquiring part with snapshots in its buffer set's N and F. -/
def snapped (n f : Option Snapshot) : State :=
  let s := serving .acquiring .acquiring none (some acq6)
  { s with jobs := [{ served .acquiring with buffer := some ⟨1, true, none, n, f, 2⟩ }] }

theorem witness_SnapshotRequests :
    let g : Segment := ⟨5, List.replicate 11 .noData, 0, 0⟩
    [snapped (some ⟨2, [g]⟩) (some ⟨1, [g]⟩), snapped (some ⟨1, [g]⟩) (some ⟨2, [g]⟩), snapped none none].all
      (fun s => decide (s.settled ∧ s.listens hd.rate ∧ s.distinct)) = true ∧
    ((snapped none none).lane 2).job = some 1 ∧ ((snapped none none).lane 3).job = none ∧
    [g].find? (fun y => y.band == 5) = some g ∧ 3 < (4 : Byte).toNat ∧ 6 < (7 : Byte).toNat := by decide +kernel

theorem witness_ResultListAndRelease :
    let full := unstarted [{ jobIn 1 .done with result := some { result with spectrum := some [⟨5, [], 0, 0⟩] } }]
    (finished.settled ∧ finished.listens hd.rate ∧ finished.distinct ∧ finished.jobs.map Job.state = [.done]) ∧
    (full.settled ∧ full.listens hd.rate ∧ full.distinct ∧ full.timebase.discipline ≠ .locked) ∧
    (withJobs [jobIn 1 .queued]).settled := by decide +kernel

theorem witness_DoneRecordsStand : (finished.jobsSound ∧ finished.lanesSound ∧ finished.jobs.map Job.state = [.done]) ∧
    (∃ t, exec .storeCompletion finished = .next t ∧ t.jobs = finished.jobs) ∧
    (∃ t, exec (.resultRelease hd 1) finished = .next t ∧ t.jobs = []) ∧
    frameOf (.resultRelease hd 1) = some ((Request.resultRelease 1).frame 7) :=
  ⟨by decide +kernel, ⟨_, rfl, rfl⟩, ⟨_, rfl, by decide +kernel⟩, rfl⟩

theorem witness_CalStartAndCancel :
    let running := ((locked.setLane 3 { Lane.reset with state := .calibrating }).setCalRecord 3
      { CalRecord.reset with status := .running, outOfService := some true })
    (locked.settled ∧ locked.listens hd.rate ∧ locked.unclaimed 3 ∧ (locked.lane 3).state.stage = none) ∧
    (running.settled ∧ running.listens hd.rate ∧ running.unclaimed 3 ∧ (running.calRecord 3).status = .running) ∧
    ((serving .acquiring .acquiring none (some acq6)).lane 2).state.stage ≠ none ∧
    3 < (4 : Byte).toNat ∧ CalKind.full.code = 0 := by decide +kernel

/-- L3 in a calibration of range 4, channel A locked and channel B waiting. -/
def calibrating : State :=
  (locked.setLane 3 { Lane.reset with
    state := .calibrating, source := some 3, channels := #v[⟨0, .locked⟩, ⟨0, .waiting⟩] }).setCalRecord 3
    { CalRecord.reset with
      status := .running, kind := some .full, ranges := #v[false, false, false, true], step := some 3 }

theorem witness_CalibrationStepsMeasure : calibrating.settled ∧ calibrating.unclaimed 3 ∧
    (calibrating.lane 3).state = .calibrating ∧ (calibrating.calRecord 3).step = some 3 ∧
    (calibrating.calRecord 3).kind = some .full ∧ (calibrating.lane 3).channels[(1 : ChanId)].lock = .waiting ∧
    (clampInt (-32768) 32767 (roundRat 600)).natAbs ≤ 600 := by decide +kernel

theorem witness_StoreAndRevert : locked.settled ∧ locked.listens hd.rate ∧ locked.cal.image = none ∧
    ({ locked with cal := { locked.cal with image := some CoefSet.default } }).settled ∧ 4 < (5 : Byte).toNat := by
  decide +kernel

theorem witness_StepKeepsPortSound : locked.port.sound ∧ (busy 2 (List.replicate 4 ⟨1, 0, []⟩) 7).port.sound := by
  decide +kernel

theorem witness_StepKeepsSitesSound : locked.sitesSound ∧ step locked = .next locked.tick := ⟨by decide +kernel, rfl⟩

theorem witness_StepKeepsTablesSound : finished.timebase.sound ∧ finished.planTableSound ∧ finished.cal.sound := by
  decide +kernel

/-- The acquiring part with what the monitors of a MEASURING site hold. -/
def acquiring : State := (serving .acquiring .acquiring none (some acq6)).setSite 3 { siteIn .measuring .stopped with
  monitor := ⟨true, false, false⟩, settled := some .within, levelFlag := some .within }

/-- A gang of two that waits with one lane reserved for it. -/
def waitingGang : State := gang .reserved .outOfService .outOfService .idle 5

theorem witness_StepKeepsJobsSound : (finished.jobsSound ∧ finished.gangsSound) ∧ waitingGang.jobsSound ∧
    waitingGang.gangsSound :=
  ⟨⟨by decide +kernel, by decide +kernel⟩, by decide +kernel, by decide +kernel⟩

theorem witness_StepKeepsLanesSound : (acquiring.jobsSound ∧ acquiring.lanesSound) ∧
    (acquiring.sitesSound ∧ acquiring.gangsSound ∧ acquiring.matrixSound) ∧
    (waitingGang.jobsSound ∧ waitingGang.lanesSound) ∧ waitingGang.reservedSound ∧
    (waitingGang.lane 0).state = .reserved :=
  ⟨⟨by decide +kernel, by decide +kernel⟩, ⟨by decide +kernel, by decide +kernel, by decide +kernel⟩,
    ⟨by decide +kernel, by decide +kernel⟩, by decide +kernel, rfl⟩

/-- The acquiring part with the segments of its buffer set out of the pool. -/
def balanced : State := { serving .acquiring .acquiring none (some acq6) with freeSegments := 189 }

theorem witness_StepKeepsSegmentTotal : (balanced.jobsSound ∧ balanced.lanesSound) ∧ balanced.planTableSound ∧
    balanced.storeSound := ⟨by decide +kernel, by decide +kernel, by decide +kernel⟩

end Sys2Proof.Tests
end

/-! PROOFS. SITE_POWER on (R9): what the site controller answers, row by row of the table, and what a request that calls
nothing at the close of its event leaves in a settled state. -/

namespace Sys2Proof.Machine

/-! ### A request with an effect of its own alone -/

/-- From `s` to `u` nothing came about that the close of an event looks for: no reconsideration called, no gang that can start,
no job ended (R65, R73, R149). -/
structure State.Quiet (s u : State) : Prop where
  reconsider : u.reconsider = s.reconsider
  startingMembers : u.startingMembers = s.startingMembers
  results : u.results ⊆ s.results

theorem State.Quiet.refl (s : State) : State.Quiet s s := ⟨rfl, rfl, List.Subset.refl _⟩

/-- No record of a site is what the close of an event looks for. -/
theorem State.Quiet.setSite (s : State) (i : SiteId) (x : Site) : State.Quiet s (s.setSite i x) :=
  ⟨rfl, rfl, List.Subset.refl _⟩

/-- A request at a listening port of a settled state, carried out quietly: its reply is in hand, and behind the port its own
effect is all. -/
theorem request_of_quiet {s u : State} {h : Header} {r : Request} {reply : Reply} (hs : s.settled) (hl : s.listens h.rate)
    (hd : decodeFrame (r.frame h.tag) = .request r) (hc : s.cleared.carryOut r = (u.cleared, reply))
    (hq : State.Quiet s u) :
    (s.request h r).answered r.kind h.tag reply s.replies ∧ (s.request h r).behindPort = u.behindPort := by
  obtain ⟨hrec, hgang, -⟩ := hs
  have hfst : (s.cleared.carryOut r).1 = u.cleared := congrArg Prod.fst hc
  have hsnd : (s.cleared.carryOut r).2 = reply := congrArg Prod.snd hc
  have hres : (s.cleared.carryOut r).1.results ⊆ s.results := by rw [hfst]; exact hq.results
  have hanswer := (request_answered hd hl (Carried.refl _) hres).1
  have hbehind := request_quiet hd hl (by rw [hfst]; exact hq.reconsider.trans hrec)
    (by rw [hfst]; exact hq.startingMembers.trans hgang) hres
  rw [hsnd] at hanswer
  rw [hfst, cleared_behindPort] at hbehind
  exact ⟨hanswer, hbehind⟩

/-! ### SITE_POWER on -/

/-- The byte of a site names that site (R185). -/
@[simp] theorem codeBelow_site (i : SiteId) : codeBelow 16 (BitVec.ofNat 8 i.val) = some i := by
  have hi : (BitVec.ofNat 8 i.val).toNat = i.val := by rw [BitVec.toNat_ofNat]; omega
  simp [codeBelow, hi]

theorem sitePower_one (s : State) (i : SiteId) : s.sitePower (BitVec.ofNat 8 i.val) 1 = s.powerOn i := by
  rw [State.sitePower, codeBelow_site]; rfl

theorem powerOn_refused {s : State} {i : SiteId} (h : (s.site i).configured = false ∨ (s.site i).state = .faultLatched) :
    s.powerOn i = refuseWith .wrongState s := by rw [State.powerOn, if_pos h]

section
variable {s : State} {i : SiteId} (h : ¬((s.site i).configured = false ∨ (s.site i).state = .faultLatched))
include h

theorem powerOn_not_off (ho : (s.site i).state ≠ .off) : s.powerOn i = accept s := by
  rw [State.powerOn, if_neg h, if_neg ho]

theorem powerOn_off_inhibited (ho : (s.site i).state = .off) (hi : s.inhibit = true) :
    s.powerOn i = accept (s.setSite i { s.site i with powerPending := true }) := by
  rw [State.powerOn, if_neg h, if_pos ho, if_pos hi]

theorem powerOn_off_enters_ramp (ho : (s.site i).state = .off) (hi : ¬s.inhibit = true) :
    s.powerOn i = accept (s.setSite i ((s.site i).enterRamp s.now)) := by
  rw [State.powerOn, if_neg h, if_pos ho, if_neg hi]

end

/-- SITE_POWER on at a listening port of a settled state, which the site controller carries out quietly (R174, R186). It meets
the part with the frame taken off the port (`s.cleared`), and what it leaves of the port is that. -/
theorem exec_sitePowerOn {s u : State} {h : Header} {i : SiteId} {reply : Reply} (hs : s.settled) (hl : s.listens h.rate)
    (hp : s.cleared.powerOn i = (u.cleared, reply)) (hq : State.Quiet s u) :
    ∃ t, exec (.sitePowerOn h (BitVec.ofNat 8 i.val)) s = .next t ∧ t.answered 0x11 h.tag reply s.replies ∧
      t.behindPort = u.behindPort := by
  have hc : s.cleared.carryOut (.sitePower (BitVec.ofNat 8 i.val) 1) = (u.cleared, reply) := by
    rw [State.carryOut, sitePower_one, hp]
  exact ⟨_, rfl, request_of_quiet hs hl rfl hc hq⟩

/-- Settles O16, by the four rows of R9's table: refused, no effect, power pending, and entry to RAMP. -/
theorem sitePowerOnByTable : Obligations.SitePowerOnByTable := by
  intro h i s hs hl x refused
  by_cases hr : refused
  · rw [if_pos hr, if_pos (.inl hr)]
    exact exec_sitePowerOn hs hl (powerOn_refused (s := s.cleared) hr) (.refl s)
  rw [if_neg hr]
  by_cases ho : x.state = .off
  · rw [if_neg (not_or.mpr ⟨hr, not_not.mpr ho⟩)]
    by_cases hi : s.inhibit = true
    · rw [if_pos hi]
      exact exec_sitePowerOn hs hl (powerOn_off_inhibited (s := s.cleared) hr ho hi) (.setSite s i _)
    · rw [if_neg hi]
      exact exec_sitePowerOn hs hl (powerOn_off_enters_ramp (s := s.cleared) hr ho hi) (.setSite s i _)
  · rw [if_pos (.inr ho)]
    exact exec_sitePowerOn hs hl (powerOn_not_off (s := s.cleared) hr ho) (.refl s)

end Sys2Proof.Machine

/-! PROOFS. JOB_SUBMIT refused (R57): the four numbers read from the request, the checks of the job table one by one, and a
request that a block refuses without touching the part. -/

namespace Sys2Proof.Machine

/-! ### A request refused -/

/-- A request that its block refuses at a listening port of a settled state: the refusal is in hand, and nothing has changed
behind the port (R174). -/
theorem request_of_refused {s : State} {h : Header} {r : Request} {st : Status} (hs : s.settled) (hl : s.listens h.rate)
    (hd : decodeFrame (r.frame h.tag) = .request r) (hc : s.cleared.carryOut r = refuseWith st s.cleared) :
    (s.request h r).answered r.kind h.tag (.refuse st) s.replies ∧ (s.request h r).behindPort = s.behindPort :=
  request_of_quiet hs hl hd hc (.refl s)

/-! ### The numbers of a JOB_SUBMIT -/

/-- A byte names the number below a bound that it holds. -/
theorem codeBelow_of_val_eq {n : Nat} {b : Byte} {i : Fin n} (h : i.val = b.toNat) : codeBelow n b = some i := by
  have hlt : b.toNat < n := h ▸ i.isLt
  rw [codeBelow, dif_pos hlt]
  exact congrArg some (Fin.ext h.symm)

theorem codeBelow_eq_none_iff {n : Nat} {b : Byte} : codeBelow n b = none ↔ n ≤ b.toNat := by
  simp [codeBelow]

/-- Priority codes are 0 and 1 (R57). -/
theorem priorityOf_eq_none_iff {b : Byte} : priorityOf b = none ↔ 1 < b.toNat := by
  have hzero : b = 0 ↔ b.toNat = 0 := by rw [← BitVec.toNat_inj]; rfl
  have hone : b = 1 ↔ b.toNat = 1 := by rw [← BitVec.toNat_inj]; rfl
  rw [priorityOf]
  split
  · next h0 => simp [hzero.mp h0]
  split
  · next h1 => simp [hone.mp h1]
  · next h0 h1 => simp only [hzero, hone] at h0 h1; simp; omega

theorem exists_priorityOf {b : Byte} (h : b.toNat ≤ 1) : ∃ u, priorityOf b = some u :=
  Option.ne_none_iff_exists'.mp fun hn => absurd (priorityOf_eq_none_iff.mp hn) (Nat.not_lt.mpr h)

/-! ### The checks of R57 -/

theorem acceptsJobs_eq_false_iff (x : Site) : x.acceptsJobs = false ↔
    x.configured = false ∨ x.state = .faultLatched ∨ (x.state = .off ∧ x.powerPending = false) := by
  rw [Site.acceptsJobs, Bool.and_eq_false_iff]
  cases x.state <;> simp

theorem heldSet_eq_filter (s : State) (g : Fin 16) :
    s.heldSet g = s.jobs.filter fun j => decide (j.state = .held ∧ j.group = g) := by
  simp only [State.heldSet, Bool.decide_and, beq_eq_decide]

section
variable {s : State} {i : SiteId} {p : PlanId} {g : Fin 16}

theorem submitRefusal_table_full (hn : 64 ≤ s.jobs.length) : s.submitRefusal i p g = some .full := by
  rw [State.submitRefusal, if_pos hn]

theorem submitRefusal_no_plan (hn : ¬64 ≤ s.jobs.length) (hp : s.plans[p] = none) :
    s.submitRefusal i p g = some .noSuch := by
  rw [State.submitRefusal, if_neg hn, if_pos hp]

theorem submitRefusal_wrong_site (hn : ¬64 ≤ s.jobs.length) (hp : s.plans[p] ≠ none)
    (hx : (s.site i).acceptsJobs = false) : s.submitRefusal i p g = some .wrongState := by
  rw [State.submitRefusal, if_neg hn, if_neg hp, if_pos hx]

theorem submitRefusal_group_full (hn : ¬64 ≤ s.jobs.length) (hp : s.plans[p] ≠ none)
    (hx : ¬(s.site i).acceptsJobs = false) (hg : g ≠ 0) (hf : 4 ≤ (s.heldSet g).length) :
    s.submitRefusal i p g = some .full := by
  rw [State.submitRefusal, if_neg hn, if_neg hp, if_neg hx, if_pos ⟨hg, hf⟩]

theorem submitRefusal_site_held (hn : ¬64 ≤ s.jobs.length) (hp : s.plans[p] ≠ none)
    (hx : ¬(s.site i).acceptsJobs = false) (hg : g ≠ 0) (hf : ¬4 ≤ (s.heldSet g).length)
    (hj : ∃ j ∈ s.heldSet g, j.site = i) : s.submitRefusal i p g = some .inUse := by
  have hany : ((s.heldSet g).any fun j => j.site == i) = true := by simpa using hj
  rw [State.submitRefusal, if_neg hn, if_neg hp, if_neg hx, if_neg fun h => hf h.2, if_pos ⟨hg, hany⟩]

end

/-! ### JOB_SUBMIT -/

/-- A number above its range is the first check (R57). -/
theorem jobSubmit_out_of_range (s : State) {site plan group priority : Byte}
    (h : 15 < site.toNat ∨ 31 < plan.toNat ∨ 15 < group.toNat ∨ 1 < priority.toNat) :
    s.jobSubmit site plan group priority = refuseWith .outOfRange s := by
  unfold State.jobSubmit
  split
  · next hi hp hg hu =>
    have hnone := h.imp codeBelow_eq_none_iff.mpr
      (Or.imp codeBelow_eq_none_iff.mpr (Or.imp codeBelow_eq_none_iff.mpr priorityOf_eq_none_iff.mpr))
    simp [hi, hp, hg, hu] at hnone
  · rfl

/-- Four legal numbers leave the answer to the other checks (R57). -/
theorem jobSubmit_refused {s : State} {site plan group priority : Byte} {i : SiteId} {p : PlanId} {g : Fin 16} {st : Status}
    (hi : i.val = site.toNat) (hp : p.val = plan.toNat) (hg : g.val = group.toNat) (hu : priority.toNat ≤ 1)
    (hr : s.submitRefusal i p g = some st) : s.jobSubmit site plan group priority = refuseWith st s := by
  obtain ⟨u, hu⟩ := exists_priorityOf hu
  simp only [State.jobSubmit, codeBelow_of_val_eq hi, codeBelow_of_val_eq hp, codeBelow_of_val_eq hg, hu, hr]

/-- JOB_SUBMIT at a listening port of a settled state, which the job table refuses (R174, R186). It meets the part with the
frame taken off the port (`s.cleared`). -/
theorem exec_jobSubmit_refused {s : State} {h : Header} {site plan group priority : Byte} {st : Status} (hs : s.settled)
    (hl : s.listens h.rate) (hr : s.cleared.jobSubmit site plan group priority = refuseWith st s.cleared) :
    ∃ t, exec (.jobSubmit h site plan group priority) s = .next t ∧ t.answered 0x30 h.tag (.refuse st) s.replies ∧
      t.behindPort = s.behindPort :=
  ⟨_, rfl, request_of_refused hs hl (r := .jobSubmit site plan group priority) rfl hr⟩

/-- Settles O32, check by check: each clause of R57 is one way for the job table to refuse, and a refusal changes nothing. -/
theorem jobSubmitChecksInOrder : Obligations.JobSubmitChecksInOrder := by
  intro h site plan group priority s hs hl refused
  refine ⟨fun hrange => exec_jobSubmit_refused hs hl (jobSubmit_out_of_range _ hrange), fun hsite hplan hgroup hu => ?_⟩
  have refused_of {st : Status} {i : SiteId} {p : PlanId} {g : Fin 16} (hi : i.val = site.toNat) (hp : p.val = plan.toNat)
      (hg : g.val = group.toNat) (hr : s.submitRefusal i p g = some st) : refused st :=
    exec_jobSubmit_refused hs hl (jobSubmit_refused (s := s.cleared) hi hp hg hu hr)
  refine ⟨fun hn => ?tableFull, fun hn => ?checked⟩
  case tableFull =>
    exact refused_of (i := ⟨site.toNat, by omega⟩) (p := ⟨plan.toNat, by omega⟩) (g := ⟨group.toNat, by omega⟩) rfl rfl rfl
      (submitRefusal_table_full hn)
  intro i p g hi hp hg x wrong held
  have hn := Nat.not_le.mpr hn
  have hwrong : x.acceptsJobs = false ↔ wrong := acceptsJobs_eq_false_iff x
  have hheld : s.heldSet g = held := heldSet_eq_filter s g
  refine ⟨fun hplan => ?noPlan, fun hplan hw => ?wrongSite, fun hplan hw hg0 hfull => ?groupFull,
    fun hplan hw hg0 hfew hsite => ?siteHeld⟩
  case noPlan => exact refused_of hi hp hg (submitRefusal_no_plan hn hplan)
  case wrongSite => exact refused_of hi hp hg (submitRefusal_wrong_site hn hplan (hwrong.mpr hw))
  case groupFull => exact refused_of hi hp hg (submitRefusal_group_full hn hplan (mt hwrong.mp hw) hg0 (hheld ▸ hfull))
  case siteHeld =>
    exact refused_of hi hp hg
      (submitRefusal_site_held hn hplan (mt hwrong.mp hw) hg0 (hheld ▸ Nat.not_le.mpr hfew) (hheld ▸ hsite))

end Sys2Proof.Machine

/-! PROOFS. What every effect that comes before the close of an event keeps: the line, a notice that is not due in SEARCH, the
recorded head, and the count of lanes that are open to it. Each operation is taken once, and the block's answers to requests
and the events of sites, lanes and timebase are put together from them. -/

namespace Sys2Proof.Machine

/-- From `s` to `t` the line stands, a port in SEARCH gets no notice due (R177), the recorded head stands, no call for the
arbiter is taken back, no lane has become RESERVED, where a lane has become IDLE the arbiter has been called (R65), and the
result list has only grown at its end (R149). -/
structure Touch (s t : State) : Prop where
  line : t.line = s.line
  notice : s.port.isLocked = false → t.port.noticeDue = s.port.noticeDue
  head : t.head = s.head
  called : s.reconsider = true → t.reconsider = true
  reserved : ∀ l, (t.lane l).state = .reserved → (s.lane l).state = .reserved
  idle : t.reconsider = true ∨ ∀ l, (t.lane l).state = .idle → (s.lane l).state = .idle
  results : s.results <+: t.results

theorem isLocked_of_line {s t : State} (h : t.line = s.line) : t.port.isLocked = s.port.isLocked := by
  have hl : t.port.link = s.port.link := congrArg Line.link h
  simp [Port.isLocked, hl]

theorem Touch.refl (s : State) : Touch s s :=
  ⟨rfl, fun _ => rfl, rfl, id, fun _ => id, .inr fun _ => id, List.prefix_refl _⟩

theorem Touch.trans {s t u : State} (h : Touch s t) (g : Touch t u) : Touch s u where
  line := g.line.trans h.line
  notice hs := (g.notice ((isLocked_of_line h.line).trans hs)).trans (h.notice hs)
  head := g.head.trans h.head
  called := g.called ∘ h.called
  reserved l := h.reserved l ∘ g.reserved l
  idle := by
    rcases g.idle with hc | hi
    · exact .inl hc
    rcases h.idle with hc' | hi'
    · exact .inl (g.called hc')
    · exact .inr fun l => hi' l ∘ hi l
  results := h.results.trans g.results

/-- An operation that leaves the port, the head, the lanes and the result list. -/
theorem Touch.of_eq {s t : State} (hl : t.line = s.line) (hp : t.port = s.port) (hh : t.head = s.head)
    (hc : s.reconsider = true → t.reconsider = true) (hn : t.lanes = s.lanes) (hr : t.results = s.results := by rfl) :
    Touch s t :=
  ⟨hl, fun _ => by rw [hp], hh, hc, fun l => by simp [State.lane, hn], .inr fun l => by simp [State.lane, hn], by rw [hr]⟩

/-! ### Single-record operations -/

theorem setSite_touch (s : State) (i : SiteId) (x : Site) : Touch s (s.setSite i x) := .of_eq rfl rfl rfl id rfl
theorem updateJob_touch (s : State) (id : Nat) (f : Job → Job) : Touch s (s.updateJob id f) := .of_eq rfl rfl rfl (·) rfl
theorem setCalRecord_touch (s : State) (l : LaneId) (r : CalRecord) : Touch s (s.setCalRecord l r) :=
  .of_eq rfl rfl rfl id rfl
theorem leaveGang_touch (s : State) (n : Nat) : Touch s (s.leaveGang n) := .of_eq rfl rfl rfl id rfl
theorem flagLevel_touch (s : State) (i : SiteId) : Touch s (s.flagLevel i) := .of_eq rfl rfl rfl id rfl
theorem flagRunning_touch (s : State) (f : JobFlags → JobFlags) : Touch s (s.flagRunning f) := .of_eq rfl rfl rfl id rfl
theorem setFree_touch (s : State) (n : Nat) : Touch s (s.setFree n) := .of_eq rfl rfl rfl id rfl
theorem addResult_touch (s : State) (n : Nat) : Touch s (s.addResult n) :=
  ⟨rfl, fun _ => rfl, rfl, id, fun _ => id, .inr fun _ => id, List.prefix_append _ _⟩
theorem callArbiter_touch (s : State) : Touch s s.callArbiter := .of_eq rfl rfl rfl (fun _ => rfl) rfl

theorem callArbiterIf_touch (s : State) (b : Bool) : Touch s (s.callArbiterIf b) := by
  cases b
  · exact .refl s
  · exact callArbiter_touch s

/-- A lane's record replaced by one that is RESERVED or IDLE only where the lane was. -/
theorem setLane_touch (s : State) (l : LaneId) (x : Lane) (hr : x.state = .reserved → (s.lane l).state = .reserved)
    (hi : x.state = .idle → (s.lane l).state = .idle) : Touch s (s.setLane l x) := by
  refine ⟨rfl, fun _ => rfl, rfl, id, fun m => ?_, .inr fun m => ?_, List.prefix_refl _⟩ <;>
  · rw [State.setLane_lane]
    split
    · subst_vars; assumption
    · exact id

/-- A lane that becomes IDLE, with the arbiter called (R65). -/
theorem setLane_callArbiter_touch (s : State) (l : LaneId) (x : Lane)
    (hr : x.state = .reserved → (s.lane l).state = .reserved) : Touch s (s.setLane l x).callArbiter := by
  refine ⟨rfl, fun _ => rfl, rfl, fun _ => rfl, fun m => ?_, .inl rfl, List.prefix_refl _⟩
  rw [State.callArbiter_lane, State.setLane_lane]
  split
  · subst_vars; assumption
  · exact id

theorem openConnection_touch (s : State) (i : SiteId) : Touch s (s.openConnection i) := by
  have hl : ∀ l, ((s.openConnection i).lane l).state = (s.lane l).state := fun l => by
    simp only [State.lane, State.openConnection, Fin.getElem_fin, Vector.getElem_map]
    split <;> rfl
  exact ⟨rfl, fun _ => rfl, rfl, id, fun l => by rw [hl]; exact id, .inr fun l => by rw [hl]; exact id,
    List.prefix_refl _⟩

theorem raise_touch (s : State) (k : EventKind) : Touch s (s.raise k) := by
  refine ⟨raise_line s k, fun h => ?_, State.raise_head s k, by simp, by simp, .inr (by simp), by simp⟩
  unfold State.raise
  split
  · rfl
  · simp [h]

theorem raise_callArbiter (s : State) (k : EventKind) : s.callArbiter.raise k = (s.raise k).callArbiter := by
  unfold State.raise State.callArbiter
  dsimp only
  split <;> rfl

/-! ### Sites, lanes and job ends -/

theorem siteReady_touch (s : State) (i : SiteId) (x : Site) : Touch s (s.siteReady i x) :=
  ((setSite_touch s i x).trans (raise_touch _ _)).trans (callArbiter_touch _)

theorem siteAlert_touch (s : State) (i : SiteId) (x : Site) : Touch s (s.siteAlert i x) :=
  ((setSite_touch s i x).trans (raise_touch _ _)).trans (callArbiterIf_touch _ _)

theorem releaseSite_touch (s : State) (l : LaneId) : Touch s (s.releaseSite l) := by
  unfold State.releaseSite
  split
  · exact .refl s
  · have hl := setLane_touch s l { s.lane l with connected := none } (fun h => h) (fun h => h)
    dsimp only
    split
    · exact hl.trans (siteReady_touch _ _ _)
    · exact hl

theorem beginStep_touch (s : State) (l : LaneId) (r : RangeId) : Touch s (s.beginStep l r) :=
  (setLane_touch s l { s.lane l with
      source := some r
      channels := Vector.replicate 2 ⟨Config.rangeCentre r * 10 ^ 9, .waiting⟩ } (fun h => h) (fun h => h)).trans
    (setCalRecord_touch _ _ _)

theorem beginCalibration_touch (s : State) (l : LaneId) (b : Bool) : Touch s (s.beginCalibration l b) := by
  have h := (setLane_touch s l { s.lane l with state := .calibrating, calPending := false } nofun nofun).trans
    (setCalRecord_touch _ l { s.calRecord l with
      status := .running, outOfService := some b, started := some s.now, ended := none })
  unfold State.beginCalibration
  dsimp only
  split
  · exact h.trans (beginStep_touch _ _ _)
  · exact h

theorem withoutJob_touch (s : State) (l : LaneId) : Touch s (s.setLane l (s.lane l).withoutJob) :=
  setLane_touch s l _ (fun h => h) (fun h => h)

theorem releaseLane_touch (s : State) (l : LaneId) : Touch s (s.releaseLane l) := by
  unfold State.releaseLane
  dsimp only
  split
  · exact (withoutJob_touch s l).trans (beginCalibration_touch _ _ _)
  · exact (withoutJob_touch s l).trans (setLane_callArbiter_touch _ _ _ nofun)

theorem returnBuffer_touch (s : State) (j : Job) : Touch s (s.returnBuffer j) :=
  ((setFree_touch s _).trans (updateJob_touch _ _ _)).trans (callArbiterIf_touch _ _)

theorem recordEnd_touch (s : State) (n : Nat) (e : EndReason) (r : Result) : Touch s (s.recordEnd n e r) :=
  ((((leaveGang_touch s n).trans (updateJob_touch _ _ _)).trans (addResult_touch _ _)).trans (raise_touch _ _)).trans
    (callArbiter_touch _)

theorem endRecord_touch (s : State) (e : EndReason) (j : Job) : Touch s (s.endRecord e j) :=
  (returnBuffer_touch s j).trans (recordEnd_touch _ _ _ _)

theorem endTerminal_touch (e : EndReason) (s : State) (n : Nat) : Touch s (s.endTerminal e n) := by
  unfold State.endTerminal
  split
  · exact .refl s
  split
  · exact .refl s
  split
  · exact endRecord_touch s e _
  · exact ((releaseSite_touch s _).trans (endRecord_touch _ _ _)).trans (releaseLane_touch _ _)

theorem foldl_touch {α : Type} (f : State → α → State) (h : ∀ s a, Touch s (f s a)) :
    ∀ (xs : List α) (s : State), Touch s (xs.foldl f s)
  | [], s => .refl s
  | x :: xs, s => (h s x).trans (foldl_touch f h xs (f s x))

theorem endJobs_touch (s : State) (e : EndReason) (js : List Job) : Touch s (s.endJobs e js) :=
  foldl_touch _ (fun s n => endTerminal_touch e s n) _ s

theorem endWaiting_touch (s : State) (i : SiteId) : Touch s (s.endWaiting i) := endJobs_touch s _ _

theorem startAcquisition_touch (s : State) (j : Job) (l : LaneId) : Touch s (s.startAcquisition j l) :=
  (updateJob_touch s j.id _).trans (setLane_touch _ l _ nofun nofun)

theorem startGangs_touch (s : State) : Touch s s.startGangs :=
  foldl_touch _ (fun s j => by
    split
    · exact startAcquisition_touch s j _
    · exact .refl s) _ s

theorem endAcquisition_touch (s : State) (l : LaneId) (j : Job) (a : Acquisition) (e : EndReason) (d : Nat) :
    Touch s (s.endAcquisition l j a e d) :=
  ((setLane_touch s l { s.lane l with state := .evaluating, acquisition := some (a.freeze e) } nofun nofun).trans
    (updateJob_touch _ _ _)).trans (releaseSite_touch _ _)

theorem endCalibration_touch (s : State) (l : LaneId) (o : CalStatus) : Touch s (s.endCalibration l o) := by
  have h (x : Lane) (r : CalRecord) (hx : x.state = .outOfService ∨ x.state = .idle) :
      Touch s (((s.setCalRecord l r).setLane l x).raise .calEnd).callArbiter := by
    have h1 := setLane_callArbiter_touch (s.setCalRecord l r) l x (by rcases hx with hx | hx <;> simp [hx])
    have h2 := ((setCalRecord_touch s l r).trans h1).trans (raise_touch _ .calEnd)
    exact raise_callArbiter _ _ ▸ h2
  unfold State.endCalibration
  dsimp only
  refine h _ _ ?_
  cases (o != .done && (s.calRecord l).outOfService == some true) <;> simp

/-! ### The events of sites -/

theorem supplyInhibitExpiry_touch (s : State) : Touch s s.supplyInhibitExpiry := by
  unfold State.supplyInhibitExpiry
  split
  · exact .of_eq rfl rfl rfl id rfl
  · exact .refl s

theorem blankingExpiry_touch (s : State) (i : SiteId) : Touch s (s.blankingExpiry i) := by
  unfold State.blankingExpiry
  split
  · exact setSite_touch _ _ _
  · exact .refl s

theorem currentCrossing_touch (s : State) (i : SiteId) (b : Bool) : Touch s (s.currentCrossing i b) := by
  unfold State.currentCrossing
  dsimp only
  split
  · exact setSite_touch _ _ _
  · exact .refl s

theorem overcurrent_touch (s : State) (i : SiteId) : Touch s (s.overcurrent i) := by
  unfold State.overcurrent
  split
  · exact ((siteAlert_touch _ _ _).trans (openConnection_touch _ _)).trans (endJobs_touch _ _ _)
  · exact .refl s

theorem retryExpiry_touch (s : State) (i : SiteId) : Touch s (s.retryExpiry i) := by
  unfold State.retryExpiry
  split
  · exact setSite_touch _ _ _
  · exact .refl s

theorem warmUpExpiry_touch (s : State) (i : SiteId) : Touch s (s.warmUpExpiry i) := by
  unfold State.warmUpExpiry
  split
  · exact setSite_touch _ _ _
  · exact .refl s

theorem carrierCheckGateEnd_touch (s : State) (i : SiteId) (f : Option Rat) (v : Rat) :
    Touch s (s.carrierCheckGateEnd i f v) := by
  unfold State.carrierCheckGateEnd
  dsimp only
  split
  · split
    · exact siteReady_touch _ _ _
    · exact (siteAlert_touch _ _ _).trans (endWaiting_touch _ _)
  · exact .refl s

theorem recheckExpiry_touch (s : State) (i : SiteId) : Touch s (s.recheckExpiry i) := by
  unfold State.recheckExpiry
  split
  · exact setSite_touch _ _ _
  · exact .refl s

theorem recheckGateEnd_touch (s : State) (i : SiteId) (f : Option Rat) (v : Rat) : Touch s (s.recheckGateEnd i f v) := by
  unfold State.recheckGateEnd
  dsimp only
  split
  · split
    · exact siteReady_touch _ _ _
    · exact (setSite_touch _ _ _).trans (endWaiting_touch _ _)
  · exact .refl s

theorem classChange_touch (s : State) (i : SiteId) (c : LevelClass) : Touch s (s.classChange i c) := by
  unfold State.classChange
  dsimp only
  split
  · exact (siteAlert_touch _ _ _).trans (endWaiting_touch _ _)
  · exact setSite_touch _ _ _
  · exact ((siteAlert_touch _ _ _).trans (openConnection_touch _ _)).trans (endJobs_touch _ _ _)
  · exact setSite_touch _ _ _
  · exact (setSite_touch _ _ _).trans (flagLevel_touch _ _)
  · exact .refl s

theorem levelReading_touch (s : State) (i : SiteId) (v : Rat) : Touch s (s.levelReading i v) := by
  unfold State.levelReading
  dsimp only
  split
  · split
    · exact setSite_touch _ _ _
    · exact (setSite_touch _ _ _).trans (classChange_touch _ _ _)
  · exact .refl s

/-! ### The events of the timebase -/

theorem report_touch (s : State) (t : Timebase) (f : JobFlags → JobFlags) : Touch s (s.report t f) := by
  have h : Touch s { s with timebase := t } := .of_eq rfl rfl rfl id rfl
  exact ((h.trans (flagRunning_touch _ _)).trans (raise_touch _ _)).trans (callArbiterIf_touch _ _)

theorem timebase_touch (s : State) (t : Timebase) : Touch s { s with timebase := t } := .of_eq rfl rfl rfl id rfl

theorem referencePresent_touch (s : State) : Touch s s.referencePresent := by
  unfold State.referencePresent
  dsimp only
  split
  · exact .refl s
  split
  · exact report_touch _ _ _
  · exact report_touch _ _ _
  · exact timebase_touch _ _

theorem referenceAbsent_touch (s : State) : Touch s s.referenceAbsent := by
  unfold State.referenceAbsent
  dsimp only
  split
  · split
    · exact report_touch _ _ _
    · exact report_touch _ _ _
    · exact timebase_touch _ _
  · exact .refl s

theorem windowEnd_touch (s : State) (o : Rat) : Touch s (s.windowEnd o) := by
  unfold State.windowEnd
  dsimp only
  split
  · exact .refl s
  split
  · split
    · split
      · exact report_touch _ _ _
      · exact timebase_touch _ _
    · exact timebase_touch _ _
  · split
    · exact timebase_touch _ _
    · exact report_touch _ _ _
  · exact .refl s
  · exact .refl s

theorem holdoverExpiry_touch (s : State) : Touch s s.holdoverExpiry := by
  unfold State.holdoverExpiry
  split
  · exact report_touch _ _ _
  · exact .refl s

theorem qualifyChange_touch (s : State) (f : Option Rat) : Touch s (s.qualifyChange f) := timebase_touch _ _

/-! ### The events of lanes -/

theorem writeRecount_touch (s : State) (i : SiteId) (n : Nat) (c : CountRecord) : Touch s (s.writeRecount i n c) :=
  (setSite_touch s i _).trans (updateJob_touch _ _ _)

theorem recountGateEnd_touch (s : State) (l : LaneId) (f : Option Rat) (v : Rat) : Touch s (s.recountGateEnd l f v) := by
  unfold State.recountGateEnd
  split
  · split
    · unfold State.takeRecount State.beginLock State.loseCarrier
      dsimp only
      split
      · exact (writeRecount_touch _ _ _ _).trans (setLane_touch _ _ _ (fun h => h) (fun h => h))
      · exact (((writeRecount_touch _ _ _ _).trans (siteAlert_touch _ _ _)).trans (openConnection_touch _ _)).trans
          (endJobs_touch _ _ _)
    · exact .refl s
  · exact .refl s

theorem enterGangWait_touch (s : State) (j : Job) (l : LaneId) : Touch s (s.enterGangWait j l) :=
  (updateJob_touch s j.id _).trans (setLane_touch _ l _ nofun nofun)

theorem lockEvent_touch (s : State) (l : LaneId) : Touch s (s.lockEvent l) := by
  unfold State.lockEvent
  split
  · have h := setLane_touch s l { s.lane l with tuneFailures := 0 } (fun h => h) (fun h => h)
    dsimp only
    split
    · exact h.trans (startAcquisition_touch _ _ _)
    · exact h.trans (enterGangWait_touch _ _ _)
  · exact .refl s

theorem tuneOutcome_touch (s : State) (j : Job) : Touch s (s.tuneOutcome j) := by
  unfold State.tuneOutcome
  split
  · exact (updateJob_touch s j.id _).trans (callArbiter_touch _)
  · exact recordEnd_touch _ _ _ _

theorem releaseFailed_touch (s : State) (l : LaneId) : Touch s (s.releaseFailed l) := by
  unfold State.releaseFailed
  dsimp only
  split
  · exact releaseLane_touch s l
  · have h := (withoutJob_touch s l).trans (raise_touch _ .laneAlert)
    split
    · exact h.trans (beginCalibration_touch _ _ _)
    · exact h.trans (setLane_callArbiter_touch _ _ _ nofun)

theorem lockTimerExpiry_touch (s : State) (l : LaneId) : Touch s (s.lockTimerExpiry l) := by
  unfold State.lockTimerExpiry
  split
  · have h := setLane_touch s l { s.lane l with tuneFailures := (s.lane l).tuneFailures + 1 } (fun h => h) (fun h => h)
    exact (((h.trans (returnBuffer_touch _ _)).trans (releaseSite_touch _ _)).trans (tuneOutcome_touch _ _)).trans
      (releaseFailed_touch _ _)
  · exact .refl s

theorem bandCompletion_touch (s : State) (l : LaneId) (b : BandId) (v : List BinSums) :
    Touch s (s.bandCompletion l b v) := by
  unfold State.bandCompletion
  split
  · exact .refl s
  split
  · exact .refl s
  split
  · unfold State.completeBand
    have h (a : Acquisition) (j : Job) (x : BandAcq) :
        Touch s ((s.setLane l { s.lane l with acquisition := some a }).followCounts j x) :=
      (setLane_touch s l { s.lane l with acquisition := some a } (fun h => h) (fun h => h)).trans (updateJob_touch _ _ _)
    dsimp only
    split
    · exact h _ _ _
    split
    · exact (h _ _ _).trans (endAcquisition_touch _ _ _ _ _ _)
    · exact h _ _ _
  · exact .refl s

theorem captureDisturbance_touch (s : State) (l : LaneId) : Touch s (s.captureDisturbance l) := by
  unfold State.captureDisturbance
  split
  · exact .refl s
  · exact setLane_touch _ _ _ (fun h => h) (fun h => h)

theorem snapshotTimerExpiry_touch (s : State) (l : LaneId) : Touch s (s.snapshotTimerExpiry l) := by
  unfold State.snapshotTimerExpiry
  split
  · exact .refl s
  split
  · unfold State.snapshot
    dsimp only
    split
    · exact updateJob_touch _ _ _
    · exact (updateJob_touch _ _ _).trans (raise_touch _ _)
  · exact .refl s

theorem maxDurationExpiry_touch (s : State) (l : LaneId) : Touch s (s.maxDurationExpiry l) := by
  unfold State.maxDurationExpiry
  split
  · exact .refl s
  split
  · exact endAcquisition_touch _ _ _ _ _ _
  · exact .refl s

theorem evaluationEnd_touch (s : State) (l : LaneId) : Touch s (s.evaluationEnd l) := by
  unfold State.evaluationEnd
  split
  · exact ((setFree_touch _ _).trans (recordEnd_touch _ _ _ _)).trans (releaseLane_touch _ _)
  · exact .refl s

/-! ### The events of the calibration unit -/

theorem calChannelLock_touch (s : State) (l : LaneId) (ch : ChanId) : Touch s (s.calChannelLock l ch) := by
  unfold State.calChannelLock
  split
  · exact setLane_touch _ _ _ (fun h => h) (fun h => h)
  · exact .refl s

theorem calLockTimerExpiry_touch (s : State) (l : LaneId) (ch : ChanId) : Touch s (s.calLockTimerExpiry l ch) := by
  unfold State.calLockTimerExpiry
  have h := setLane_touch s l ((s.lane l).setLock ch .expired) (fun h => h) (fun h => h)
  dsimp only
  split
  · split
    · exact h.trans (setCalRecord_touch _ _ _)
    · exact h
  · exact .refl s

theorem working_touch (s : State) (v : CoefSet) : Touch s { s with cal := { s.cal with working := v } } :=
  .of_eq rfl rfl rfl id rfl

theorem measureChannel_touch (s : State) (l : LaneId) (r : RangeId) (ch : ChanId) (g : Rat) :
    Touch s (s.measureChannel l r ch g) := by
  unfold State.measureChannel
  dsimp only
  split
  · split
    · exact (setCalRecord_touch s l _).trans (working_touch _ _)
    · exact setCalRecord_touch _ _ _
  · exact setCalRecord_touch _ _ _

theorem measurementEvent_touch (s : State) (l : LaneId) (a b : Rat) : Touch s (s.measurementEvent l a b) := by
  unfold State.measurementEvent
  split
  · have h := fun r => (measureChannel_touch s l r 0 a).trans (measureChannel_touch _ l r 1 b)
    dsimp only
    split
    · exact (h _).trans (beginStep_touch _ _ _)
    · exact (h _).trans (endCalibration_touch _ _ _)
  · exact .refl s

theorem storeCompletion_touch (s : State) : Touch s s.storeCompletion := by
  unfold State.storeCompletion
  split
  · exact .refl s
  · exact .of_eq rfl rfl rfl id rfl

end Sys2Proof.Machine

/-! PROOFS. What a command does before the close of its event: the four shapes an effect can have, said once for all rows of
the table. From it follows that every command answers a next state (assumption 20). -/

namespace Sys2Proof.Machine

/-- What a command does before the close of its event. -/
def effectOf (c : Instr) (s : State) : State :=
  match c with
  | .powerOnReset => s.powerOnReset
  | .badFrame rate _ => s.brokenFrame rate
  | .frameGapTimeout rate => s.brokenFrame rate
  | .frameTransmitEnd => s.transmitEnd
  | .goodFrame rate f => s.arrive rate f
  | .supplyInhibitExpiry => s.supplyInhibitExpiry
  | .blankingExpiry i => s.blankingExpiry i
  | .currentLimitCrossing i above => s.currentCrossing i above
  | .overcurrent i => s.overcurrent i
  | .retryExpiry i => s.retryExpiry i
  | .warmUpExpiry i => s.warmUpExpiry i
  | .carrierCheckGateEnd i f v => s.carrierCheckGateEnd i f v
  | .recheckExpiry i => s.recheckExpiry i
  | .recheckGateEnd i f v => s.recheckGateEnd i f v
  | .levelReading i v => s.levelReading i v
  | .referencePresentEvent => s.referencePresent
  | .referenceAbsentEvent => s.referenceAbsent
  | .windowEnd o => s.windowEnd o
  | .holdoverExpiry => s.holdoverExpiry
  | .recountGateEnd l f v => s.recountGateEnd l f v
  | .lockEvent l => s.lockEvent l
  | .lockTimerExpiry l => s.lockTimerExpiry l
  | .bandCompletion l b v => s.bandCompletion l b v
  | .captureDisturbance l _ => s.captureDisturbance l
  | .snapshotTimerExpiry l => s.snapshotTimerExpiry l
  | .maxDurationExpiry l => s.maxDurationExpiry l
  | .evaluationEnd l => s.evaluationEnd l
  | .calChannelLock l ch => s.calChannelLock l ch
  | .calLockTimerExpiry l ch => s.calLockTimerExpiry l ch
  | .measurementEvent l a b => s.measurementEvent l a b
  | .storeCompletion => s.storeCompletion
  | .referenceInputQualifyChange f => s.qualifyChange f
  | c => match requestOfRow c with
    | some (h, r) => s.arrive h.rate (r.frame h.tag)
    | none => s

/-- Every command has its effect, and the event is closed (assumption 29): after a power-on reset the close finds nothing. -/
theorem exec_eq_close (c : Instr) (s : State) : exec c s = .next ((effectOf c s).close s) := by cases c <;> rfl

/-- Whether a command is an event on the line: a frame, a frame's end, or a transmission's end (R170 to R176). -/
def onLine : Instr → Bool
  | .badFrame _ _ | .frameGapTimeout _ | .frameTransmitEnd => true
  | c => (frameOf c).isSome

/-- Every other event but a power-on reset leaves the line. -/
theorem effectOf_touch {c : Instr} (hl : onLine c = false) (hp : c ≠ .powerOnReset) (s : State) :
    Touch s (effectOf c s) := by
  cases c with
  | powerOnReset => exact absurd rfl hp
  | supplyInhibitExpiry => exact supplyInhibitExpiry_touch s
  | blankingExpiry i => exact blankingExpiry_touch s i
  | currentLimitCrossing i b => exact currentCrossing_touch s i b
  | overcurrent i => exact overcurrent_touch s i
  | retryExpiry i => exact retryExpiry_touch s i
  | warmUpExpiry i => exact warmUpExpiry_touch s i
  | carrierCheckGateEnd i f v => exact carrierCheckGateEnd_touch s i f v
  | recheckExpiry i => exact recheckExpiry_touch s i
  | recheckGateEnd i f v => exact recheckGateEnd_touch s i f v
  | levelReading i v => exact levelReading_touch s i v
  | referencePresentEvent => exact referencePresent_touch s
  | referenceAbsentEvent => exact referenceAbsent_touch s
  | windowEnd o => exact windowEnd_touch s o
  | holdoverExpiry => exact holdoverExpiry_touch s
  | recountGateEnd l f v => exact recountGateEnd_touch s l f v
  | lockEvent l => exact lockEvent_touch s l
  | lockTimerExpiry l => exact lockTimerExpiry_touch s l
  | bandCompletion l b v => exact bandCompletion_touch s l b v
  | captureDisturbance l => exact captureDisturbance_touch s l
  | snapshotTimerExpiry l => exact snapshotTimerExpiry_touch s l
  | maxDurationExpiry l => exact maxDurationExpiry_touch s l
  | evaluationEnd l => exact evaluationEnd_touch s l
  | calChannelLock l ch => exact calChannelLock_touch s l ch
  | calLockTimerExpiry l ch => exact calLockTimerExpiry_touch s l ch
  | measurementEvent l a b => exact measurementEvent_touch s l a b
  | storeCompletion => exact storeCompletion_touch s
  | referenceInputQualifyChange f => exact qualifyChange_touch s f
  | _ => cases hl

/-! ### Events on the line -/

/-- A state with another port. -/
def State.withPort (s : State) (p : Port) : State := { s with port := p }

@[simp] theorem withPort_port (s : State) (p : Port) : (s.withPort p).port = p := rfl
@[simp] theorem withPort_self (s : State) : s.withPort s.port = s := rfl
@[simp] theorem withPort_behindPort (s : State) (p : Port) : (s.withPort p).behindPort = s.behindPort := rfl

/-- The three shapes of an event on the line that met the state `s`: the port alone changes; or the soft reset comes to effect
(R183); or a frame that arrives or waits is taken (R174). -/
inductive LineEffect (f? : Option Frame) (s : State) : State → Prop
  | port (p : Port) : LineEffect f? s (s.withPort p)
  | reset (p : Port) : LineEffect f? s (s.withPort p).softReset
  | take (p : Port) (g : Frame) (hg : g ∈ s.port.queue ∨ f? = some g) : LineEffect f? s ((s.withPort p).take g)

/-- A frame is taken from the holding queue of the port that the event leaves. -/
theorem takeNext_lineEffect {f? : Option Frame} {s : State} (p : Port) (hq : ∀ g ∈ p.queue, g ∈ s.port.queue ∨ f? = some g) :
    LineEffect f? s (s.withPort p).takeNext := by
  unfold State.takeNext
  split
  · next g rest _ hg => exact .take { p with queue := rest } g (hq g (by rw [show p.queue = g :: rest from hg]; simp))
  · exact .port p

theorem mem_joinQueue {queue : List Frame} {f g : Frame} (h : g ∈ joinQueue queue f) : g ∈ queue ∨ some f = some g := by
  unfold joinQueue at h
  split at h
  · simpa [eq_comm] using h
  · exact .inl h

theorem arrive_lineEffect (s : State) (rate : Rate) (f : Frame) : LineEffect (some f) s (s.arrive rate f) := by
  have offered (p : Port) (hq : p.queue = joinQueue s.port.queue f) : LineEffect (some f) s (s.withPort p).takeNext :=
    takeNext_lineEffect p fun g hg => mem_joinQueue (hq ▸ hg)
  unfold State.arrive
  split
  · exact offered { s.port with
      link := .locked rate, badCount := 0, noticeDue := decide (s.events.due ≠ 0),
      queue := joinQueue s.port.queue f } rfl
  · split
    · exact offered { s.port with badCount := 0, queue := joinQueue s.port.queue f } rfl
    · exact .port s.port

theorem brokenFrame_lineEffect (f? : Option Frame) (s : State) (rate : Rate) : LineEffect f? s (s.brokenFrame rate) := by
  unfold State.brokenFrame
  split
  · exact .port s.port
  split
  · split
    · exact .port _
    · unfold State.returnToSearch
      dsimp only
      split
      · exact .reset s.port.toSearch
      · exact .port _
  · exact .port s.port

theorem transmitEnd_lineEffect (f? : Option Frame) (s : State) : LineEffect f? s s.transmitEnd := by
  unfold State.transmitEnd
  split
  · exact .port s.port
  · exact .port _
  · unfold State.replySent
    split
    · exact .reset s.port
    · exact takeNext_lineEffect { s.port with inHand := none, transmitter := .idle } fun g hg => .inl hg

/-- Every event on the line has one of the three shapes. -/
theorem effectOf_lineEffect {c : Instr} (h : onLine c = true) (s : State) : LineEffect (frameOf c) s (effectOf c s) := by
  cases c with
  | badFrame rate cause => exact brokenFrame_lineEffect _ s rate
  | frameGapTimeout rate => exact brokenFrame_lineEffect _ s rate
  | frameTransmitEnd => exact transmitEnd_lineEffect _ s
  | goodFrame rate f => exact arrive_lineEffect s rate f
  | powerOnReset | supplyInhibitExpiry | blankingExpiry | currentLimitCrossing | overcurrent | retryExpiry | warmUpExpiry
  | carrierCheckGateEnd | recheckExpiry | recheckGateEnd | levelReading | referencePresentEvent | referenceAbsentEvent
  | windowEnd | holdoverExpiry | recountGateEnd | lockEvent | lockTimerExpiry | bandCompletion | captureDisturbance
  | snapshotTimerExpiry | maxDurationExpiry | evaluationEnd | calChannelLock | calLockTimerExpiry | measurementEvent
  | storeCompletion | referenceInputQualifyChange => cases h
  | _ => exact arrive_lineEffect s _ _

theorem LineEffect.pending {f? : Option Frame} {s t : State} (h : LineEffect f? s t) : t.pending = s.pending := by
  cases h with
  | port p => rfl
  | reset p => rfl
  | take p g => exact answer_pending (s.withPort p) g

/-! ### The close of an event -/

@[simp] theorem settlePort_reconsider (s : State) : s.settlePort.reconsider = s.reconsider := by
  unfold State.settlePort
  split
  · unfold State.beginFrame
    dsimp only
    split
    · rfl
    · split
      · split <;> rfl
      · rfl
  · rfl

/-- The arbiter has answered the call for it (R65). -/
@[simp] theorem arbitrate_reconsider (s : State) : s.arbitrate.reconsider = false := by
  unfold State.arbitrate
  split
  · rfl
  · next h => simpa using h

@[simp] theorem close_reconsider (s s₀ : State) : (s.close s₀).reconsider = false := by
  show s.finish.reconsider = false
  simp [State.finish]

/-- Settles O2: the effect of every command keeps the commands that wait, and the close answers the call for the arbiter. -/
theorem everyCommandAnswersNext : Obligations.EveryCommandAnswersNext := by
  intro c s
  refine ⟨_, exec_eq_close c s, ?_, close_reconsider _ _⟩
  rw [close_pending]
  by_cases hc : c = .powerOnReset
  · rw [hc]; rfl
  cases hl : onLine c with
  | false => exact congrArg Line.pending (effectOf_touch hl hc s).line
  | true => exact (effectOf_lineEffect hl s).pending

end Sys2Proof.Machine

/-! PROOFS. What the shared operations of lanes, sites and jobs leave in each record they touch, read back field by field, and
what they leave of the others. -/

namespace Sys2Proof.Machine

/-! ### What a setting fixes -/

theorem plans_of_setting {s t : State} (h : t.setting = s.setting) : t.plans = s.plans := congrArg Setting.plans h
theorem nextId_of_setting {s t : State} (h : t.setting = s.setting) : t.nextId = s.nextId := congrArg Setting.nextId h

theorem planOf_of_plans {s t : State} (h : t.plans = s.plans) (j : Job) : t.planOf j = s.planOf j := by
  simp [State.planOf, h]

/-! ### A lane's input leaves its site (R23, R62) -/

@[simp] theorem siteReady_lane (s : State) (i : SiteId) (x : Site) (l : LaneId) : (s.siteReady i x).lane l = s.lane l := by
  simp [State.siteReady]
@[simp] theorem siteReady_calRecord (s : State) (i : SiteId) (x : Site) (l : LaneId) :
    (s.siteReady i x).calRecord l = s.calRecord l := by simp [State.siteReady]
@[simp] theorem siteReady_results (s : State) (i : SiteId) (x : Site) : (s.siteReady i x).results = s.results := by
  simp [State.siteReady]
@[simp] theorem siteReady_freeSegments (s : State) (i : SiteId) (x : Site) :
    (s.siteReady i x).freeSegments = s.freeSegments := by simp [State.siteReady]
theorem siteReady_site (s : State) (i k : SiteId) (x : Site) : (s.siteReady i x).site k = if i = k then x else s.site k := by
  simp [State.siteReady, State.setSite_site]

@[simp] theorem siteAlert_lanes (s : State) (i : SiteId) (x : Site) : (s.siteAlert i x).lanes = s.lanes := by
  simp [State.siteAlert]
@[simp] theorem siteAlert_lane (s : State) (i : SiteId) (x : Site) (l : LaneId) : (s.siteAlert i x).lane l = s.lane l := by
  simp [State.siteAlert]
@[simp] theorem siteAlert_cal (s : State) (i : SiteId) (x : Site) : (s.siteAlert i x).cal = s.cal := by
  simp [State.siteAlert]
@[simp] theorem siteAlert_results (s : State) (i : SiteId) (x : Site) : (s.siteAlert i x).results = s.results := by
  simp [State.siteAlert]
@[simp] theorem siteAlert_freeSegments (s : State) (i : SiteId) (x : Site) :
    (s.siteAlert i x).freeSegments = s.freeSegments := by simp [State.siteAlert]
theorem siteAlert_site (s : State) (i k : SiteId) (x : Site) : (s.siteAlert i x).site k = if i = k then x else s.site k := by
  simp [State.siteAlert, State.setSite_site]

theorem openConnection_lane (s : State) (i : SiteId) (l : LaneId) : (s.openConnection i).lane l =
    if (s.lane l).connected = some i then { s.lane l with connected := none } else s.lane l := by
  simp only [State.openConnection, State.lane, Fin.getElem_fin, Vector.getElem_map]
  congr

theorem releaseSite_lane (s : State) (l m : LaneId) :
    (s.releaseSite l).lane m = if l = m then { s.lane l with connected := none } else s.lane m := by
  unfold State.releaseSite
  split
  · next h => split
              · subst_vars; rw [← h]
              · rfl
  · dsimp only
    split <;> simp [State.setLane_lane]

@[simp] theorem releaseSite_results (s : State) (l : LaneId) : (s.releaseSite l).results = s.results := by
  unfold State.releaseSite
  split
  · rfl
  · dsimp only; split <;> simp

@[simp] theorem releaseSite_freeSegments (s : State) (l : LaneId) : (s.releaseSite l).freeSegments = s.freeSegments := by
  unfold State.releaseSite
  split
  · rfl
  · dsimp only; split <;> simp

@[simp] theorem releaseSite_calRecord (s : State) (l m : LaneId) : (s.releaseSite l).calRecord m = s.calRecord m := by
  unfold State.releaseSite
  split
  · rfl
  · dsimp only; split <;> simp

theorem releaseSite_site (s : State) (l : LaneId) (i : SiteId) : (s.releaseSite l).site i =
    if (s.lane l).connected = some i ∧ (s.site i).state = .measuring then (s.site i).release s.now else s.site i := by
  unfold State.releaseSite
  split
  · next h => simp [h]
  · next k h =>
    dsimp only
    rw [h]
    by_cases hk : k = i
    · subst hk
      by_cases hm : (s.site k).state = .measuring
      · simp [hm, siteReady_site]
      · simp [hm]
    · by_cases hm : (s.site k).state = .measuring
      · simp [hm, siteReady_site, hk]
      · simp [hm, hk]

/-! ### A lane enters CALIBRATING (R63, R159) -/

/-- From `s` to `t` a lane has entered CALIBRATING, its calibration record is RUNNING, and nothing else but its channels and its
input has changed. -/
structure Calibrates (l : LaneId) (s t : State) : Prop where
  jobs : t.jobs = s.jobs
  results : t.results = s.results
  free : t.freeSegments = s.freeSegments
  sites : t.sites = s.sites
  setting : t.setting = s.setting
  lane : ∀ m, m ≠ l → t.lane m = s.lane m
  record : ∀ m, m ≠ l → t.calRecord m = s.calRecord m
  state : (t.lane l).state = .calibrating
  calPending : (t.lane l).calPending = false
  job : (t.lane l).job = (s.lane l).job
  connected : (t.lane l).connected = (s.lane l).connected
  acquisition : (t.lane l).acquisition = (s.lane l).acquisition
  status : (t.calRecord l).status = .running

theorem beginCalibration_calibrates (s : State) (l : LaneId) (b : Bool) : Calibrates l s (s.beginCalibration l b) := by
  unfold State.beginCalibration
  dsimp only
  split <;>
  · constructor <;>
      simp +contextual [State.beginStep, State.setLane_lane, State.setCalRecord_calRecord, eq_comm]

/-! ### A lane loses its job (R80, R72) -/

/-- From `s` to `t` a lane has lost its job and its acquisition record: it calibrates where that was pending (R80), else it is
IDLE or OUT_OF_SERVICE. The head's own lanes, the job table, the results, the pool and the sites stand. -/
structure Freed (l : LaneId) (s t : State) : Prop where
  jobs : t.jobs = s.jobs
  results : t.results = s.results
  free : t.freeSegments = s.freeSegments
  sites : t.sites = s.sites
  setting : t.setting = s.setting
  lane : ∀ m, m ≠ l → t.lane m = s.lane m
  record : ∀ m, m ≠ l → t.calRecord m = s.calRecord m
  job : (t.lane l).job = none
  connected : (t.lane l).connected = (s.lane l).connected
  acquisition : (t.lane l).acquisition = none
  calPending : (t.lane l).calPending = false
  pending : (s.lane l).calPending = true → (t.lane l).state = .calibrating ∧ (t.calRecord l).status = .running
  free_ : (s.lane l).calPending = false →
    ((t.lane l).state = .idle ∨ (t.lane l).state = .outOfService) ∧ t.calRecord l = s.calRecord l

/-- A pending calibration of a lane that has lost its job begins. -/
theorem Freed.of_calibrates {l : LaneId} {s u t : State} (hu : u.jobs = s.jobs) (hr : u.results = s.results)
    (hf : u.freeSegments = s.freeSegments) (hs : u.sites = s.sites) (hset : u.setting = s.setting)
    (hl : ∀ m, u.lane m = if l = m then (s.lane l).withoutJob else s.lane m)
    (hc : ∀ m, u.calRecord m = s.calRecord m) (hp : (s.lane l).calPending = true) (h : Calibrates l u t) : Freed l s t where
  jobs := h.jobs.trans hu
  results := h.results.trans hr
  free := h.free.trans hf
  sites := h.sites.trans hs
  setting := h.setting.trans hset
  lane m hm := (h.lane m hm).trans (by rw [hl, if_neg (Ne.symm hm)])
  record m hm := (h.record m hm).trans (hc m)
  job := by rw [h.job, hl, if_pos rfl]; rfl
  connected := by rw [h.connected, hl, if_pos rfl]; rfl
  acquisition := by rw [h.acquisition, hl, if_pos rfl]; rfl
  calPending := h.calPending
  pending _ := ⟨h.state, h.status⟩
  free_ h' := by simp [hp] at h'

theorem releaseLane_freed (s : State) (l : LaneId) : Freed l s (s.releaseLane l) := by
  unfold State.releaseLane
  dsimp only
  split
  · next hp =>
    rw [State.setLane_lane_self] at hp
    exact .of_calibrates (u := s.setLane l (s.lane l).withoutJob) rfl rfl rfl rfl rfl (fun m => State.setLane_lane _ _ _ _) (fun m => rfl) hp
      (beginCalibration_calibrates _ _ _)
  · next hp =>
    rw [State.setLane_lane_self, Bool.not_eq_true] at hp
    replace hp : (s.lane l).calPending = false := hp
    constructor <;> simp +contextual [State.setLane_lane, Lane.withoutJob, hp, eq_comm]

theorem releaseFailed_freed (s : State) (l : LaneId) : Freed l s (s.releaseFailed l) := by
  unfold State.releaseFailed
  dsimp only
  split
  · exact releaseLane_freed s l
  split
  · next hp =>
    rw [State.raise_lane, State.setLane_lane_self] at hp
    exact .of_calibrates (by simp) (by simp) (by simp) (by simp) (by simp)
      (fun m => by rw [State.raise_lane, State.setLane_lane]) (fun m => by simp) hp (beginCalibration_calibrates _ _ _)
  · next hp =>
    rw [State.raise_lane, State.setLane_lane_self, Bool.not_eq_true] at hp
    replace hp : (s.lane l).calPending = false := hp
    constructor <;> simp +contextual [State.setLane_lane, Lane.withoutJob, hp, eq_comm]

/-! ### The records of jobs that end (R61, R79) -/

/-- A record after the end of the job with an id (R79): that record is DONE, and the others have lost the id from their
gangs (R61). -/
def Job.afterEnd (n : Nat) (e : EndReason) (r : Result) (j : Job) : Job :=
  if j.id = n then
    { j with gang := none, state := .done, reason := some e, result := some r, lane := none, buffer := none }
  else { j with gang := j.gang.map fun g => g.filter (· != n) }

theorem Job.afterEnd_self {n : Nat} {e : EndReason} {r : Result} {j : Job} (h : j.id = n) : j.afterEnd n e r =
    { j with gang := none, state := .done, reason := some e, result := some r, lane := none, buffer := none } := if_pos h
theorem Job.afterEnd_other {n : Nat} {e : EndReason} {r : Result} {j : Job} (h : j.id ≠ n) :
    j.afterEnd n e r = { j with gang := j.gang.map fun g => g.filter (· != n) } := if_neg h
@[simp] theorem Job.afterEnd_id (n : Nat) (e : EndReason) (r : Result) (j : Job) : (j.afterEnd n e r).id = j.id := by
  unfold Job.afterEnd; split <;> rfl
@[simp] theorem Job.afterEnd_site (n : Nat) (e : EndReason) (r : Result) (j : Job) : (j.afterEnd n e r).site = j.site := by
  unfold Job.afterEnd; split <;> rfl
@[simp] theorem Job.afterEnd_plan (n : Nat) (e : EndReason) (r : Result) (j : Job) : (j.afterEnd n e r).plan = j.plan := by
  unfold Job.afterEnd; split <;> rfl

theorem recordEnd_jobs (s : State) (n : Nat) (e : EndReason) (r : Result) :
    (s.recordEnd n e r).jobs = s.jobs.map (Job.afterEnd n e r) := by
  unfold State.recordEnd
  rw [State.callArbiter_jobs, State.raise_jobs]
  simp only [State.addResult, State.updateJob, State.leaveGang, List.map_map]
  refine List.map_congr_left fun j _ => ?_
  by_cases h : j.id = n <;> simp [Job.afterEnd, h]

@[simp] theorem recordEnd_results (s : State) (n : Nat) (e : EndReason) (r : Result) :
    (s.recordEnd n e r).results = s.results ++ [n] := by simp [State.recordEnd]
@[simp] theorem recordEnd_freeSegments (s : State) (n : Nat) (e : EndReason) (r : Result) :
    (s.recordEnd n e r).freeSegments = s.freeSegments := by simp [State.recordEnd]
@[simp] theorem recordEnd_lanes (s : State) (n : Nat) (e : EndReason) (r : Result) :
    (s.recordEnd n e r).lanes = s.lanes := by simp [State.recordEnd]
@[simp] theorem recordEnd_lane (s : State) (n : Nat) (e : EndReason) (r : Result) (l : LaneId) :
    (s.recordEnd n e r).lane l = s.lane l := by simp [State.lane]
@[simp] theorem recordEnd_cal (s : State) (n : Nat) (e : EndReason) (r : Result) :
    (s.recordEnd n e r).cal = s.cal := by simp [State.recordEnd]
@[simp] theorem recordEnd_calRecord (s : State) (n : Nat) (e : EndReason) (r : Result) (l : LaneId) :
    (s.recordEnd n e r).calRecord l = s.calRecord l := by simp [State.calRecord]
@[simp] theorem recordEnd_sites (s : State) (n : Nat) (e : EndReason) (r : Result) :
    (s.recordEnd n e r).sites = s.sites := by simp [State.recordEnd]
@[simp] theorem recordEnd_site (s : State) (n : Nat) (e : EndReason) (r : Result) (i : SiteId) :
    (s.recordEnd n e r).site i = s.site i := by simp [State.site]

@[simp] theorem returnBuffer_freeSegments (s : State) (j : Job) :
    (s.returnBuffer j).freeSegments = s.freeSegments + j.bufferSize := by simp [State.returnBuffer]
@[simp] theorem returnBuffer_results (s : State) (j : Job) : (s.returnBuffer j).results = s.results := by
  simp [State.returnBuffer]
@[simp] theorem returnBuffer_lanes (s : State) (j : Job) : (s.returnBuffer j).lanes = s.lanes := by
  simp [State.returnBuffer]
@[simp] theorem returnBuffer_lane (s : State) (j : Job) (l : LaneId) : (s.returnBuffer j).lane l = s.lane l := by
  simp [State.lane]
@[simp] theorem returnBuffer_cal (s : State) (j : Job) : (s.returnBuffer j).cal = s.cal := by
  simp [State.returnBuffer]
@[simp] theorem returnBuffer_calRecord (s : State) (j : Job) (l : LaneId) :
    (s.returnBuffer j).calRecord l = s.calRecord l := by simp [State.calRecord]
@[simp] theorem returnBuffer_sites (s : State) (j : Job) : (s.returnBuffer j).sites = s.sites := by
  simp [State.returnBuffer]
@[simp] theorem returnBuffer_site (s : State) (j : Job) (i : SiteId) : (s.returnBuffer j).site i = s.site i := by
  simp [State.site]

theorem returnBuffer_jobs (s : State) (j : Job) :
    (s.returnBuffer j).jobs = s.jobs.map fun k => if k.id = j.id then { k with buffer := none } else k := by
  simp only [State.returnBuffer, callArbiterIf_jobs]; rfl

/-- A job that ends without evaluation has lost its buffer set, and its end is recorded (R79). -/
theorem endRecord_jobs (s : State) (e : EndReason) (j : Job) : (s.endRecord e j).jobs =
    s.jobs.map (Job.afterEnd j.id e (s.terminalResult j (terminalVerdict e))) := by
  rw [State.endRecord, recordEnd_jobs, returnBuffer_jobs, List.map_map, resultFor_terminal,
    terminalResult_of_setting (returnBuffer_setting s j) rfl]
  refine List.map_congr_left fun k _ => ?_
  by_cases h : k.id = j.id <;> simp [Job.afterEnd, h]

@[simp] theorem endRecord_results (s : State) (e : EndReason) (j : Job) :
    (s.endRecord e j).results = s.results ++ [j.id] := by simp [State.endRecord]
@[simp] theorem endRecord_freeSegments (s : State) (e : EndReason) (j : Job) :
    (s.endRecord e j).freeSegments = s.freeSegments + j.bufferSize := by simp [State.endRecord]
@[simp] theorem endRecord_lane (s : State) (e : EndReason) (j : Job) (l : LaneId) :
    (s.endRecord e j).lane l = s.lane l := by simp [State.endRecord]
@[simp] theorem endRecord_calRecord (s : State) (e : EndReason) (j : Job) (l : LaneId) :
    (s.endRecord e j).calRecord l = s.calRecord l := by simp [State.endRecord]
@[simp] theorem endRecord_sites (s : State) (e : EndReason) (j : Job) : (s.endRecord e j).sites = s.sites := by
  simp [State.endRecord]
@[simp] theorem endRecord_site (s : State) (e : EndReason) (j : Job) (i : SiteId) : (s.endRecord e j).site i = s.site i := by
  simp [State.site]

/-- What the end of a job without evaluation is (R79): nothing for a job that is gone, evaluated or ended; the record's end for
one without a lane; else the site's release and the lane's as well. -/
theorem endTerminal_cases (e : EndReason) (s : State) (n : Nat) :
    s.endTerminal e n = s ∨ ∃ j, s.job? n = some j ∧ j.state ≠ .evaluating ∧ j.state ≠ .done ∧
      ((j.servingLane = none ∧ s.endTerminal e n = s.endRecord e j) ∨
        ∃ l, j.lane = some l ∧ j.state.running = true ∧
          s.endTerminal e n = ((s.releaseSite l).endRecord e j).releaseLane l) := by
  unfold State.endTerminal
  split
  · exact .inl rfl
  next j hj =>
  split
  · exact .inl rfl
  next hs =>
  obtain ⟨he, hd⟩ := not_or.mp hs
  refine .inr ⟨j, hj, he, hd, ?_⟩
  split
  · next h => exact .inl ⟨h, rfl⟩
  · next l h =>
    unfold Job.servingLane at h
    split at h
    · next hr => exact .inr ⟨l, h, hr, rfl⟩
    · cases h

end Sys2Proof.Machine

/-! PROOFS. The moves of the part: every effect and every close of an event is a chain of steps of sixteen kinds, each of which
an invariant of jobs, lanes, switch matrix and pool has to be shown over once. -/

namespace Sys2Proof.Machine

/-! ### Changes of data alone -/

/-- The shape of a job's buffer set: the segments of a role, and whether N and F are there (R139). -/
def Job.shape (j : Job) : Option (Nat × Bool) := j.buffer.map fun b => (b.bands, b.roles)

/-- Two records alike in what the invariants speak of. -/
structure Job.Alike (j k : Job) : Prop where
  id : k.id = j.id
  site : k.site = j.site
  plan : k.plan = j.plan
  group : k.group = j.group
  state : k.state = j.state
  gang : k.gang = j.gang
  lane : k.lane = j.lane
  reason : k.reason = j.reason
  result : k.result = j.result
  shape : k.shape = j.shape

/-- The bands of a lane's acquisition record. -/
def Lane.bands (x : Lane) : Option (List BandId) := x.acquisition.map fun a => a.bands.map BandAcq.band

/-- Two lane records alike in what the invariants speak of, their connection apart; IDLE and RESERVED count as one. -/
structure Lane.Alike (x y : Lane) : Prop where
  state : y.state = x.state ∨ (x.state.open = true ∧ y.state.open = true)
  calPending : y.calPending = x.calPending
  job : y.job = x.job
  bands : y.bands = x.bands

/-- Every plan slot, EMPTY ones read as blank, has its start band at or below its stop band (R38). -/
def State.plansOrdered (s : State) : Prop :=
  ∀ p : PlanId, ((s.plans[p]).getD Plan.blank).startBand ≤ ((s.plans[p]).getD Plan.blank).stopBand

/-- A change of data alone: job table, lanes, calibration records, results, pool and plans keep all that the invariants speak
of, and a DONE record that no lane serves stands as it is. Given `P`, the switch matrix stands as well. -/
structure Alike (P : Prop) (s t : State) : Prop where
  jobs : List.Forall₂ Job.Alike s.jobs t.jobs
  done : ∀ j ∈ s.jobs, j.state = .done → (∀ l, (s.lane l).job ≠ some j.id) → j ∈ t.jobs
  results : t.results.Perm s.results
  nextId : t.nextId = s.nextId
  free : t.freeSegments = s.freeSegments
  lanes : ∀ l, Lane.Alike (s.lane l) (t.lane l)
  status : ∀ l, (t.calRecord l).status = (s.calRecord l).status
  plans : ∀ j ∈ s.jobs, j.state ≠ .done → t.planOf j = s.planOf j
  ordered : s.plansOrdered → t.plansOrdered
  matrix : P → (∀ l, (t.lane l).connected = (s.lane l).connected) ∧
    ∀ i, (t.site i).state = .measuring ↔ (s.site i).state = .measuring

theorem Job.Alike.refl (j : Job) : j.Alike j := ⟨rfl, rfl, rfl, rfl, rfl, rfl, rfl, rfl, rfl, rfl⟩
theorem Job.Alike.trans {j k m : Job} (h : j.Alike k) (g : k.Alike m) : j.Alike m :=
  ⟨g.id.trans h.id, g.site.trans h.site, g.plan.trans h.plan, g.group.trans h.group, g.state.trans h.state,
    g.gang.trans h.gang, g.lane.trans h.lane, g.reason.trans h.reason, g.result.trans h.result, g.shape.trans h.shape⟩

theorem Lane.Alike.refl (x : Lane) : x.Alike x := ⟨.inl rfl, rfl, rfl, rfl⟩
theorem Lane.Alike.trans {x y z : Lane} (h : x.Alike y) (g : y.Alike z) : x.Alike z where
  state := by
    rcases h.state with h | ⟨h, h'⟩ <;> rcases g.state with g | ⟨g, g'⟩
    · exact .inl (g.trans h)
    · exact .inr ⟨h ▸ g, g'⟩
    · exact .inr ⟨h, g ▸ h'⟩
    · exact .inr ⟨h, g'⟩
  calPending := g.calPending.trans h.calPending
  job := g.job.trans h.job
  bands := g.bands.trans h.bands

theorem alikeJobs_refl (js : List Job) : List.Forall₂ Job.Alike js js := List.forall₂_same.2 fun j _ => .refl j

theorem alikeJobs_trans {js ks ms : List Job} (h : List.Forall₂ Job.Alike js ks) (g : List.Forall₂ Job.Alike ks ms) :
    List.Forall₂ Job.Alike js ms := by
  induction h generalizing ms with
  | nil => cases g; exact .nil
  | cons a _ ih => cases g with
    | cons b g => exact .cons (a.trans b) (ih g)

theorem alikeJobs_map {js : List Job} {f : Job → Job} (h : ∀ j ∈ js, j.Alike (f j)) :
    List.Forall₂ Job.Alike js (js.map f) := by
  rw [List.forall₂_map_right_iff, List.forall₂_same]
  exact h

/-- Every record of an alike table comes from one of the first. -/
theorem alikeJobs_exists {js ks : List Job} (h : List.Forall₂ Job.Alike js ks) : ∀ k ∈ ks, ∃ j ∈ js, j.Alike k := by
  induction h with
  | nil => simp
  | cons a _ ih =>
    intro k hk
    rcases List.mem_cons.1 hk with rfl | hk
    · exact ⟨_, List.mem_cons_self .., a⟩
    · obtain ⟨j, hj, hjk⟩ := ih k hk
      exact ⟨j, List.mem_cons_of_mem _ hj, hjk⟩

/-- Every record of the first has one alike. -/
theorem alikeJobs_exists' {js ks : List Job} (h : List.Forall₂ Job.Alike js ks) : ∀ j ∈ js, ∃ k ∈ ks, j.Alike k := by
  induction h with
  | nil => simp
  | cons a _ ih =>
    intro j hj
    rcases List.mem_cons.1 hj with rfl | hj
    · exact ⟨_, List.mem_cons_self .., a⟩
    · obtain ⟨k, hk, hjk⟩ := ih j hj
      exact ⟨k, List.mem_cons_of_mem _ hk, hjk⟩

theorem Alike.trans {P : Prop} {s t u : State} (h : Alike P s t) (g : Alike P t u) : Alike P s u where
  jobs := alikeJobs_trans h.jobs g.jobs
  done j hj hd hl := g.done j (h.done j hj hd hl) hd fun l => by rw [(h.lanes l).job]; exact hl l
  results := g.results.trans h.results
  nextId := g.nextId.trans h.nextId
  free := g.free.trans h.free
  lanes l := (h.lanes l).trans (g.lanes l)
  status l := (g.status l).trans (h.status l)
  plans j hj hs := by
    obtain ⟨k, hk, hjk⟩ := alikeJobs_exists' h.jobs j hj
    have hp := g.plans k hk (hjk.state ▸ hs)
    simp only [State.planOf, hjk.plan] at hp
    exact Eq.trans hp (h.plans j hj hs)
  ordered := g.ordered ∘ h.ordered
  matrix hP :=
    ⟨fun l => ((g.matrix hP).1 l).trans ((h.matrix hP).1 l), fun i => ((g.matrix hP).2 i).trans ((h.matrix hP).2 i)⟩

/-- An operation that leaves what all of the invariants read. -/
theorem Alike.of_eq {P : Prop} {s t : State} (hj : t.jobs = s.jobs) (hr : t.results = s.results) (hn : t.nextId = s.nextId)
    (hf : t.freeSegments = s.freeSegments) (hl : t.lanes = s.lanes) (hc : t.cal.records = s.cal.records)
    (hp : t.plans = s.plans) (hs : P → ∀ i, (t.site i).state = .measuring ↔ (s.site i).state = .measuring) :
    Alike P s t where
  jobs := by rw [hj]; exact alikeJobs_refl _
  done j h _ _ := by rw [hj]; exact h
  results := by rw [hr]
  nextId := hn
  free := hf
  lanes l := by simp only [State.lane, hl]; exact .refl _
  status l := by simp only [State.calRecord, hc]
  plans j _ _ := planOf_of_plans hp j
  ordered h := by simpa only [State.plansOrdered, hp] using h
  matrix hP := ⟨fun l => by simp only [State.lane, hl], hs hP⟩

theorem Alike.refl (P : Prop) (s : State) : Alike P s s := .of_eq rfl rfl rfl rfl rfl rfl rfl fun _ _ => .rfl

section
variable (P : Prop) (s : State)

theorem raise_alike (k : EventKind) : Alike P s (s.raise k) := by
  refine .of_eq ?_ ?_ ?_ ?_ ?_ ?_ ?_ fun _ i => ?_ <;> simp

theorem callArbiter_alike : Alike P s s.callArbiter := .of_eq rfl rfl rfl rfl rfl rfl rfl fun _ _ => .rfl

theorem callArbiterIf_alike (b : Bool) : Alike P s (s.callArbiterIf b) := by
  cases b
  · exact .refl P s
  · exact callArbiter_alike P s

theorem setHead_alike (h : Option (List Nat)) : Alike P s (s.setHead h) := .of_eq rfl rfl rfl rfl rfl rfl rfl fun _ _ => .rfl
theorem reconsidered_alike : Alike P s s.reconsidered := .of_eq rfl rfl rfl rfl rfl rfl rfl fun _ _ => .rfl
theorem withPort_alike (p : Port) : Alike P s (s.withPort p) := .of_eq rfl rfl rfl rfl rfl rfl rfl fun _ _ => .rfl
theorem timebase_alike (t : Timebase) : Alike P s { s with timebase := t } :=
  .of_eq rfl rfl rfl rfl rfl rfl rfl fun _ _ => .rfl
theorem holding_alike (k t : Byte) (r : Reply) : Alike P s (s.holding k t r) :=
  .of_eq rfl rfl rfl rfl rfl rfl rfl fun _ _ => .rfl

/-- A site's record replaced by one that is MEASURING where the site was. -/
theorem setSite_alike {P : Prop} {s : State} (i : SiteId) (x : Site)
    (h : P → (x.state = .measuring ↔ (s.site i).state = .measuring)) : Alike P s (s.setSite i x) := by
  refine .of_eq rfl rfl rfl rfl rfl rfl rfl fun hP k => ?_
  rw [State.setSite_site]
  split
  · subst_vars; exact h hP
  · exact .rfl

/-- A lane's record replaced by one alike, with its connection. -/
theorem setLane_alike {P : Prop} {s : State} (l : LaneId) (x : Lane) (h : (s.lane l).Alike x)
    (hc : x.connected = (s.lane l).connected) : Alike P s (s.setLane l x) where
  jobs := alikeJobs_refl _
  done _ h _ _ := h
  results := .refl _
  nextId := rfl
  free := rfl
  lanes m := by
    rw [State.setLane_lane]
    split
    · subst_vars; exact h
    · exact .refl _
  status _ := rfl
  plans _ _ _ := rfl
  ordered := id
  matrix _ := by
    refine ⟨fun m => ?_, fun _ => .rfl⟩
    rw [State.setLane_lane]
    split
    · subst_vars; exact hc
    · rfl

/-- A change of records alike, of which those that no lane serves and that are DONE stand. -/
theorem mapJobs_alike {P : Prop} {s t : State} (f : Job → Job) (ht : t = { s with jobs := s.jobs.map f })
    (h : ∀ j ∈ s.jobs, j.Alike (f j))
    (hd : ∀ j ∈ s.jobs, j.state = .done → (∀ l, (s.lane l).job ≠ some j.id) → f j = j) : Alike P s t where
  jobs := by rw [ht]; exact alikeJobs_map h
  done j hj hs hl := by rw [ht]; exact List.mem_map.2 ⟨j, hj, hd j hj hs hl⟩
  results := by rw [ht]
  nextId := by rw [ht]
  free := by rw [ht]
  lanes _ := by rw [ht]; exact .refl _
  status _ := by rw [ht]; rfl
  plans _ _ _ := by rw [ht]; rfl
  ordered := by rw [ht]; exact id
  matrix _ := by rw [ht]; exact ⟨fun _ => rfl, fun _ => .rfl⟩

/-- The record of a job that a lane serves, or that has not ended, changed within what is alike. -/
theorem updateJob_alike {P : Prop} {s : State} (n : Nat) (f : Job → Job) (h : ∀ j ∈ s.jobs, j.id = n → j.Alike (f j))
    (hd : (∃ l, (s.lane l).job = some n) ∨ ∀ j ∈ s.jobs, j.id = n → j.state ≠ .done) : Alike P s (s.updateJob n f) := by
  refine mapJobs_alike (fun j => if j.id = n then f j else j) rfl (fun j hj => ?_) fun j hj hs hl => ?_
  · split
    · next hn => exact h j hj hn
    · exact .refl j
  · refine if_neg fun hn => ?_
    rcases hd with ⟨l, hd⟩ | hd
    · exact hl l (hn ▸ hd)
    · exact hd j hj hn hs

/-- A flag change on running jobs. -/
theorem flags_alike {P : Prop} {s t : State} (c : Job → Bool) (f : JobFlags → JobFlags)
    (ht : t = { s with jobs := s.jobs.map fun j => if c j then { j with flags := f j.flags } else j })
    (hc : ∀ j, c j = true → j.state.running = true) : Alike P s t := by
  refine mapJobs_alike _ ht (fun j _ => ?_) fun j _ hs _ => if_neg fun h => ?_
  · split <;> exact ⟨rfl, rfl, rfl, rfl, rfl, rfl, rfl, rfl, rfl, rfl⟩
  · have := hc j h; simp [hs, JobState.running] at this

theorem flagRunning_alike (f : JobFlags → JobFlags) : Alike P s (s.flagRunning f) :=
  flags_alike (fun j => j.state.running) f rfl fun _ h => h

theorem flagLevel_alike (i : SiteId) : Alike P s (s.flagLevel i) :=
  flags_alike (fun j => decide (j.site = i ∧ j.state.running = true)) (fun f => { f with level := true })
    (by simp [State.flagLevel]) fun _ h => (of_decide_eq_true h).2

theorem setCalRecord_alike {P : Prop} {s : State} (l : LaneId) (r : CalRecord) (h : r.status = (s.calRecord l).status) :
    Alike P s (s.setCalRecord l r) where
  jobs := alikeJobs_refl _
  done _ h _ _ := h
  results := .refl _
  nextId := rfl
  free := rfl
  lanes _ := .refl _
  status m := by
    rw [State.setCalRecord_calRecord]
    split
    · subst_vars; exact h
    · rfl
  plans _ _ _ := rfl
  ordered := id
  matrix _ := ⟨fun _ => rfl, fun _ => .rfl⟩

/-- Lanes moved between IDLE and RESERVED (R67, R68). -/
theorem moveLanes_alike {P : Prop} {s : State} {p q : LaneState} (hp : p.open = true) (hq : q.open = true) :
    Alike P s (s.moveLanes p q) where
  jobs := alikeJobs_refl _
  done _ h _ _ := h
  results := .refl _
  nextId := rfl
  free := rfl
  lanes l := by
    simp only [State.lane, State.moveLanes, Fin.getElem_fin, Vector.getElem_map]
    split
    · next h => exact ⟨.inr ⟨h ▸ hp, hq⟩, rfl, rfl, rfl⟩
    · exact .refl _
  status _ := rfl
  plans _ _ _ := rfl
  ordered := id
  matrix _ := by
    refine ⟨fun l => ?_, fun _ => .rfl⟩
    simp only [State.lane, State.moveLanes, Fin.getElem_fin, Vector.getElem_map]
    split <;> rfl

theorem openConnection_alike (i : SiteId) : Alike False s (s.openConnection i) where
  jobs := alikeJobs_refl _
  done _ h _ _ := h
  results := .refl _
  nextId := rfl
  free := rfl
  lanes l := by
    rw [openConnection_lane]
    split
    · exact ⟨.inl rfl, rfl, rfl, rfl⟩
    · exact .refl _
  status _ := rfl
  plans _ _ _ := rfl
  ordered := id
  matrix := nofun

theorem beginStep_alike (l : LaneId) (r : RangeId) : Alike P s (s.beginStep l r) := by
  refine (setLane_alike l { s.lane l with
      source := some r
      channels := Vector.replicate 2 ⟨Config.rangeCentre r * 10 ^ 9, .waiting⟩ } ⟨.inl rfl, rfl, rfl, rfl⟩ rfl).trans
    (setCalRecord_alike l _ rfl)

theorem settlePort_alike : Alike P s s.settlePort := by
  obtain ⟨p, hp⟩ : ∃ p, s.settlePort = s.withPort p := by
    unfold State.settlePort
    split
    · unfold State.beginFrame
      dsimp only
      split
      · exact ⟨_, rfl⟩
      split
      · split <;> exact ⟨_, rfl⟩
      · exact ⟨s.port, rfl⟩
    · exact ⟨s.port, rfl⟩
  exact hp ▸ withPort_alike P s p

theorem orderEnds_alike (before : List Nat) : Alike P s (s.orderEnds before) where
  jobs := alikeJobs_refl _
  done _ h _ _ := h
  results := by
    refine ((perm_idsOldestFirst s _).append_left _).trans ?_
    exact List.filter_append_perm (fun id => before.contains id) s.results
  nextId := rfl
  free := rfl
  lanes _ := .refl _
  status _ := rfl
  plans _ _ _ := rfl
  ordered := id
  matrix _ := ⟨fun _ => rfl, fun _ => .rfl⟩

theorem takeHead_alike (c : List Job) : Alike P s (s.takeHead c) := by
  unfold State.takeHead
  split
  · exact .refl P s
  · exact (moveLanes_alike rfl rfl).trans (setHead_alike P _ _)

end

/-! ### Moves -/

/-- The kinds of change an event is made of, while it carries out a request or none. Given `P`, changes of data alone leave the
switch matrix. -/
inductive Move (P : Prop) (req : Option Request) : State → State → Prop
  /-- Data alone changes. -/
  | alike {s t} (h : Alike P s t) : Move P req s t
  /-- A job ends without evaluation (R79). -/
  | ended (s e n) : Move P req s (s.endTerminal e n)
  /-- A site loses its carrier or its supply: its connection opens and at least its running jobs end (R76, R77). -/
  | shut {s u} (i e js) (hu : Alike False s u) (hl : u.lanes = s.lanes) (hj : u.jobs = s.jobs)
      (hs : ∀ k, k ≠ i → u.site k = s.site k) (hm : (u.site i).state ≠ .measuring)
      (hr : ∀ j ∈ s.jobs, j.site = i → j.state.running = true → j ∈ js) : Move P req s ((u.openConnection i).endJobs e js)
  /-- A job starts acquiring (R84). -/
  | begun {s j l} (hj : j ∈ s.jobs) (hs : j.state = .tuning ∨ j.state = .gangWait)
      (hl : j.lane = some l ∨ (s.lane l).job = some j.id) : Move P req s (s.startAcquisition j l)
  /-- A gang member waits for the others (R73). -/
  | waited {s j l} (hj : j ∈ s.jobs) (hs : j.state = .tuning) (hl : (s.lane l).job = some j.id) :
      Move P req s (s.enterGangWait j l)
  /-- A lane's tuning fails (R72). -/
  | failed {s j l} (hj : j ∈ s.jobs) (hs : j.state = .tuning) (hl : (s.lane l).job = some j.id) :
      Move P req s ((((s.returnBuffer j).releaseSite l).tuneOutcome j).releaseFailed l)
  /-- An acquisition ends (R103). -/
  | acquired {s j l a e d} (hj : ∃ k ∈ s.jobs, k.id = j.id ∧ k.state = .acquiring) (hl : (s.lane l).job = some j.id)
      (ha : (s.lane l).bands = some (a.bands.map BandAcq.band)) : Move P req s (s.endAcquisition l j a e d)
  /-- An evaluation ends (R104). -/
  | evaluated {s j l a} (hj : j ∈ s.jobs) (hs : j.state = .evaluating) (hl : (s.lane l).job = some j.id)
      (ha : (s.lane l).acquisition = some a) :
      Move P req s (((s.setFree (s.freeSegments + (j.buffer.map BufferSet.returned).getD 0)).recordEnd j.id
        (a.reason.getD .complete) (s.evaluate j a)).releaseLane l)
  /-- A member of a head is assigned to a lane (R69). -/
  | placed {s j l} (hj : j ∈ s.jobs) (hs : j.state = .queued) (hl : (s.lane l).state.open = true)
      (hn : (s.planOf j).segments ≤ s.freeSegments) (hr : P → (s.site j.site).state = .ready) : Move P req s (s.assignOne j l)
  /-- A job is accepted (R58). -/
  | added {s i p g u} (hq : ∃ a b c d, req = some (.jobSubmit a b c d)) (hs : s.submitRefusal i p g = none) :
      Move P req s (s.addJob (Job.fresh (s.freshId 65 s.nextId) s.nextSeq i p g u))
  /-- A group is released (R60). -/
  | grouped (s g) : Move P req s (s.releaseGroup g)
  /-- A DONE record is removed (R152). -/
  | dropped {s j v} (hq : req = some (.resultRelease v)) (hv : v.toNat = j.id) (hj : j ∈ s.jobs) (hs : j.state = .done) :
      Move P req s (s.dropJob j)
  /-- A lane calibrates at once (R63). -/
  | claimed {s l k r b} (hl : (s.lane l).state.serving = false) (hc : (s.lane l).state ≠ .calibrating)
      (hp : (s.lane l).calPending = false) :
      Move P req s ((s.setCalRecord l (CalRecord.claimed k r)).beginCalibration l b)
  /-- A lane is to calibrate when its job ends (R63). -/
  | claimedLater {s l k r} (hl : (s.lane l).state.serving = true) (hp : (s.lane l).calPending = false) :
      Move P req s (s.claimLater l k r)
  /-- A claim is cancelled (R162). -/
  | cancelled {s l} (h : (s.calRecord l).status = .pending) : Move P req s (s.cancelPending l)
  /-- A calibration ends (R161, R162). -/
  | calibrated {s l o} (h : (s.lane l).state = .calibrating ∨ (s.calRecord l).status = .running) (hr : o ≠ .running)
      (hp : o ≠ .pending) : Move P req s (s.endCalibration l o)

/-- A chain of moves. -/
abbrev Moves (P : Prop) (req : Option Request) : State → State → Prop := Relation.ReflTransGen (Move P req)

theorem Moves.of {P : Prop} {req : Option Request} {s t : State} (h : Move P req s t) : Moves P req s t := .single h
theorem Moves.alike {P : Prop} {req : Option Request} {s t : State} (h : Alike P s t) : Moves P req s t := .single (.alike h)

/-- A chain of moves keeps what each move keeps. -/
theorem Moves.keeps {P : Prop} {req : Option Request} {I : State → Prop} (h : ∀ s t, I s → Move P req s t → I t) {s t : State}
    (hm : Moves P req s t) (hs : I s) : I t := by
  induction hm with
  | refl => exact hs
  | tail _ hm ih => exact h _ _ ih hm

end Sys2Proof.Machine

/-! PROOFS. The shared operations of jobs and lanes, and the close of an event, as chains of moves; and that moves keep the ids
of the job table apart, for which an accepted job takes an id no record holds (R56). -/

namespace Sys2Proof.Machine

/-! ### The first id that no record holds (R56) -/

/-- The id reached from a value after a number of steps, as long as the ring has not been gone round. -/
theorem followingId_iterate (n : Nat) : ∀ k, k ≤ 65535 → (n = 0 → k ≤ 65534) →
    followingId^[k] n = if n ≤ 65535 ∧ 65535 < n + k then n + k - 65535 else n + k
  | 0, _, _ => by simp
  | k + 1, hk, h0 => by
    rw [Function.iterate_succ_apply', followingId_iterate n k (by omega) (by omega)]
    unfold followingId
    split <;> split <;> split <;> omega

theorem followingId_iterate_injOn (n : Nat) : Set.InjOn (fun k => followingId^[k] n) (Finset.range 65) := by
  intro a ha b hb hab
  simp only [Finset.coe_range, Set.mem_Iio] at ha hb
  simp only [followingId_iterate n a (by omega) (by omega), followingId_iterate n b (by omega) (by omega)] at hab
  split at hab <;> split at hab <;> omega

/-- The search for an id stops at the first one that is free, if it does not run out of steps. -/
theorem freshId_iterate (s : State) : ∀ steps n, ∃ m ≤ steps, s.freshId steps n = followingId^[m] n ∧
    (∀ i < m, (s.job? (followingId^[i] n)).isSome = true) ∧ (m < steps → s.job? (followingId^[m] n) = none)
  | 0, n => ⟨0, le_rfl, rfl, by simp, by simp⟩
  | steps + 1, n => by
    unfold State.freshId
    split
    · next h =>
      obtain ⟨m, hm, he, hu, hf⟩ := freshId_iterate s steps (followingId n)
      refine ⟨m + 1, by omega, he, fun i hi => ?_, fun hm => hf (by omega)⟩
      cases i with
      | zero => exact h
      | succ i => exact hu i (by omega)
    · next h => exact ⟨0, by omega, rfl, by simp, fun _ => by simpa using h⟩

/-- A value that a record holds as its id is among the ids of the table. -/
theorem mem_ids_of_job? {s : State} {n : Nat} (h : (s.job? n).isSome = true) : n ∈ s.jobs.map Job.id := by
  obtain ⟨j, hj⟩ := Option.isSome_iff_exists.1 h
  exact List.mem_map.2 ⟨j, job?_mem hj, job?_id hj⟩

theorem job?_eq_none_iff {s : State} {n : Nat} : s.job? n = none ↔ ∀ j ∈ s.jobs, j.id ≠ n := by
  simp [State.job?, List.find?_eq_none]

/-- In a table with a place free, the search from a value finds the first free id at or after it (R56). -/
theorem freshId_first {s : State} (h : s.jobs.length ≤ 64) (n : Nat) : ∃ m ≤ 64, s.freshId 65 n = followingId^[m] n ∧
    (∀ i < m, (s.job? (followingId^[i] n)).isSome = true) ∧ s.job? (s.freshId 65 n) = none := by
  obtain ⟨m, hm, he, hu, hf⟩ := freshId_iterate s 65 n
  have hlt : m < 65 := by
    by_contra hge
    have hsub : (Finset.range 65).image (fun k => followingId^[k] n) ⊆ (s.jobs.map Job.id).toFinset := by
      intro x hx
      obtain ⟨k, hk, rfl⟩ := Finset.mem_image.1 hx
      exact List.mem_toFinset.2 (mem_ids_of_job? (hu k (by have := Finset.mem_range.1 hk; omega)))
    have hcard := Finset.card_le_card hsub
    rw [Finset.card_image_of_injOn (followingId_iterate_injOn n), Finset.card_range] at hcard
    have hlist := List.toFinset_card_le (s.jobs.map Job.id)
    rw [List.length_map] at hlist
    omega
  exact ⟨m, by omega, he, hu, he ▸ hf hlt⟩

theorem submitRefusal_length {s : State} {i : SiteId} {p : PlanId} {g : Fin 16} (h : s.submitRefusal i p g = none) :
    s.jobs.length < 64 := by
  unfold State.submitRefusal at h
  split at h
  · cases h
  · omega

theorem freshId_free {s : State} {i : SiteId} {p : PlanId} {g : Fin 16} (h : s.submitRefusal i p g = none) :
    ∀ j ∈ s.jobs, j.id ≠ s.freshId 65 s.nextId :=
  job?_eq_none_iff.1 (freshId_first (submitRefusal_length h).le s.nextId).choose_spec.2.2.2

/-! ### Moves keep the ids apart -/

theorem alikeJobs_ids {js ks : List Job} (h : List.Forall₂ Job.Alike js ks) : ks.map Job.id = js.map Job.id := by
  induction h with
  | nil => rfl
  | cons a _ ih => simp [a.id, ih]

theorem Alike.ids {P : Prop} {s t : State} (h : Alike P s t) : t.jobs.map Job.id = s.jobs.map Job.id :=
  alikeJobs_ids h.jobs

theorem updateJob_ids (s : State) (n : Nat) {f : Job → Job} (hf : ∀ j : Job, (f j).id = j.id) :
    (s.updateJob n f).jobs.map Job.id = s.jobs.map Job.id := by
  simp only [State.updateJob, List.map_map]
  refine List.map_congr_left fun j _ => ?_
  simp only [Function.comp]
  split
  · exact hf j
  · rfl

theorem assignOne_ids (s : State) (j : Job) (l : LaneId) : (s.assignOne j l).jobs.map Job.id = s.jobs.map Job.id :=
  updateJob_ids (s.setSite j.site ((s.site j.site).connect s.now)) j.id fun _ => rfl

theorem tuneOutcome_distinct {s : State} (j : Job) (h : s.distinct) : (s.tuneOutcome j).distinct := by
  unfold State.tuneOutcome
  split
  · have : ((s.requeue j).jobs.map Job.id) = s.jobs.map Job.id := by
      simp only [State.requeue, State.callArbiter, State.updateJob, List.map_map]
      refine List.map_congr_left fun k _ => ?_
      simp only [Function.comp]
      split <;> rfl
    rwa [State.distinct, this]
  · exact (recordEnd_carried _ _ _ _).distinct h

theorem distinct_of_jobs {s t : State} (h : t.jobs = s.jobs) (hd : s.distinct) : t.distinct := by rwa [State.distinct, h]

theorem distinct_of_ids {s t : State} (h : t.jobs.map Job.id = s.jobs.map Job.id) (hd : s.distinct) : t.distinct := by
  rwa [State.distinct, h]

/-- Every move keeps the ids of the table apart. -/
theorem Move.distinct {P : Prop} {req : Option Request} {s t : State} (hd : s.distinct) (h : Move P req s t) :
    t.distinct := by
  cases h with
  | alike h => exact distinct_of_ids h.ids hd
  | ended e n => exact (endTerminal_carried e s n).distinct hd
  | shut i e js hu hl hj hs hm hr => exact (endJobs_carried _ _ _).distinct (distinct_of_jobs hj hd)
  | begun hj hs hl => exact (startAcquisition_carried _ _ _).distinct hd
  | waited hj hs hl => exact distinct_of_ids (updateJob_ids s _ fun _ => rfl) hd
  | failed hj hs hl =>
    refine distinct_of_jobs (releaseFailed_freed _ _).jobs (tuneOutcome_distinct _ ?_)
    exact (releaseSite_carried _ _).distinct ((returnBuffer_carried _ _).distinct hd)
  | acquired hj hl ha => exact (endAcquisition_carried _ _ _ _ _ _).distinct hd
  | evaluated hj hs hl ha =>
    exact (releaseLane_carried _ _).distinct ((recordEnd_carried _ _ _ _).distinct ((setFree_carried _ _).distinct hd))
  | placed hj hs hl hn hr => exact distinct_of_ids (assignOne_ids _ _ _) hd
  | added hq hs =>
    show ((s.jobs ++ [_]).map Job.id).Nodup
    rw [List.map_append, List.nodup_append]
    refine ⟨hd, List.nodup_singleton _, fun n hn m hm hnm => ?_⟩
    obtain ⟨j, hj, rfl⟩ := List.mem_map.1 hn
    exact freshId_free hs j hj (hnm.trans (List.mem_singleton.1 hm))
  | grouped g =>
    refine distinct_of_ids ?_ hd
    simp only [State.releaseGroup, State.callArbiter, List.map_map]
    refine List.map_congr_left fun j _ => ?_
    simp only [Function.comp]
    split <;> rfl
  | dropped hq hv hj hs =>
    unfold State.dropJob State.distinct
    rw [callArbiterIf_jobs]
    exact (List.filter_sublist.map Job.id).nodup hd
  | claimed hl hc hp => exact distinct_of_jobs (beginCalibration_calibrates _ _ _).jobs hd
  | claimedLater hl hp => exact hd
  | cancelled h => exact distinct_of_jobs (by simp [State.cancelPending]) hd
  | calibrated h hr hp => exact distinct_of_jobs (by simp [State.endCalibration]) hd

/-! ### Chains of job ends -/

section
variable {P : Prop} {req : Option Request}

theorem endJobs_moves (s : State) (e : EndReason) (js : List Job) : Moves P req s (s.endJobs e js) := by
  unfold State.endJobs
  induction (s.oldestFirst js).map Job.id generalizing s with
  | nil => exact .refl
  | cons n ns ih => exact (Moves.of (.ended s e n)).trans (ih _)

theorem siteAlert_alike {s : State} (i : SiteId) (x : Site)
    (h : P → (x.state = .measuring ↔ (s.site i).state = .measuring)) : Alike P s (s.siteAlert i x) :=
  ((setSite_alike i x h).trans (raise_alike P _ _)).trans (callArbiterIf_alike P _ _)

theorem siteReady_alike {s : State} (i : SiteId) (x : Site)
    (h : P → (x.state = .measuring ↔ (s.site i).state = .measuring)) : Alike P s (s.siteReady i x) :=
  ((setSite_alike i x h).trans (raise_alike P _ _)).trans (callArbiter_alike P _)

end

end Sys2Proof.Machine

/-! PROOFS. Every event's own effect, and every request's, as a chain of moves; and the induction over a step that follows. -/

namespace Sys2Proof.Machine

section
variable {P : Prop} {req : Option Request}

/-! ### The events of sites -/

/-- A site that runs something does not measure (section 1.2). -/
theorem Site.sound.not_measuring {x : Site} (h : x.sound) (ht : x.timer ≠ .stopped) : x.state ≠ .measuring := by
  intro hm
  have := h.1
  rw [hm] at this
  revert this
  cases hx : x.timer <;> simp_all [timerFits]

/-- A site's record replaced, where something runs at the site, by one that does not measure. -/
theorem setSite_timer_alike {s : State} (hP : P → s.sitesSound) (i : SiteId) (x : Site)
    (ht : (s.site i).timer ≠ .stopped) (hx : x.state ≠ .measuring) : Alike P s (s.setSite i x) :=
  setSite_alike i x fun h => iff_of_false hx ((hP h i).1.not_measuring ht)

/-- A site's record replaced by one in the same state. -/
theorem setSite_same_alike {s : State} (i : SiteId) (x : Site) (hx : x.state = (s.site i).state) :
    Alike P s (s.setSite i x) := setSite_alike i x fun _ => by rw [hx]

theorem supplyInhibitExpiry_moves {s : State} (hP : P → s.sitesSound) : Moves P req s s.supplyInhibitExpiry := by
  unfold State.supplyInhibitExpiry
  split
  · refine .alike (.of_eq rfl rfl rfl rfl rfl rfl rfl fun h i => ?_)
    simp only [State.site, Fin.getElem_fin, Vector.getElem_map]
    split
    · next hp =>
      have hoff := ((hP h i).1.2.2.2.2.1 hp).1
      simp only [State.site, Fin.getElem_fin] at hoff
      simp [Site.enterRamp, hoff]
    · exact .rfl
  · exact .refl

theorem blankingExpiry_moves {s : State} (hP : P → s.sitesSound) (i : SiteId) : Moves P req s (s.blankingExpiry i) := by
  unfold State.blankingExpiry
  split
  · next ht =>
    refine .alike (setSite_timer_alike hP i _ (by simp [ht]) ?_)
    unfold Site.enterWarming
    dsimp only
    split <;> simp [Site.enterChecking]
  · exact .refl

theorem currentCrossing_moves (s : State) (i : SiteId) (b : Bool) : Moves P req s (s.currentCrossing i b) := by
  unfold State.currentCrossing
  dsimp only
  split
  · exact .alike (setSite_same_alike i _ (by rfl))
  · exact .refl

theorem Site.overcurrent_state_ne (x : Site) (now : Word) : (x.overcurrent now).state ≠ .measuring := by
  unfold Site.overcurrent
  dsimp only
  split <;> simp [Site.switchOff]

theorem mem_endableAt {s : State} {i : SiteId} {j : Job} (hj : j ∈ s.jobs) (hi : j.site = i)
    (hr : j.state.running = true) : j ∈ s.endableAt i := List.mem_filter.2 ⟨hj, by simp [hi, hr]⟩

/-- A site that loses its carrier or its supply with an alert, with its connection and its jobs (R24, R76, R77). -/
theorem siteAlert_shut {s : State} (i : SiteId) (x : Site) (e : EndReason) (js : List Job) (hx : x.state ≠ .measuring)
    (hr : ∀ j ∈ s.jobs, j.site = i → j.state.running = true → j ∈ js) :
    Moves P req s (((s.siteAlert i x).openConnection i).endJobs e js) :=
  .of (.shut i e js (siteAlert_alike i x nofun) (siteAlert_lanes s i x) (siteAlert_jobs s i x)
    (fun k hk => by rw [siteAlert_site, if_neg (Ne.symm hk)]) (by rw [siteAlert_site, if_pos rfl]; exact hx) hr)

theorem overcurrent_moves (s : State) (i : SiteId) : Moves P req s (s.overcurrent i) := by
  unfold State.overcurrent
  split
  · refine siteAlert_shut i _ _ _ (Site.overcurrent_state_ne _ _) fun j hj hi hr => List.mem_filter.2 ⟨hj, ?_⟩
    simp [hi, hr]
  · exact .refl

theorem retryExpiry_moves {s : State} (hP : P → s.sitesSound) (i : SiteId) : Moves P req s (s.retryExpiry i) := by
  unfold State.retryExpiry
  split
  · next ht => exact .alike (setSite_timer_alike hP i _ (by simp [ht]) nofun)
  · exact .refl

theorem warmUpExpiry_moves {s : State} (hP : P → s.sitesSound) (i : SiteId) : Moves P req s (s.warmUpExpiry i) := by
  unfold State.warmUpExpiry
  split
  · next ht => exact .alike (setSite_timer_alike hP i _ (by simp [ht]) nofun)
  · exact .refl

theorem gateFound_alike {s : State} (hP : P → s.sitesSound) (i : SiteId) (c : CountRecord) (v : Rat)
    (ht : (s.site i).timer ≠ .stopped) : Alike P s (s.gateFound i c v) :=
  siteReady_alike i _ fun h => iff_of_false (by nofun) ((hP h i).1.not_measuring ht)

theorem carrierCheckGateEnd_moves {s : State} (hP : P → s.sitesSound) (i : SiteId) (f : Option Rat) (v : Rat) :
    Moves P req s (s.carrierCheckGateEnd i f v) := by
  unfold State.carrierCheckGateEnd
  dsimp only
  split
  · next ht =>
    have ht' : (s.site i).timer ≠ .stopped := by simp [ht]
    split
    · exact .alike (gateFound_alike hP i _ v ht')
    · exact (Moves.alike (siteAlert_alike i _ fun h => iff_of_false (by nofun) ((hP h i).1.not_measuring ht'))).trans
        (endJobs_moves _ _ _)
  · exact .refl

theorem recheckExpiry_moves (s : State) (i : SiteId) : Moves P req s (s.recheckExpiry i) := by
  unfold State.recheckExpiry
  split
  · exact .alike (setSite_same_alike i _ (by rfl))
  · exact .refl

theorem recheckGateEnd_moves {s : State} (hP : P → s.sitesSound) (i : SiteId) (f : Option Rat) (v : Rat) :
    Moves P req s (s.recheckGateEnd i f v) := by
  unfold State.recheckGateEnd
  dsimp only
  split
  · next ht =>
    split
    · exact .alike (gateFound_alike hP i _ v (by simp [ht]))
    · exact (Moves.alike (setSite_same_alike i _ (by rfl))).trans (endJobs_moves _ _ _)
  · exact .refl

theorem Site.read_state (x : Site) (r : Int) : (x.read r).1.state = x.state := by
  unfold Site.read
  dsimp only
  repeat' split
  all_goals rfl

/-- A class-change event, in a site that holds the reading (R20, R21). -/
theorem classChange_moves (s : State) (i : SiteId) (c : LevelClass) : Moves P req s (s.classChange i c) := by
  unfold State.classChange
  dsimp only
  split
  · next hx => exact (Moves.alike (siteAlert_alike i _ fun _ => iff_of_false (by nofun) (by simp [hx]))).trans
                 (endJobs_moves _ _ _)
  · exact .alike (setSite_same_alike i _ (by rfl))
  · exact siteAlert_shut i _ _ _ (by nofun) fun j hj hi hr => mem_endableAt hj hi hr
  · exact .alike (setSite_same_alike i _ (by rfl))
  · exact (Moves.alike (setSite_same_alike i _ (by rfl))).trans (Moves.alike (flagLevel_alike P _ i))
  · exact .refl

theorem levelReading_moves (s : State) (i : SiteId) (v : Rat) : Moves P req s (s.levelReading i v) := by
  unfold State.levelReading
  dsimp only
  split
  · have h : Alike P s (s.setSite i ((s.site i).read (readingOf v)).1) := setSite_same_alike i _ (Site.read_state _ _)
    split
    · exact .alike h
    · exact (Moves.alike h).trans (classChange_moves _ _ _)
  · exact .refl

/-! ### The events of the timebase -/

theorem report_moves (s : State) (t : Timebase) (f : JobFlags → JobFlags) : Moves P req s (s.report t f) :=
  .alike ((((timebase_alike P s t).trans (flagRunning_alike P _ f)).trans (raise_alike P _ _)).trans
    (callArbiterIf_alike P _ _))

theorem timebase_moves (s : State) (t : Timebase) : Moves P req s { s with timebase := t } := .alike (timebase_alike P s t)

theorem referencePresent_moves (s : State) : Moves P req s s.referencePresent := by
  unfold State.referencePresent
  dsimp only
  split
  · exact .refl
  split
  · exact report_moves _ _ _
  · exact report_moves _ _ _
  · exact timebase_moves _ _

theorem referenceAbsent_moves (s : State) : Moves P req s s.referenceAbsent := by
  unfold State.referenceAbsent
  dsimp only
  split
  · split
    · exact report_moves _ _ _
    · exact report_moves _ _ _
    · exact timebase_moves _ _
  · exact .refl

theorem windowEnd_moves (s : State) (o : Rat) : Moves P req s (s.windowEnd o) := by
  unfold State.windowEnd
  dsimp only
  split
  · exact .refl
  split
  · split
    · split
      · exact report_moves _ _ _
      · exact timebase_moves _ _
    · exact timebase_moves _ _
  · split
    · exact timebase_moves _ _
    · exact report_moves _ _ _
  · exact .refl
  · exact .refl

theorem holdoverExpiry_moves (s : State) : Moves P req s s.holdoverExpiry := by
  unfold State.holdoverExpiry
  split
  · exact report_moves _ _ _
  · exact .refl

/-! ### The events of lanes -/

theorem laneJob?_eq_some {s : State} {l : LaneId} {j : Job} (h : s.laneJob? l = some j) :
    j ∈ s.jobs ∧ (s.lane l).job = some j.id := by
  obtain ⟨n, hn, hj⟩ := Option.bind_eq_some_iff.1 h
  exact ⟨job?_mem hj, by rw [hn, job?_id hj]⟩

/-- The job a lane serves at a stage is a record of the table. -/
theorem jobOn_eq_some {s : State} {l : LaneId} {st : JobState} {j : Job} (h : s.jobOn l st = some j) :
    j ∈ s.jobs ∧ (s.lane l).job = some j.id ∧ j.state = st := by
  obtain ⟨hj, hst⟩ := Option.filter_eq_some_iff.1 h
  obtain ⟨hm, hl⟩ := laneJob?_eq_some hj
  exact ⟨hm, hl, by simpa using hst⟩

theorem running?_eq_some {s : State} {l : LaneId} {j : Job} {a : Acquisition} (h : s.running? l = some (j, a)) :
    j ∈ s.jobs ∧ (s.lane l).job = some j.id ∧ j.state = .acquiring ∧ (s.lane l).acquisition = some a := by
  unfold State.running? at h
  split at h
  · next hj ha =>
    cases h
    obtain ⟨hm, hl, hs⟩ := jobOn_eq_some hj
    exact ⟨hm, hl, hs, ha⟩
  · cases h

theorem writeRecount_alike {s : State} (i : SiteId) {n : Nat} {l : LaneId} (c : CountRecord)
    (hl : (s.lane l).job = some n) : Alike P s (s.writeRecount i n c) :=
  (setSite_same_alike i _ (by rfl)).trans
    (updateJob_alike n (fun j => { j with recount := some c })
      (fun _ _ _ => ⟨rfl, rfl, rfl, rfl, rfl, rfl, rfl, rfl, rfl, rfl⟩) (.inl ⟨l, hl⟩))

theorem recountGateEnd_moves (s : State) (l : LaneId) (f : Option Rat) (v : Rat) :
    Moves P req s (s.recountGateEnd l f v) := by
  unfold State.recountGateEnd
  split
  · next i n _ _ hn =>
    split
    · have hw := Moves.alike (P := P) (req := req) (writeRecount_alike i (s.countAt i f) hn)
      unfold State.takeRecount State.beginLock State.loseCarrier
      dsimp only
      split
      · exact hw.trans (Moves.alike (setLane_alike l _ ⟨.inl rfl, rfl, rfl, rfl⟩ (by rfl)))
      · exact hw.trans (siteAlert_shut i _ _ _ (by nofun) fun j hj hi hr => mem_endableAt hj hi hr)
    · exact .refl
  · exact .refl

theorem setTuneFailures_alike (s : State) (l : LaneId) (n : Nat) : Alike P s (s.setLane l { s.lane l with tuneFailures := n }) :=
  setLane_alike l _ ⟨.inl rfl, rfl, rfl, rfl⟩ rfl

theorem lockEvent_moves (s : State) (l : LaneId) : Moves P req s (s.lockEvent l) := by
  unfold State.lockEvent
  split
  · next j _ hj =>
    obtain ⟨hm, hl, hs⟩ := jobOn_eq_some hj
    have h := Moves.alike (req := req) (setTuneFailures_alike (P := P) s l 0)
    have hl' : ((s.setLane l { s.lane l with tuneFailures := 0 }).lane l).job = some j.id := by simp [hl]
    dsimp only
    split
    · exact h.trans (Moves.of (.begun hm (.inl hs) (.inr hl')))
    · exact h.trans (Moves.of (.waited hm hs hl'))
  · exact .refl

theorem lockTimerExpiry_moves (s : State) (l : LaneId) : Moves P req s (s.lockTimerExpiry l) := by
  unfold State.lockTimerExpiry
  split
  · next j _ hj =>
    obtain ⟨hm, hl, hs⟩ := jobOn_eq_some hj
    exact (Moves.alike (setTuneFailures_alike s l ((s.lane l).tuneFailures + 1))).trans
      (Moves.of (.failed hm hs (by simp [hl])))
  · exact .refl

theorem Acquisition.replace_bands (a : Acquisition) {x : BandAcq} :
    (a.replace x).bands.map BandAcq.band = a.bands.map BandAcq.band := by
  simp only [Acquisition.replace, List.map_map]
  refine List.map_congr_left fun y _ => ?_
  simp only [Function.comp]
  split
  · next h => exact h.symm
  · rfl

theorem setAcquisition_alike {s : State} (l : LaneId) {a b : Acquisition} (ha : (s.lane l).acquisition = some a)
    (hb : b.bands.map BandAcq.band = a.bands.map BandAcq.band) :
    Alike P s (s.setLane l { s.lane l with acquisition := some b }) :=
  setLane_alike l _ ⟨.inl rfl, rfl, rfl, by simp [Lane.bands, ha, hb]⟩ rfl

theorem completeBand_moves {s : State} {l : LaneId} {j : Job} {a : Acquisition} (hj : s.running? l = some (j, a))
    (x : BandAcq) (v : List BinSums) : Moves P req s (s.completeBand l j a x v) := by
  obtain ⟨hm, hl, hs, ha⟩ := running?_eq_some hj
  unfold State.completeBand
  dsimp only
  generalize x.complete _ v = y
  have hlane : Alike P s (s.setLane l { s.lane l with acquisition := some (a.replace y) }) :=
    setAcquisition_alike l ha a.replace_bands
  have hl' : ((s.setLane l { s.lane l with acquisition := some (a.replace y) }).lane l).job = some j.id := by simp [hl]
  have h := Moves.alike (req := req) (hlane.trans (updateJob_alike j.id (fun j => { j with
      counts := j.counts.map fun v => v.set y.band ⟨y.accepted, y.rejected⟩ })
    (fun _ _ _ => ⟨rfl, rfl, rfl, rfl, rfl, rfl, rfl, rfl, rfl, rfl⟩) (.inl ⟨l, hl'⟩)))
  split
  · exact h
  split
  · refine h.trans (Moves.of (.acquired ?_ ?_ ?_))
    · exact ⟨_, List.mem_map.2 ⟨j, hm, if_pos rfl⟩, rfl, hs⟩
    · exact hl'
    · simp [Lane.bands]
  · exact h

theorem bandCompletion_moves (s : State) (l : LaneId) (b : BandId) (v : List BinSums) :
    Moves P req s (s.bandCompletion l b v) := by
  unfold State.bandCompletion
  split
  · exact .refl
  next hj =>
  split
  · exact .refl
  split
  · exact completeBand_moves hj _ v
  · exact .refl

theorem captureDisturbance_moves (s : State) (l : LaneId) : Moves P req s (s.captureDisturbance l) := by
  unfold State.captureDisturbance
  split
  · exact .refl
  next a hj =>
  refine .alike (setAcquisition_alike l (running?_eq_some hj).2.2.2 ?_)
  simp [BandAcq.disturb, Function.comp_def]

theorem BufferSet.fill_shape (b : BufferSet) (g : List Segment) (hold : Bool) :
    ((b.fill g hold).bands, (b.fill g hold).roles) = (b.bands, b.roles) := by
  unfold BufferSet.fill
  split <;> rfl

theorem BufferSet.take_shape (b : BufferSet) : (b.take.bands, b.take.roles) = (b.bands, b.roles) := by
  unfold BufferSet.take
  split
  · split <;> rfl
  · rfl
  · rfl

theorem snapshotTimerExpiry_moves (s : State) (l : LaneId) : Moves P req s (s.snapshotTimerExpiry l) := by
  unfold State.snapshotTimerExpiry
  split
  · exact .refl
  next j a hj =>
  split
  · unfold State.snapshot
    dsimp only
    generalize (computeSpectrum (s.planOf j) a).segments = g
    have h : Alike P s (s.updateJob j.id fun j => { j with buffer := j.buffer.map fun b => b.fill g s.hold }) := by
      refine updateJob_alike j.id _ (fun k _ _ => ⟨rfl, rfl, rfl, rfl, rfl, rfl, rfl, rfl, rfl, ?_⟩)
        (.inl ⟨l, (running?_eq_some hj).2.1⟩)
      simp [Job.shape, Function.comp_def, BufferSet.fill_shape]
    split
    · exact .alike h
    · exact .alike (h.trans (raise_alike P _ _))
  · exact .refl

theorem maxDurationExpiry_moves (s : State) (l : LaneId) : Moves P req s (s.maxDurationExpiry l) := by
  unfold State.maxDurationExpiry
  split
  · exact .refl
  next j a hj =>
  obtain ⟨hm, hl, hs, ha⟩ := running?_eq_some hj
  split
  · exact .of (.acquired ⟨j, hm, rfl, hs⟩ hl (by simp [Lane.bands, ha]))
  · exact .refl

theorem evaluationEnd_moves (s : State) (l : LaneId) : Moves P req s (s.evaluationEnd l) := by
  unfold State.evaluationEnd
  split
  · next j a hj ha =>
    obtain ⟨hm, hl, hs⟩ := jobOn_eq_some hj
    exact .of (.evaluated hm hs hl ha)
  · exact .refl

/-! ### The events of the calibration unit -/

theorem setLock_alike (s : State) (l : LaneId) (ch : ChanId) (k : ChannelLock) :
    Alike P s (s.setLane l ((s.lane l).setLock ch k)) := setLane_alike l _ ⟨.inl rfl, rfl, rfl, rfl⟩ rfl

theorem calChannelLock_moves (s : State) (l : LaneId) (ch : ChanId) : Moves P req s (s.calChannelLock l ch) := by
  unfold State.calChannelLock
  split
  · exact .alike (setLock_alike s l ch _)
  · exact .refl

theorem calLockTimerExpiry_moves (s : State) (l : LaneId) (ch : ChanId) : Moves P req s (s.calLockTimerExpiry l ch) := by
  unfold State.calLockTimerExpiry
  have h := setLock_alike (P := P) s l ch .expired
  dsimp only
  split
  · split
    · exact .alike (h.trans (setCalRecord_alike l _ rfl))
    · exact .alike h
  · exact .refl

theorem working_alike (s : State) (v : CoefSet) : Alike P s { s with cal := { s.cal with working := v } } :=
  .of_eq rfl rfl rfl rfl rfl rfl rfl fun _ _ => .rfl

theorem measureChannel_alike (s : State) (l : LaneId) (r : RangeId) (ch : ChanId) (g : Rat) :
    Alike P s (s.measureChannel l r ch g) := by
  unfold State.measureChannel
  dsimp only
  split
  · split
    · exact (setCalRecord_alike l _ (by rfl)).trans (working_alike (s.setCalRecord l _) _)
    · exact setCalRecord_alike l _ (by rfl)
  · exact setCalRecord_alike l _ (by rfl)

theorem CalRecord.outcome_eq (x : CalRecord) : x.outcome = .done ∨ x.outcome = .bad := by
  unfold CalRecord.outcome
  split
  · exact .inl rfl
  · exact .inr rfl

@[simp] theorem measureChannel_lane (s : State) (l : LaneId) (r : RangeId) (ch : ChanId) (g : Rat) (m : LaneId) :
    (s.measureChannel l r ch g).lane m = s.lane m := by
  unfold State.measureChannel
  dsimp only
  repeat' split
  all_goals rfl

theorem measurementEvent_moves (s : State) (l : LaneId) (a b : Rat) : Moves P req s (s.measurementEvent l a b) := by
  unfold State.measurementEvent
  split
  · next r hc _ =>
    have h := Moves.alike (req := req)
      ((measureChannel_alike (P := P) s l r 0 a).trans (measureChannel_alike _ l r 1 b))
    dsimp only
    split
    · exact h.trans (Moves.alike (beginStep_alike P _ l _))
    · have ho := CalRecord.outcome_eq (((s.measureChannel l r 0 a).measureChannel l r 1 b).calRecord l)
      refine h.trans (Moves.of (.calibrated (.inl (by simp [hc])) ?_ ?_)) <;> rcases ho with ho | ho <;> simp [ho]
  · exact .refl

theorem storeCompletion_moves (s : State) : Moves P req s s.storeCompletion := by
  unfold State.storeCompletion
  split
  · exact .refl
  · exact .alike (.of_eq rfl rfl rfl rfl rfl rfl rfl fun _ _ => .rfl)

/-- The effect of every event that is not on the line, but for a power-on reset, is a chain of moves. -/
theorem effectOf_moves {c : Instr} (hl : onLine c = false) (hp : c ≠ .powerOnReset) {s : State} (hP : P → s.sitesSound) :
    Moves P req s (effectOf c s) := by
  cases c with
  | powerOnReset => exact absurd rfl hp
  | supplyInhibitExpiry => exact supplyInhibitExpiry_moves hP
  | blankingExpiry i => exact blankingExpiry_moves hP i
  | currentLimitCrossing i b => exact currentCrossing_moves s i b
  | overcurrent i => exact overcurrent_moves s i
  | retryExpiry i => exact retryExpiry_moves hP i
  | warmUpExpiry i => exact warmUpExpiry_moves hP i
  | carrierCheckGateEnd i f v => exact carrierCheckGateEnd_moves hP i f v
  | recheckExpiry i => exact recheckExpiry_moves s i
  | recheckGateEnd i f v => exact recheckGateEnd_moves hP i f v
  | levelReading i v => exact levelReading_moves s i v
  | referencePresentEvent => exact referencePresent_moves s
  | referenceAbsentEvent => exact referenceAbsent_moves s
  | windowEnd o => exact windowEnd_moves s o
  | holdoverExpiry => exact holdoverExpiry_moves s
  | recountGateEnd l f v => exact recountGateEnd_moves s l f v
  | lockEvent l => exact lockEvent_moves s l
  | lockTimerExpiry l => exact lockTimerExpiry_moves s l
  | bandCompletion l b v => exact bandCompletion_moves s l b v
  | captureDisturbance l => exact captureDisturbance_moves s l
  | snapshotTimerExpiry l => exact snapshotTimerExpiry_moves s l
  | maxDurationExpiry l => exact maxDurationExpiry_moves s l
  | evaluationEnd l => exact evaluationEnd_moves s l
  | calChannelLock l ch => exact calChannelLock_moves s l ch
  | calLockTimerExpiry l ch => exact calLockTimerExpiry_moves s l ch
  | measurementEvent l a b => exact measurementEvent_moves s l a b
  | storeCompletion => exact storeCompletion_moves s
  | referenceInputQualifyChange f => exact timebase_moves s _
  | _ => cases hl

end

end Sys2Proof.Machine

/-! PROOFS. Every request's effect as a chain of moves, and what it leaves of the line, the head and the reservations. -/

namespace Sys2Proof.Machine

section
variable {P : Prop} {req : Option Request}

/-! ### Sites -/

theorem Site.configure_state {x : Site} (hx : timerFits x.state x.timer = true) (c : SiteConfig) (now : Word) :
    (x.configure c now).state = .measuring ↔ x.state = .measuring := by
  unfold Site.configure Site.warmUpChanged
  split
  · exact .rfl
  · dsimp only
    split
    · next ht =>
      have hne : x.state ≠ .measuring := fun h => by rw [h, ht] at hx; cases hx
      split
      · exact iff_of_false (by simp [Site.enterChecking]) hne
      · exact .rfl
    · exact .rfl

theorem siteSet_moves {s : State} (hP : P → s.sitesSound) (f : SiteSetFields) : Moves P req s (s.siteSet f).1 := by
  unfold State.siteSet
  split
  · next i c _ _ => exact .alike (setSite_alike i _ fun h => Site.configure_state (hP h i).1.1 c _)
  · exact .refl

theorem powerOn_moves (s : State) (i : SiteId) : Moves P req s (s.powerOn i).1 := by
  unfold State.powerOn
  dsimp only
  split
  · exact .refl
  split
  · next h =>
    split
    · exact .alike (setSite_same_alike i _ (by rfl))
    · exact .alike (setSite_alike i _ fun _ => iff_of_false (by nofun) (by simp [h]))
  · exact .refl

theorem callArbiterIf_moves (s : State) (b : Bool) : Moves P req s (s.callArbiterIf b) := .alike (callArbiterIf_alike P s b)

theorem powerOff_moves (s : State) (i : SiteId) : Moves P req s (s.powerOff i).1 := by
  unfold State.powerOff
  dsimp only
  split
  · exact .refl
  · exact (Moves.alike (setSite_same_alike i _ (by rfl))).trans (endJobs_moves _ _ _)
  · refine Relation.ReflTransGen.trans (Moves.of (.shut i _ _ (setSite_alike i _ nofun) rfl rfl ?_ ?_ ?_))
      (callArbiterIf_moves _ _)
    · exact fun k hk => by rw [State.setSite_site, if_neg (Ne.symm hk)]
    · rw [State.setSite_site, if_pos rfl]; exact nofun
    · exact fun j hj hi hr => mem_endableAt hj hi hr

theorem siteClear_moves (s : State) (a : Byte) : Moves P req s (s.siteClear a).1 := by
  unfold State.siteClear
  split
  · exact .refl
  dsimp only
  split
  · next h => exact .alike (setSite_alike _ _ fun _ => iff_of_false (by nofun) (by simp [h]))
  · exact .refl

theorem refSet_moves (s : State) (a b c : Byte) : Moves P req s (s.refSet a b c).1 := by
  unfold State.refSet
  split
  · unfold State.setReference
    dsimp only
    split
    · exact report_moves _ _ _
    split
    · exact timebase_moves _ _
    · exact .refl
  · exact .refl

/-! ### Plans -/

theorem planShapeOf_ordered {f : PlanFields} {x : PlanShape} (h : planShapeOf f = some x) : x.startBand ≤ x.stopBand := by
  simp only [planShapeOf, Option.bind_eq_bind, Option.bind_eq_some_iff] at h
  obtain ⟨a, -, b, -, c, -, d, -, e, -, g, -, h⟩ := h
  split at h
  · next hs => cases h; exact hs.1
  · cases h

theorem checkPlan_ordered {s : State} {f : PlanFields} {p : Plan} (h : s.checkPlan f = .ok p) : p.startBand ≤ p.stopBand := by
  unfold State.checkPlan at h
  split at h
  · cases h
  next x hx =>
  dsimp only at h
  split at h
  · cases h
  split at h
  · cases h
  split at h
  · cases h
  · cases h; exact planShapeOf_ordered hx

/-- A plan slot of no job that is not DONE replaced or emptied (R47). -/
theorem setPlan_alike {s : State} (i : PlanId) (p : Option Plan) (hu : s.useCount i = 0)
    (hp : (p.getD Plan.blank).startBand ≤ (p.getD Plan.blank).stopBand) : Alike P s { s with plans := s.plans.set i p } where
  jobs := alikeJobs_refl _
  done _ h _ _ := h
  results := .refl _
  nextId := rfl
  free := rfl
  lanes _ := .refl _
  status _ := rfl
  plans j hj hs := by
    have hne : j.plan ≠ i := fun h => by
      have := List.countP_eq_zero.1 hu j hj
      simp [h, hs] at this
    simp only [State.planOf, Fin.getElem_fin]
    rw [Vector.getElem_set_ne _ _ (fun h => hne (Fin.ext h.symm))]
  ordered h q := by
    by_cases hq : i = q
    · subst hq
      simpa using hp
    · have := h q
      simp only [Fin.getElem_fin] at this ⊢
      rwa [Vector.getElem_set_ne _ _ (fun h => hq (Fin.ext h))]
  matrix _ := ⟨fun _ => rfl, fun _ => .rfl⟩

theorem planPut_moves (s : State) (f : PlanFields) : Moves P req s (s.planPut f).1 := by
  unfold State.planPut
  split
  · exact .refl
  split
  · exact .refl
  next hu =>
  split
  · exact .refl
  · next p hp => exact .alike (setPlan_alike _ (some p) (not_not.1 hu) (checkPlan_ordered hp))

theorem planDrop_moves (s : State) (a : Byte) : Moves P req s (s.planDrop a).1 := by
  unfold State.planDrop
  split
  · exact .refl
  split
  · exact .refl
  split
  · exact .refl
  · next hu => exact .alike (setPlan_alike _ none (not_not.1 hu) (le_refl (0 : BandId)))

theorem maskPut_moves (s : State) (f : MaskFields) : Moves P req s (s.maskPut f).1 := by
  unfold State.maskPut
  repeat' split
  all_goals exact .alike (.of_eq rfl rfl rfl rfl rfl rfl rfl fun _ _ => .rfl)

theorem maskDrop_moves (s : State) (a : Byte) : Moves P req s (s.maskDrop a).1 := by
  unfold State.maskDrop
  repeat' split
  all_goals exact .alike (.of_eq rfl rfl rfl rfl rfl rfl rfl fun _ _ => .rfl)

theorem binmapPut_moves (s : State) (v : Vector Byte 9) : Moves P req s (s.binmapPut v).1 := by
  unfold State.binmapPut
  split <;> exact .alike (.of_eq rfl rfl rfl rfl rfl rfl rfl fun _ _ => .rfl)

/-! ### Jobs and results -/

theorem jobSubmit_moves (s : State) (a b c d : Byte) :
    Moves P (some (.jobSubmit a b c d)) s (s.jobSubmit a b c d).1 := by
  unfold State.jobSubmit
  split
  · split
    · exact .refl
    · next i p g u _ _ _ _ _ hs =>
      have h := Moves.of (P := P) (Move.added (u := u) ⟨a, b, c, d, rfl⟩ hs)
      unfold State.submit
      dsimp only
      split
      · exact h.trans (Moves.of (.ended _ _ _))
      · exact h.trans (callArbiterIf_moves _ _)
  · exact .refl

theorem abortWhere_moves (s : State) (p : Job → Bool) : Moves P req s (s.abortWhere p).1 := endJobs_moves _ _ _

theorem jobAbort_moves (s : State) (a : Byte) (v : Half) : Moves P req s (s.jobAbort a v).1 := by
  unfold State.jobAbort State.abortJob
  dsimp only
  repeat' split
  all_goals first
    | exact abortWhere_moves _ _
    | exact .refl

theorem groupRelease_moves (s : State) (a : Byte) : Moves P req s (s.groupRelease a).1 := by
  unfold State.groupRelease
  split
  · exact .refl
  split
  · exact .refl
  split
  · exact .refl
  · exact .of (.grouped s _)

theorem snapTarget_eq_some {s : State} {l : LaneId} {n : Nat} {j : Job} {b : BufferSet} (h : s.snapTarget l n = some (j, b)) :
    s.laneJob? l = some j ∧ j.buffer = some b := by
  unfold State.snapTarget at h
  split at h
  · cases h
  next k hk =>
  split at h
  · cases h
  · obtain ⟨c, hc, h⟩ := Option.bind_eq_some_iff.1 h
    split at h
    · cases h; exact ⟨hk, hc⟩
    · cases h

theorem snapTake_moves {s : State} (hd : s.distinct) (a : Byte) (v : Half) : Moves P req s (s.snapTake a v).1 := by
  unfold State.snapTake
  split
  · exact .refl
  next l _ =>
  split
  · exact .refl
  next j b hb =>
  obtain ⟨hj, hb⟩ := snapTarget_eq_some hb
  obtain ⟨hm, hl⟩ := laneJob?_eq_some hj
  refine .alike (updateJob_alike j.id _ (fun k hk hid => ⟨rfl, rfl, rfl, rfl, rfl, rfl, rfl, rfl, rfl, ?_⟩) (.inl ⟨l, hl⟩))
  obtain rfl : k = j := List.inj_on_of_nodup_map hd hk hm hid
  simp [Job.shape, hb, b.take_shape]

theorem snapHold_moves (s : State) (a : Byte) : Moves P req s (s.snapHold a).1 := by
  unfold State.snapHold
  split <;> exact .alike (.of_eq rfl rfl rfl rfl rfl rfl rfl fun _ _ => .rfl)

theorem resultRelease_moves (s : State) (v : Half) : Moves P (some (.resultRelease v)) s (s.resultRelease v).1 := by
  unfold State.resultRelease
  split
  · exact .refl
  next j hj =>
  split
  · next hs => exact .of (.dropped rfl (job?_id hj).symm (job?_mem hj) hs)
  · exact .refl

/-! ### Calibrations -/

theorem claim_moves (s : State) (l : LaneId) (k : CalKind) (r : Vector Bool 4) : Moves P req s (s.claim l k r).1 := by
  unfold State.claim
  dsimp only
  split
  · exact .refl
  next h =>
  obtain ⟨hc, hp⟩ := not_or.1 h
  rw [Bool.not_eq_true] at hp
  split
  · next hv => exact .of (.claimedLater hv hp)
  · next hv => exact (Moves.of (.claimed (by simpa using hv) hc hp)).trans (callArbiterIf_moves _ _)

theorem calStart_moves (s : State) (f : CalStartFields) : Moves P req s (s.calStart f).1 := by
  unfold State.calStart
  split
  · split
    · exact .refl
    · exact claim_moves _ _ _ _
  · exact .refl

theorem calCancel_moves (s : State) (a : Byte) : Moves P req s (s.calCancel a).1 := by
  unfold State.calCancel
  split
  · exact .refl
  split
  · next h => exact .of (.calibrated (.inr h) nofun nofun)
  · next h => exact .of (.cancelled h)
  all_goals exact .refl

theorem calStore_moves (s : State) : Moves P req s s.calStore.1 := by
  unfold State.calStore
  split <;> exact .alike (.of_eq rfl rfl rfl rfl rfl rfl rfl fun _ _ => .rfl)

theorem calRevert_moves (s : State) (a : Byte) : Moves P req s (s.calRevert a).1 := by
  unfold State.calRevert
  repeat' split
  all_goals exact .alike (.of_eq rfl rfl rfl rfl rfl rfl rfl fun _ _ => .rfl)

/-! ### Requests that only read -/

theorem siteRead_state (s : State) (a : Byte) : (s.siteRead a).1 = s := by unfold State.siteRead; split <;> rfl
theorem planGet_state (s : State) (a : Byte) : (s.planGet a).1 = s := by
  unfold State.planGet
  repeat' split
  all_goals rfl
theorem maskGet_state (s : State) (a : Byte) : (s.maskGet a).1 = s := by
  unfold State.maskGet
  repeat' split
  all_goals rfl
theorem jobRead_state (s : State) (v : Half) : (s.jobRead v).1 = s := by unfold State.jobRead; split <;> rfl
theorem snapRead_state (s : State) (a : Byte) (v : Half) (b : Byte) : (s.snapRead a v b).1 = s := by
  unfold State.snapRead
  repeat' split
  all_goals rfl
theorem resultRead_state (s : State) (v : Half) (b : Byte) : (s.resultRead v b).1 = s := by
  unfold State.resultRead
  repeat' split
  all_goals rfl
theorem calRead_state (s : State) (a : Byte) : (s.calRead a).1 = s := by unfold State.calRead; split <;> rfl

/-- A request that only reads leaves the state. -/
theorem carryOut_readsOnly (s : State) {r : Request} (h : readsOnly r = true) : (s.carryOut r).1 = s := by
  cases r with
  | ident | status | refRead | binmapGet | resultList => rfl
  | siteRead a => exact siteRead_state s a
  | planGet a => exact planGet_state s a
  | maskGet a => exact maskGet_state s a
  | jobRead v => exact jobRead_state s v
  | snapRead a v b => exact snapRead_state s a v b
  | resultRead v b => exact resultRead_state s v b
  | calRead a => exact calRead_state s a
  | _ => cases h

/-! ### All requests -/

theorem sitePower_moves (s : State) (a b : Byte) : Moves P req s (s.sitePower a b).1 := by
  unfold State.sitePower
  split
  · exact powerOn_moves _ _
  · exact powerOff_moves _ _
  · exact .refl

/-- Carrying out a request is a chain of moves. -/
theorem carryOut_moves {s : State} (hd : s.distinct) (hP : P → s.sitesSound) (r : Request) :
    Moves P (some r) s (s.carryOut r).1 := by
  by_cases hr : readsOnly r = true
  · rw [carryOut_readsOnly s hr]
  cases r with
  | ident | status | refRead | binmapGet | resultList | siteRead | planGet | maskGet | jobRead | snapRead | resultRead
  | calRead => exact absurd rfl hr
  | reset => exact .refl
  | eventsMask m => exact .alike (.of_eq rfl rfl rfl rfl rfl rfl rfl fun _ _ => .rfl)
  | eventsClear k => exact .alike (.of_eq rfl rfl rfl rfl rfl rfl rfl fun _ _ => .rfl)
  | siteSet f => exact siteSet_moves hP f
  | sitePower a b => exact sitePower_moves s a b
  | siteClear a => exact siteClear_moves s a
  | refSet a b c => exact refSet_moves s a b c
  | planPut f => exact planPut_moves s f
  | planDrop a => exact planDrop_moves s a
  | maskPut f => exact maskPut_moves s f
  | maskDrop a => exact maskDrop_moves s a
  | binmapPut v => exact binmapPut_moves s v
  | jobSubmit a b c d => exact jobSubmit_moves s a b c d
  | jobAbort a v => exact jobAbort_moves s a v
  | groupRelease a => exact groupRelease_moves s a
  | snapTake a v => exact snapTake_moves hd a v
  | snapHold a => exact snapHold_moves s a
  | resultRelease v => exact resultRelease_moves s v
  | calStart f => exact calStart_moves s f
  | calCancel a => exact calCancel_moves s a
  | calStore => exact calStore_moves s
  | calRevert a => exact calRevert_moves s a

/-- The request a frame spells (R174); none for a frame that is refused. -/
def requestIn (f : Frame) : Option Request :=
  match decodeFrame f with
  | .request r => some r
  | _ => none

/-- Taking a frame is a chain of moves. -/
theorem take_moves {s : State} (hd : s.distinct) (hP : P → s.sitesSound) (f : Frame) :
    Moves P (requestIn f) s (s.take f) := by
  rw [take_eq]
  refine Relation.ReflTransGen.trans ?_ (Moves.alike (holding_alike P _ _ _ _))
  unfold State.answer requestIn
  cases decodeFrame f with
  | unknown => exact .refl
  | malformed => exact .refl
  | request r => exact carryOut_moves hd hP r

end

/-! ### What a request leaves of the line, the head and the reservations -/

theorem siteSet_touch (s : State) (f : SiteSetFields) : Touch s (s.siteSet f).1 := by
  unfold State.siteSet
  split
  · exact setSite_touch _ _ _
  · exact .refl s

theorem sitePower_touch (s : State) (a b : Byte) : Touch s (s.sitePower a b).1 := by
  unfold State.sitePower
  split
  · unfold State.powerOn
    dsimp only
    repeat' split
    all_goals first
      | exact .refl s
      | exact setSite_touch _ _ _
  · unfold State.powerOff
    dsimp only
    split
    · exact .refl s
    · exact (setSite_touch _ _ _).trans (endJobs_touch _ _ _)
    · exact (((setSite_touch _ _ _).trans (openConnection_touch _ _)).trans (endJobs_touch _ _ _)).trans
        (callArbiterIf_touch _ _)
  · exact .refl s

theorem siteClear_touch (s : State) (a : Byte) : Touch s (s.siteClear a).1 := by
  unfold State.siteClear
  split
  · exact .refl s
  dsimp only
  split
  · exact setSite_touch _ _ _
  · exact .refl s

theorem refSet_touch (s : State) (a b c : Byte) : Touch s (s.refSet a b c).1 := by
  unfold State.refSet
  split
  · unfold State.setReference
    dsimp only
    split
    · exact report_touch _ _ _
    split
    · exact timebase_touch _ _
    · exact .refl s
  · exact .refl s

theorem submit_touch (s : State) (i : SiteId) (p : PlanId) (g : Fin 16) (u : Priority) : Touch s (s.submit i p g u).1 := by
  have hadd (j : Job) : Touch s (s.addJob j) := .of_eq rfl rfl rfl id rfl
  unfold State.submit
  dsimp only
  split
  · exact (hadd _).trans (endTerminal_touch _ _ _)
  · exact (hadd _).trans (callArbiterIf_touch _ _)

theorem jobSubmit_touch (s : State) (a b c d : Byte) : Touch s (s.jobSubmit a b c d).1 := by
  unfold State.jobSubmit
  split
  · split
    · exact .refl s
    · exact submit_touch _ _ _ _ _
  · exact .refl s

theorem jobAbort_touch (s : State) (a : Byte) (v : Half) : Touch s (s.jobAbort a v).1 := by
  unfold State.jobAbort State.abortJob
  dsimp only
  repeat' split
  all_goals first
    | exact endJobs_touch _ _ _
    | exact .refl s

theorem groupRelease_touch (s : State) (a : Byte) : Touch s (s.groupRelease a).1 := by
  unfold State.groupRelease
  repeat' split
  all_goals first
    | exact .refl s
    | exact .of_eq rfl rfl rfl (fun _ => rfl) rfl

theorem snapTake_touch (s : State) (a : Byte) (v : Half) : Touch s (s.snapTake a v).1 := by
  unfold State.snapTake
  repeat' split
  all_goals first
    | exact .refl s
    | exact updateJob_touch _ _ _

theorem claim_touch (s : State) (l : LaneId) (k : CalKind) (r : Vector Bool 4) : Touch s (s.claim l k r).1 := by
  unfold State.claim
  dsimp only
  split
  · exact .refl s
  split
  · exact (setLane_touch s l { s.lane l with calPending := true } id id).trans (setCalRecord_touch _ _ _)
  · exact ((setCalRecord_touch s l _).trans (beginCalibration_touch _ _ _)).trans (callArbiterIf_touch _ _)

theorem calStart_touch (s : State) (f : CalStartFields) : Touch s (s.calStart f).1 := by
  unfold State.calStart
  split
  · split
    · exact .refl s
    · exact claim_touch _ _ _ _
  · exact .refl s

theorem calCancel_touch (s : State) (a : Byte) : Touch s (s.calCancel a).1 := by
  unfold State.calCancel
  split
  · exact .refl s
  split
  · exact endCalibration_touch _ _ _
  · exact ((setLane_touch s _ { s.lane _ with calPending := false } id id).trans (setCalRecord_touch _ _ _)).trans
      (raise_touch _ _)
  all_goals exact .refl s

/-- What every request but EVENTS_MASK, which writes notice due, and RESULT_RELEASE, which shortens the result list, leaves of
the line, the head, the reservations and the results. -/
theorem carryOut_touch (s : State) {r : Request} (hm : ∀ m, r ≠ .eventsMask m) (hv : ∀ v, r ≠ .resultRelease v) :
    Touch s (s.carryOut r).1 := by
  have heq (t : State) (hl : t.line = s.line) (hp : t.port = s.port) (hh : t.head = s.head)
      (hc : t.reconsider = s.reconsider) (hn : t.lanes = s.lanes) (hr : t.results = s.results) : Touch s t :=
    .of_eq hl hp hh (fun h => hc ▸ h) hn hr
  by_cases hr : readsOnly r = true
  · rw [carryOut_readsOnly s hr]
    exact .refl s
  cases r with
  | ident | status | refRead | binmapGet | resultList | siteRead | planGet | maskGet | jobRead | snapRead | resultRead
  | calRead => exact absurd rfl hr
  | reset => exact .refl s
  | eventsMask m => exact absurd rfl (hm m)
  | eventsClear k => exact heq _ rfl rfl rfl rfl rfl rfl
  | siteSet f => exact siteSet_touch s f
  | sitePower a b => exact sitePower_touch s a b
  | siteClear a => exact siteClear_touch s a
  | refSet a b c => exact refSet_touch s a b c
  | planPut f =>
    show Touch s (s.planPut f).1
    unfold State.planPut
    repeat' split
    all_goals exact heq _ rfl rfl rfl rfl rfl rfl
  | planDrop a =>
    show Touch s (s.planDrop a).1
    unfold State.planDrop
    repeat' split
    all_goals exact heq _ rfl rfl rfl rfl rfl rfl
  | maskPut f =>
    show Touch s (s.maskPut f).1
    unfold State.maskPut
    repeat' split
    all_goals exact heq _ rfl rfl rfl rfl rfl rfl
  | maskDrop a =>
    show Touch s (s.maskDrop a).1
    unfold State.maskDrop
    repeat' split
    all_goals exact heq _ rfl rfl rfl rfl rfl rfl
  | binmapPut v =>
    show Touch s (s.binmapPut v).1
    unfold State.binmapPut
    split <;> exact heq _ rfl rfl rfl rfl rfl rfl
  | jobSubmit a b c d => exact jobSubmit_touch s a b c d
  | jobAbort a v => exact jobAbort_touch s a v
  | groupRelease a => exact groupRelease_touch s a
  | snapTake a v => exact snapTake_touch s a v
  | snapHold a =>
    show Touch s (s.snapHold a).1
    unfold State.snapHold
    split <;> exact heq _ rfl rfl rfl rfl rfl rfl
  | resultRelease v => exact absurd rfl (hv v)
  | calStart f => exact calStart_touch s f
  | calCancel a => exact calCancel_touch s a
  | calStore =>
    show Touch s s.calStore.1
    unfold State.calStore
    split <;> exact heq _ rfl rfl rfl rfl rfl rfl
  | calRevert a =>
    show Touch s (s.calRevert a).1
    unfold State.calRevert
    repeat' split
    all_goals exact heq _ rfl rfl rfl rfl rfl rfl

end Sys2Proof.Machine

/-! PROOFS. The job table, the result list, groups and gangs: what each move does to them comes in five shapes, each of which
keeps them sound (R55, R56, R60, R61, R148, R149). -/

namespace Sys2Proof.Machine

/-! ### What a tune failure and an evaluation end leave of the job table -/

/-- A record back in QUEUED after a tune failure (R72). -/
def Job.requeued (n : Nat) (j : Job) : Job :=
  if j.id = n then { j with state := .queued, attempts := j.attempts + 1, lane := none, buffer := none } else j

/-- A state after a tune failure of a job on a lane (R72). -/
def State.tuneFailed (s : State) (j : Job) (l : LaneId) : State :=
  (((s.returnBuffer j).releaseSite l).tuneOutcome j).releaseFailed l

/-- A tune failure requeues a single job or ends the job (R72). -/
theorem tuneFailed_jobs (s : State) (j : Job) (l : LaneId) :
    (j.gang = none ∧ (s.tuneFailed j l).jobs = s.jobs.map (Job.requeued j.id) ∧
      (s.tuneFailed j l).results = s.results) ∨
    ∃ r, r.spectrum = none ∧ (s.tuneFailed j l).jobs = s.jobs.map (Job.afterEnd j.id .laneTune r) ∧
      (s.tuneFailed j l).results = s.results ++ [j.id] := by
  have hf := releaseFailed_freed (((s.returnBuffer j).releaseSite l).tuneOutcome j) l
  unfold State.tuneFailed
  rw [hf.jobs, hf.results]
  unfold State.tuneOutcome
  split
  · next hg =>
    refine .inl ⟨hg.1, ?_, by simp [State.requeue]⟩
    simp only [State.requeue, State.callArbiter, State.updateJob, releaseSite_jobs, returnBuffer_jobs, List.map_map]
    refine List.map_congr_left fun k _ => ?_
    by_cases h : k.id = j.id <;> simp [Job.requeued, h]
  · refine .inr ⟨((s.returnBuffer j).releaseSite l).resultFor j (terminalVerdict .laneTune) none, rfl, ?_, by simp⟩
    rw [recordEnd_jobs, releaseSite_jobs, returnBuffer_jobs, List.map_map]
    refine List.map_congr_left fun k _ => ?_
    by_cases h : k.id = j.id <;> simp [Job.afterEnd, h]

theorem tuneFailed_carried (s : State) (j : Job) (l : LaneId) : (s.tuneFailed j l).setting = s.setting := by
  have hf := releaseFailed_freed (((s.returnBuffer j).releaseSite l).tuneOutcome j) l
  refine hf.setting.trans ?_
  unfold State.tuneOutcome
  split
  · exact ((releaseSite_carried _ l).setting.trans (returnBuffer_carried s j).setting)
  · exact (recordEnd_carried _ _ _ _).setting.trans
      ((releaseSite_carried _ l).setting.trans (returnBuffer_carried s j).setting)

/-! ### The five shapes -/

/-- Two records alike in what the job table's soundness speaks of; their stages may differ where neither is HELD nor DONE. -/
structure Job.Staged (j k : Job) : Prop where
  id : k.id = j.id
  site : k.site = j.site
  group : k.group = j.group
  gang : k.gang = j.gang
  reason : k.reason = j.reason
  result : k.result = j.result
  stage : (k.state = j.state ∧ k.lane = j.lane ∧ (j.buffer = none → k.buffer = none)) ∨
    ((j.state ≠ .held ∧ j.state ≠ .done) ∧ (k.state ≠ .held ∧ k.state ≠ .done))

/-- The kinds of change a move makes to the job table. -/
inductive JobMove (req : Option Request) : State → State → Prop
  /-- Stages and data change. -/
  | staged {s t} (hj : List.Forall₂ Job.Staged s.jobs t.jobs) (hr : t.results.Perm s.results) (hn : t.nextId = s.nextId) :
      JobMove req s t
  /-- A job ends (R79). -/
  | ended {s t j e r} (hm : j ∈ s.jobs) (hs : j.state ≠ .done) (hj : t.jobs = s.jobs.map (Job.afterEnd j.id e r))
      (hr : t.results = s.results ++ [j.id]) (hn : t.nextId = s.nextId) : JobMove req s t
  /-- A job is accepted (R58). -/
  | added {s i p g u} (hq : ∃ a b c d, req = some (.jobSubmit a b c d)) (hs : s.submitRefusal i p g = none) :
      JobMove req s (s.addJob (Job.fresh (s.freshId 65 s.nextId) s.nextSeq i p g u))
  /-- A group is released (R60). -/
  | grouped (s g) : JobMove req s (s.releaseGroup g)
  /-- A DONE record is removed (R152). -/
  | dropped {s j v} (hq : req = some (.resultRelease v)) (hv : v.toNat = j.id) (hj : j ∈ s.jobs) (hs : j.state = .done) :
      JobMove req s (s.dropJob j)

/-- A chain of changes of the job table. -/
abbrev JobMoves (req : Option Request) : State → State → Prop := Relation.ReflTransGen (JobMove req)

theorem Job.Staged.refl (j : Job) : j.Staged j := ⟨rfl, rfl, rfl, rfl, rfl, rfl, .inl ⟨rfl, rfl, fun h => h⟩⟩

theorem Job.Alike.staged {j k : Job} (h : j.Alike k) : j.Staged k := by
  refine ⟨h.id, h.site, h.group, h.gang, h.reason, h.result, .inl ⟨h.state, h.lane, fun hb => ?_⟩⟩
  have hs := h.shape
  simpa [Job.shape, hb] using hs

section
variable {P : Prop} {req : Option Request}

/-- A record's stage changed. -/
theorem JobMoves.of_stage {s t : State} (f : Job → Job) (hj : t.jobs = s.jobs.map f) (hr : t.results = s.results)
    (hn : t.nextId = s.nextId) (hf : ∀ j ∈ s.jobs, j.Staged (f j)) : JobMoves req s t := by
  refine .single (.staged ?_ (by rw [hr]) hn)
  rw [hj, List.forall₂_map_right_iff, List.forall₂_same]
  exact hf

/-- A change of the record of one job, in a table of distinct ids. -/
theorem staged_update {s : State} (hd : s.distinct) {j : Job} (hj : j ∈ s.jobs) (f : Job → Job) (h : j.Staged (f j)) :
    ∀ k ∈ s.jobs, k.Staged (if k.id = j.id then f k else k) := by
  intro k hk
  split
  · next hid =>
    obtain rfl : k = j := List.inj_on_of_nodup_map hd hk hj hid
    exact h
  · exact .refl k

/-- The ways a job ends without evaluation, seen in the job table. -/
theorem endTerminal_jobMoves (e : EndReason) (s : State) (n : Nat) : JobMoves req s (s.endTerminal e n) := by
  rcases endTerminal_cases e s n with h | ⟨j, hj, -, hs, ⟨-, h⟩ | ⟨l, -, -, h⟩⟩
  · rw [h]
  · exact .single (.ended (job?_mem hj) hs (by rw [h, endRecord_jobs]) (by rw [h, endRecord_results])
      (nextId_of_setting (endTerminal_carried e s n).setting))
  · refine .single (.ended (job?_mem hj) hs (e := e) (r := (s.releaseSite l).terminalResult j (terminalVerdict e)) ?_ ?_ (nextId_of_setting (endTerminal_carried e s n).setting))
    · rw [h, (releaseLane_freed _ _).jobs, endRecord_jobs, releaseSite_jobs]
    · rw [h, (releaseLane_freed _ _).results, endRecord_results, releaseSite_results]

theorem endJobs_jobMoves (s : State) (e : EndReason) (js : List Job) : JobMoves req s (s.endJobs e js) := by
  unfold State.endJobs
  induction (s.oldestFirst js).map Job.id generalizing s with
  | nil => exact .refl
  | cons n ns ih => exact (endTerminal_jobMoves e s n).trans (ih _)

/-- Every move changes the job table in those ways. -/
theorem Move.jobMoves {s t : State} (hd : s.distinct) (h : Move P req s t) : JobMoves req s t := by
  have same (u : State) (hj : u.jobs = s.jobs) (hr : u.results = s.results) (hn : u.nextId = s.nextId) : JobMoves req s u :=
    .of_stage id (by simpa using hj) hr hn fun j _ => .refl j
  cases h with
  | alike h => exact .single (.staged (h.jobs.imp fun _ _ => Job.Alike.staged) h.results h.nextId)
  | ended e n => exact endTerminal_jobMoves e s n
  | @shut u i e js hu hl hj hs hm hr =>
    have ho : Alike False s (u.openConnection i) := hu.trans (openConnection_alike u i)
    exact Relation.ReflTransGen.trans
      (.single (.staged (ho.jobs.imp fun _ _ => Job.Alike.staged) ho.results ho.nextId)) (endJobs_jobMoves _ e js)
  | @begun j l hj hs hl =>
    refine .of_stage _ rfl rfl rfl (staged_update hd hj _ ⟨rfl, rfl, rfl, rfl, rfl, rfl, .inr ⟨?_, by simp⟩⟩)
    rcases hs with hs | hs <;> simp [hs]
  | waited hj hs hl =>
    exact .of_stage _ rfl rfl rfl (staged_update hd hj _ ⟨rfl, rfl, rfl, rfl, rfl, rfl, .inr ⟨by simp [hs], by simp⟩⟩)
  | @failed j l hj hs hl =>
    have hn := nextId_of_setting (tuneFailed_carried s j l)
    rcases tuneFailed_jobs s j l with ⟨-, hjs, hr⟩ | ⟨r, -, hjs, hr⟩
    · exact .of_stage _ hjs hr hn
        (staged_update hd hj _ ⟨rfl, rfl, rfl, rfl, rfl, rfl, .inr ⟨by simp [hs], by simp⟩⟩)
    · exact .single (.ended hj (by simp [hs]) hjs hr hn)
  | @acquired j l a e d hj hl ha =>
    obtain ⟨k, hk, hid, hs⟩ := hj
    refine .of_stage (fun x => if x.id = j.id then { x with state := .evaluating, duration := some d } else x)
      (by rw [State.endAcquisition, releaseSite_jobs]; rfl) (by rw [State.endAcquisition, releaseSite_results]; rfl)
      (nextId_of_setting (endAcquisition_carried s l j a e d).setting) ?_
    rw [← hid]
    exact staged_update hd hk _ ⟨rfl, rfl, rfl, rfl, rfl, rfl, .inr ⟨by simp [hs], by simp⟩⟩
  | @evaluated j l a hj hs hl ha =>
    refine .single (.ended (e := a.reason.getD .complete) (r := s.evaluate j a) hj (by simp [hs]) ?_ ?_ (nextId_of_setting (((releaseLane_freed _ _).setting).trans
      ((recordEnd_carried _ _ _ _).setting.trans (setFree_carried _ _).setting))))
    · rw [(releaseLane_freed _ _).jobs, recordEnd_jobs]; rfl
    · rw [(releaseLane_freed _ _).results, recordEnd_results]; rfl
  | placed hj hs hl hn hr =>
    exact .of_stage _ rfl rfl rfl (staged_update hd hj _ ⟨rfl, rfl, rfl, rfl, rfl, rfl, .inr ⟨by simp [hs], by simp⟩⟩)
  | added hq hs => exact .single (.added hq hs)
  | grouped g => exact .single (.grouped s g)
  | dropped hq hv hj hs => exact .single (.dropped hq hv hj hs)
  | claimed hl hc hp =>
    have h := beginCalibration_calibrates
    exact same _ (beginCalibration_calibrates _ _ _).jobs (beginCalibration_calibrates _ _ _).results
      (nextId_of_setting (beginCalibration_calibrates _ _ _).setting)
  | claimedLater hl hp => exact same _ rfl rfl rfl
  | cancelled h =>
    exact same _ (by simp [State.cancelPending]) (by simp [State.cancelPending])
      (nextId_of_setting (by simp [State.cancelPending]))
  | calibrated h hr hp =>
    exact same _ (by simp [State.endCalibration]) (by simp [State.endCalibration])
      (nextId_of_setting (by simp [State.endCalibration]))

/-! ### The job table (R55, R56, R148, R149) -/

/-- A record fits the result list. -/
def Job.fits (rs : List Nat) (j : Job) : Prop :=
  (1 ≤ j.id ∧ j.id ≤ 65535) ∧ (j.state = .done ↔ j.id ∈ rs) ∧ (j.state = .done ↔ j.result ≠ none) ∧
    (j.state = .done ↔ j.reason ≠ none) ∧ (j.state = .done → j.gang = none ∧ j.lane = none ∧ j.buffer = none) ∧
    ∀ g ∈ j.gang, j.id ∈ g

/-- The records of a sound job table fit its result list. -/
theorem jobsSound_fits {s : State} (h : s.jobsSound) {j : Job} (hj : j ∈ s.jobs) : j.fits s.results := h.2.2.2.2.1 j hj

theorem jobsSound_distinct {s : State} (h : s.jobsSound) : s.distinct := h.2.1

theorem Job.Staged.fits {j k : Job} {rs : List Nat} (h : j.Staged k) (hj : j.fits rs) : k.fits rs := by
  obtain ⟨hi, hd, hr, he, hn, hg⟩ := hj
  have hdone : k.state = .done ↔ j.state = .done := by
    rcases h.stage with ⟨h, -⟩ | ⟨h, h'⟩
    · rw [h]
    · simp [h.2, h'.2]
  refine ⟨h.id ▸ hi, ?_, ?_, ?_, fun hk => ?_, fun g hgk => ?_⟩
  · rw [hdone, h.id]; exact hd
  · rw [hdone, h.result]; exact hr
  · rw [hdone, h.reason]; exact he
  · obtain ⟨hgang, hlane, hbuf⟩ := hn (hdone.1 hk)
    rcases h.stage with ⟨-, hl, hb⟩ | ⟨-, -, hk'⟩
    · exact ⟨h.gang.trans hgang, hl.trans hlane, hb hbuf⟩
    · exact absurd hk hk'
  · rw [h.id]; exact hg g (h.gang ▸ hgk)

theorem Job.fits_perm {rs rs' : List Nat} (h : rs'.Perm rs) {j : Job} (hj : j.fits rs) : j.fits rs' := by
  unfold Job.fits at *
  rwa [h.mem_iff]

theorem forall₂_exists {α β : Type} {R : α → β → Prop} {xs : List α} {ys : List β} (h : List.Forall₂ R xs ys) :
    ∀ y ∈ ys, ∃ x ∈ xs, R x y := by
  induction h with
  | nil => simp
  | cons a _ ih =>
    intro y hy
    rcases List.mem_cons.1 hy with rfl | hy
    · exact ⟨_, List.mem_cons_self .., a⟩
    · obtain ⟨x, hx, h⟩ := ih y hy
      exact ⟨x, List.mem_cons_of_mem _ hx, h⟩

theorem staged_ids {js ks : List Job} (h : List.Forall₂ Job.Staged js ks) : ks.map Job.id = js.map Job.id := by
  induction h with
  | nil => rfl
  | cons a _ ih => simp [a.id, ih]

theorem Job.afterEnd_fits {n : Nat} {e : EndReason} {r : Result} {rs : List Nat} {j : Job} (h : j.fits rs) :
    (j.afterEnd n e r).fits (rs ++ [n]) := by
  obtain ⟨hi, hd, hr, he, hn, hg⟩ := h
  by_cases hid : j.id = n
  · rw [Job.afterEnd_self hid]
    exact ⟨hi, by simp [hid], by simp, by simp, by simp, by simp⟩
  · rw [Job.afterEnd_other hid]
    refine ⟨hi, by simpa [hid] using hd, hr, he, fun h => ?_, fun g hgj => ?_⟩
    · obtain ⟨hg, hl, hb⟩ := hn h
      exact ⟨by simp [hg], hl, hb⟩
    · obtain ⟨g', hg', rfl⟩ := Option.mem_map.1 hgj
      exact List.mem_filter.2 ⟨hg g' hg', by simpa using hid⟩

/-- A record at its acceptance has not ended. -/
theorem Job.fresh_not_done (n q : Nat) (i : SiteId) (p : PlanId) (g : Fin 16) (u : Priority) :
    (Job.fresh n q i p g u).state ≠ .done := by
  simp only [Job.fresh]
  split <;> nofun

theorem followingId_range {n : Nat} (h : 1 ≤ n ∧ n ≤ 65535) : 1 ≤ followingId n ∧ followingId n ≤ 65535 := by
  unfold followingId
  split <;> omega

theorem freshId_range (s : State) : ∀ steps n, (1 ≤ n ∧ n ≤ 65535) → 1 ≤ s.freshId steps n ∧ s.freshId steps n ≤ 65535
  | 0, _, h => h
  | steps + 1, n, h => by
    unfold State.freshId
    split
    · exact freshId_range s steps _ (followingId_range h)
    · exact h

/-- Every change of the job table keeps it sound. -/
theorem JobMove.jobsSound {s t : State} (h : JobMove req s t) (hs : s.jobsSound) : t.jobsSound := by
  obtain ⟨hlen, hd, hrs, hn, hfit, hsub⟩ := hs
  cases h with
  | staged hj hr hn' =>
    refine ⟨hj.length_eq ▸ hlen, ?_, hr.nodup_iff.2 hrs, hn'.symm ▸ hn, fun k hk => ?_, fun id hid => ?_⟩
    · rw [staged_ids hj]; exact hd
    · obtain ⟨j, hjm, hjk⟩ := forall₂_exists hj k hk
      exact Job.fits_perm hr (hjk.fits (hfit j hjm))
    · rw [staged_ids hj]; exact hsub id (hr.mem_iff.1 hid)
  | @ended t j e r hm hs' hj hr hn' =>
    have hids : t.jobs.map Job.id = s.jobs.map Job.id := by simp [hj, Function.comp_def]
    refine ⟨by rw [hj, List.length_map]; exact hlen, by rw [hids]; exact hd, ?_, hn'.symm ▸ hn, fun k hk => ?_, fun id hid => ?_⟩
    · rw [hr, List.nodup_append]
      refine ⟨hrs, List.nodup_singleton _, fun a ha b hb hab => hs' ((hfit j hm).2.1.2 ?_)⟩
      rw [← List.mem_singleton.1 hb, ← hab]
      exact ha
    · rw [hj] at hk
      obtain ⟨x, hx, rfl⟩ := List.mem_map.1 hk
      rw [hr]
      exact Job.afterEnd_fits (hfit x hx)
    · rw [hids]
      rcases List.mem_append.1 (hr ▸ hid) with h | h
      · exact hsub id h
      · exact List.mem_singleton.1 h ▸ List.mem_map_of_mem hm
  | @added i p g u hq hsr =>
    have hnot := freshId_free hsr
    have hr := freshId_range s 65 _ hn
    refine ⟨?_, ?_, hrs, followingId_range hr, fun k hk => ?_, fun id hid => ?_⟩
    · have := submitRefusal_length hsr
      simp only [State.addJob, List.length_append, List.length_singleton]
      omega
    · exact Move.distinct (P := True) hd (.added hq hsr)
    · rcases List.mem_append.1 hk with hk | hk
      · exact hfit k hk
      · rw [List.mem_singleton.1 hk]
        have hnd := Job.fresh_not_done (s.freshId 65 s.nextId) s.nextSeq i p g u
        refine ⟨hr, ?_, iff_of_false hnd (not_not.2 rfl), iff_of_false hnd (not_not.2 rfl), fun h => absurd h hnd, nofun⟩
        refine iff_of_false hnd fun hmem => ?_
        obtain ⟨j, hj, hid⟩ := List.mem_map.1 (hsub _ hmem)
        exact hnot j hj hid
    · exact List.mem_map.2 ((List.mem_map.1 (hsub id hid)).imp fun j hj => ⟨List.mem_append_left _ hj.1, hj.2⟩)
  | grouped g =>
    refine ⟨?_, ?_, hrs, hn, fun k hk => ?_, fun id hid => ?_⟩
    · simpa [State.releaseGroup, State.callArbiter] using hlen
    · exact Move.distinct (P := True) (req := req) hd (.grouped s g)
    · obtain ⟨j, hj, rfl⟩ := List.mem_map.1 hk
      obtain ⟨hi, hdn, hr, he, hno, hg⟩ := hfit j hj
      split
      · next h =>
        have hnd : j.state ≠ .done := by simp [h.1]
        refine ⟨hi, ?_, ?_, ?_, by simp, ?_⟩
        · exact iff_of_false (by simp) fun hmem => hnd (hdn.2 hmem)
        · exact iff_of_false (by simp) fun hres => hnd (hr.2 hres)
        · exact iff_of_false (by simp) fun hrea => hnd (he.2 hrea)
        · rintro g' ⟨⟩
          have hmem : j ∈ s.heldSet g := by
            rw [heldSet_eq_filter]
            exact List.mem_filter.2 ⟨hj, decide_eq_true h⟩
          exact List.mem_map.2 ⟨j, hmem, rfl⟩
      · exact ⟨hi, hdn, hr, he, hno, hg⟩
    · have hids : (s.releaseGroup g).jobs.map Job.id = s.jobs.map Job.id := by
        simp only [State.releaseGroup, State.callArbiter, List.map_map]
        refine List.map_congr_left fun j _ => ?_
        simp only [Function.comp]
        split <;> rfl
      rw [hids]
      exact hsub id hid
  | @dropped j v hq hv hj hs' =>
    have hjobs : (s.dropJob j).jobs = s.jobs.filter fun k => k.id != j.id := by
      rw [State.dropJob, callArbiterIf_jobs]
    have hres : (s.dropJob j).results = s.results.filter fun i => i != j.id := by
      rw [State.dropJob, State.callArbiterIf_results]
    refine ⟨?_, ?_, ?_, ?_, fun k hk => ?_, fun id hid => ?_⟩
    · rw [hjobs]; exact (List.length_filter_le _ _).trans hlen
    · exact Move.distinct (P := True) hd (.dropped hq hv hj hs')
    · rw [hres]; exact hrs.filter _
    · rw [State.dropJob, State.callArbiterIf_nextId]; exact hn
    · rw [hjobs] at hk
      rw [hres]
      obtain ⟨hk, hne⟩ := List.mem_filter.1 hk
      obtain ⟨hi, hdn, hrest⟩ := hfit k hk
      refine ⟨hi, ?_, hrest⟩
      rw [hdn, List.mem_filter]
      exact ⟨fun h => ⟨h, hne⟩, fun h => h.1⟩
    · rw [hres] at hid
      rw [hjobs]
      obtain ⟨hid, hne⟩ := List.mem_filter.1 hid
      obtain ⟨k, hk, rfl⟩ := List.mem_map.1 (hsub id hid)
      exact List.mem_map_of_mem (List.mem_filter.2 ⟨hk, hne⟩)

/-! ### Groups and gangs (R55, R60, R61) -/

/-- No two held jobs of a group are for one site (R60). -/
def State.heldApart (s : State) (j : Job) : Prop :=
  ∀ k ∈ s.jobs, j.state = .held → k.state = .held → j.group = k.group → j.site = k.site → j.id = k.id

/-- A gang field lists at most four jobs, each with that gang field and past HELD, for different sites (R61). -/
def State.gangHolds (s : State) (j : Job) (g : List Nat) : Prop :=
  g.length ≤ 4 ∧ ∀ id ∈ g, ∃ k ∈ s.jobs, k.id = id ∧ k.gang = some g ∧ k.state ≠ .held ∧ (k.site = j.site → k.id = j.id)

theorem gangsSound_iff {s : State} : s.gangsSound ↔
    (∀ g, (s.heldSet g).length ≤ 4) ∧ ∀ j ∈ s.jobs, s.heldApart j ∧ ∀ g ∈ j.gang, s.gangHolds j g := .rfl

/-- Whether a record is of the held set of a group. -/
def Job.heldIn (g : Fin 16) (j : Job) : Bool := j.state == .held && j.group == g

theorem heldSet_length (s : State) (g : Fin 16) : (s.heldSet g).length = s.jobs.countP (Job.heldIn g) :=
  List.countP_eq_length_filter.symm

theorem Job.Staged.held {j k : Job} (h : j.Staged k) : k.state = .held ↔ j.state = .held := by
  rcases h.stage with ⟨h, -⟩ | ⟨h, h'⟩
  · rw [h]
  · simp [h.1, h'.1]

theorem staged_countP {js ks : List Job} (h : List.Forall₂ Job.Staged js ks) (g : Fin 16) :
    ks.countP (Job.heldIn g) = js.countP (Job.heldIn g) := by
  induction h with
  | nil => rfl
  | @cons j k _ _ a _ ih =>
    have : k.heldIn g = j.heldIn g := by
      rw [Bool.eq_iff_iff]
      simp [Job.heldIn, a.held, a.group]
    rw [List.countP_cons, List.countP_cons, ih, this]

/-- Held jobs stay apart where every held record has one that was held in the group and for the site. -/
theorem heldApart_of {s t : State} {j k : Job} (h : s.heldApart j) (hid : k.id = j.id)
    (hk : k.state = .held → j.state = .held ∧ j.group = k.group ∧ j.site = k.site)
    (ht : ∀ x ∈ t.jobs, x.state = .held → ∃ y ∈ s.jobs, y.id = x.id ∧ y.state = .held ∧ y.group = x.group ∧ y.site = x.site) :
    t.heldApart k := by
  intro x hx hks hxs hg hsite
  obtain ⟨hjs, hjg, hjsite⟩ := hk hks
  obtain ⟨y, hy, hyid, hys, hyg, hysite⟩ := ht x hx hxs
  rw [hid, ← hyid]
  exact h y hy hjs hys (by rw [hjg, hyg, hg]) (by rw [hjsite, hysite, hsite])

/-- Every change of a sound job table keeps groups and gangs sound. -/
theorem JobMove.gangsSound {s t : State} (h : JobMove req s t) (hs : s.jobsSound) (hg : s.gangsSound) : t.gangsSound := by
  rw [gangsSound_iff] at hg ⊢
  obtain ⟨hlen, hgang⟩ := hg
  cases h with
  | staged hj hr hn =>
    refine ⟨fun g => ?_, fun k hk => ?_⟩
    · rw [heldSet_length, staged_countP hj, ← heldSet_length]
      exact hlen g
    obtain ⟨j, hjm, hjk⟩ := forall₂_exists hj k hk
    obtain ⟨hapart, hmem⟩ := hgang j hjm
    refine ⟨heldApart_of hapart hjk.id (fun h => ⟨hjk.held.1 h, hjk.group.symm, hjk.site.symm⟩) fun x hx hxs => ?_,
      fun g hgk => ?_⟩
    · obtain ⟨y, hy, hyx⟩ := forall₂_exists hj x hx
      exact ⟨y, hy, hyx.id.symm, hyx.held.1 hxs, hyx.group.symm, hyx.site.symm⟩
    · obtain ⟨hl, hall⟩ := hmem g (hjk.gang ▸ hgk)
      refine ⟨hl, fun id hid => ?_⟩
      obtain ⟨x, hx, hxid, hxg, hxs, hxsite⟩ := hall id hid
      obtain ⟨y, hy, hxy⟩ := forall₂_exists hj.flip x hx
      exact ⟨y, hy, hxy.id.trans hxid, hxy.gang.trans hxg, fun h => hxs (hxy.held.1 h), fun h => by
        rw [hxy.id, hjk.id]; exact hxsite (by rw [← hxy.site, ← hjk.site, h])⟩
  | @ended t j e r hm hs' hj hr hn =>
    have hheld (x : Job) (h : (x.afterEnd j.id e r).state = .held) : x.id ≠ j.id ∧ x.state = .held ∧
        x.group = (x.afterEnd j.id e r).group := by
      by_cases hx : x.id = j.id
      · rw [Job.afterEnd_self hx] at h; cases h
      · rw [Job.afterEnd_other hx] at h ⊢; exact ⟨hx, h, rfl⟩
    refine ⟨fun g => ?_, fun k hk => ?_⟩
    · rw [heldSet_length, hj, List.countP_map]
      refine le_trans (List.countP_mono_left fun x hx h => ?_) (heldSet_length s g ▸ hlen g)
      obtain ⟨hst, hgr⟩ := Bool.and_eq_true_iff.1 h
      obtain ⟨-, h1, h2⟩ := hheld x (by simpa using hst)
      simp only [beq_iff_eq] at hgr
      simp [Job.heldIn, h1, h2, hgr]
    rw [hj] at hk
    obtain ⟨x, hx, rfl⟩ := List.mem_map.1 hk
    obtain ⟨hapart, hmem⟩ := hgang x hx
    refine ⟨heldApart_of hapart (by simp) (fun h => ⟨(hheld x h).2.1, (hheld x h).2.2, by simp⟩) fun y hy hys => ?_,
      fun g hgk => ?_⟩
    · rw [hj] at hy
      obtain ⟨z, hz, rfl⟩ := List.mem_map.1 hy
      exact ⟨z, hz, by simp, (hheld z hys).2.1, (hheld z hys).2.2, by simp⟩
    · by_cases hxj : x.id = j.id
      · rw [Job.afterEnd_self hxj] at hgk; cases hgk
      rw [Job.afterEnd_other hxj] at hgk
      obtain ⟨g', hg', rfl⟩ := Option.mem_map.1 hgk
      obtain ⟨hl, hall⟩ := hmem g' hg'
      refine ⟨(List.length_filter_le _ _).trans hl, fun id hid => ?_⟩
      obtain ⟨hid, hne⟩ := List.mem_filter.1 hid
      obtain ⟨y, hy, hyid, hyg, hys, hysite⟩ := hall id hid
      have hyj : y.id ≠ j.id := by rw [hyid]; simpa using hne
      refine ⟨y.afterEnd j.id e r, hj ▸ List.mem_map_of_mem hy, by simpa using hyid, ?_, ?_, by simpa using hysite⟩
      · rw [Job.afterEnd_other hyj, hyg]; rfl
      · rw [Job.afterEnd_other hyj]; exact hys
  | @added i p g u hq hsr =>
    obtain ⟨hroom, hother⟩ : (g ≠ 0 → (s.heldSet g).length < 4) ∧ (g ≠ 0 → ∀ k ∈ s.heldSet g, k.site ≠ i) := by
      unfold State.submitRefusal at hsr
      repeat' split at hsr
      all_goals try cases hsr
      next h4 hu =>
      refine ⟨fun hg => by_contra fun hle => h4 ⟨hg, not_lt.1 hle⟩, fun hg k hk hki => hu ⟨hg, ?_⟩⟩
      exact List.any_eq_true.2 ⟨k, hk, by simp [hki]⟩
    set x := Job.fresh (s.freshId 65 s.nextId) s.nextSeq i p g u with hx
    have hxheld : x.state = .held → g ≠ 0 := by
      intro h h0
      simp [hx, Job.fresh, h0] at h
    have hxgroup : x.group = g := rfl
    have hxsite : x.site = i := rfl
    have happ : (s.addJob x).jobs = s.jobs ++ [x] := rfl
    have hnew (k : Job) (hk : k ∈ s.jobs) (h1 : k.state = .held) (h2 : x.state = .held) (h3 : k.group = x.group) :
        k.site ≠ x.site := by
      refine hother (hxheld h2) k ?_
      rw [heldSet_eq_filter]
      exact List.mem_filter.2 ⟨hk, decide_eq_true ⟨h1, h3.trans hxgroup⟩⟩
    refine ⟨fun f => ?_, fun k hk => ?_⟩
    · have hold := hlen f
      rw [heldSet_length] at hold ⊢
      rw [happ, List.countP_append]
      by_cases hf : x.heldIn f = true
      · obtain ⟨h1, h2⟩ := Bool.and_eq_true_iff.1 hf
        simp only [beq_iff_eq] at h1 h2
        have hr := hroom (hxheld h1)
        rw [← hxgroup, h2, heldSet_length] at hr
        simp only [List.countP_singleton, hf, if_pos]
        omega
      · simp only [List.countP_singleton, hf]
        simpa using hold
    rcases List.mem_append.1 (happ ▸ hk) with hk | hk
    · obtain ⟨hapart, hmem⟩ := hgang k hk
      refine ⟨fun y hy hks hys hgr hsi => ?_, fun g' hg' => ?_⟩
      · rcases List.mem_append.1 (happ ▸ hy) with hy | hy
        · exact hapart y hy hks hys hgr hsi
        · obtain rfl := List.mem_singleton.1 hy
          exact absurd hsi (hnew k hk hks hys hgr)
      · obtain ⟨hl, hall⟩ := hmem g' hg'
        exact ⟨hl, fun id hid => (hall id hid).imp fun y hy => ⟨List.mem_append_left _ hy.1, hy.2⟩⟩
    · obtain rfl := List.mem_singleton.1 hk
      refine ⟨fun y hy hks hys hgr hsi => ?_, nofun⟩
      rcases List.mem_append.1 (happ ▸ hy) with hy | hy
      · exact absurd hsi.symm (hnew y hy hys hks hgr.symm)
      · rw [List.mem_singleton.1 hy]
  | grouped g =>
    set f : Job → Job := fun j =>
      if j.state = .held ∧ j.group = g then { j with state := .queued, gang := some ((s.heldSet g).map Job.id) } else j with hf
    have hjobs : (s.releaseGroup g).jobs = s.jobs.map f := rfl
    have hid (j : Job) : (f j).id = j.id := by simp only [hf]; split <;> rfl
    have hsite (j : Job) : (f j).site = j.site := by simp only [hf]; split <;> rfl
    have hgroup (j : Job) : (f j).group = j.group := by simp only [hf]; split <;> rfl
    have hheld (j : Job) (h : (f j).state = .held) : j.state = .held := by
      simp only [hf] at h
      split at h
      · cases h
      · exact h
    refine ⟨fun e => ?_, fun k hk => ?_⟩
    · rw [heldSet_length, hjobs, List.countP_map]
      refine le_trans (List.countP_mono_left fun x hx h => ?_) (heldSet_length s e ▸ hlen e)
      obtain ⟨hst, hgr⟩ := Bool.and_eq_true_iff.1 h
      simp only [beq_iff_eq] at hst hgr
      simp [Job.heldIn, hheld x hst, ← hgr, hgroup]
    rw [hjobs] at hk
    obtain ⟨j, hj, rfl⟩ := List.mem_map.1 hk
    obtain ⟨hapart, hmem⟩ := hgang j hj
    refine ⟨heldApart_of hapart (hid j) (fun h => ⟨hheld j h, (hgroup j).symm, (hsite j).symm⟩) fun y hy hys => ?_,
      fun g' hg' => ?_⟩
    · rw [hjobs] at hy
      obtain ⟨z, hz, rfl⟩ := List.mem_map.1 hy
      exact ⟨z, hz, (hid z).symm, hheld z hys, (hgroup z).symm, (hsite z).symm⟩
    by_cases hc : j.state = .held ∧ j.group = g
    · have hg' : g' = (s.heldSet g).map Job.id := by
        simp only [hf, if_pos hc] at hg'
        exact (Option.mem_some_iff.1 hg').symm
      subst hg'
      refine ⟨by rw [List.length_map]; exact hlen g, fun id hidm => ?_⟩
      obtain ⟨z, hz, rfl⟩ := List.mem_map.1 hidm
      rw [heldSet_eq_filter] at hz
      obtain ⟨hz, hzg⟩ := List.mem_filter.1 hz
      replace hzg := of_decide_eq_true hzg
      refine ⟨f z, hjobs ▸ List.mem_map_of_mem hz, hid z, ?_, ?_, fun hsi => ?_⟩
      · simp only [hf, if_pos hzg]
      · simp only [hf, if_pos hzg]; nofun
      · rw [hid, hid]
        rw [hsite, hsite] at hsi
        exact (hapart z hz hc.1 hzg.1 (hc.2.trans hzg.2.symm) hsi.symm).symm
    · have hfj : f j = j := if_neg hc
      rw [hfj] at hg' ⊢
      obtain ⟨hl, hall⟩ := hmem g' hg'
      refine ⟨hl, fun id hidm => ?_⟩
      obtain ⟨z, hz, hzid, hzg, hzs, hzsite⟩ := hall id hidm
      have hfz : f z = z := if_neg fun h => hzs h.1
      exact ⟨z, hjobs ▸ List.mem_map.2 ⟨z, hz, hfz⟩, hzid, hzg, hzs, hzsite⟩
  | @dropped j v hq hv hj hs' =>
    have hjobs : (s.dropJob j).jobs = s.jobs.filter fun k => k.id != j.id := by
      rw [State.dropJob, callArbiterIf_jobs]
    refine ⟨fun g => ?_, fun k hk => ?_⟩
    · rw [heldSet_length, hjobs]
      exact ((List.filter_sublist).countP_le).trans (heldSet_length s g ▸ hlen g)
    rw [hjobs] at hk
    obtain ⟨hk, hne⟩ := List.mem_filter.1 hk
    obtain ⟨hapart, hmem⟩ := hgang k hk
    refine ⟨fun y hy => hapart y (List.mem_of_mem_filter (hjobs ▸ hy)), fun g hg => ?_⟩
    obtain ⟨hl, hall⟩ := hmem g hg
    refine ⟨hl, fun id hid => ?_⟩
    obtain ⟨y, hy, hyid, hyg, hrest⟩ := hall id hid
    refine ⟨y, hjobs ▸ List.mem_filter.2 ⟨hy, ?_⟩, hyid, hyg, hrest⟩
    simp only [bne_iff_ne, ne_eq]
    intro hyj
    obtain rfl : y = j := List.inj_on_of_nodup_map hs.2.1 hy hj hyj
    have hnone := ((jobsSound_fits hs hy).2.2.2.2.1 hs').1
    rw [hnone] at hyg
    cases hyg

/-- Every move keeps the job table sound. -/
theorem Move.jobsSound {s t : State} (h : Move P req s t) (hs : s.jobsSound) : t.jobsSound := by
  have hm := h.jobMoves (jobsSound_distinct hs)
  clear h
  induction hm with
  | refl => exact hs
  | tail _ h ih => exact h.jobsSound ih

/-- Every move keeps groups and gangs sound. -/
theorem Move.gangsSound {s t : State} (h : Move P req s t) (hs : s.jobsSound) (hg : s.gangsSound) : t.gangsSound := by
  have hm := h.jobMoves (jobsSound_distinct hs)
  clear h
  suffices t.jobsSound ∧ t.gangsSound from this.2
  induction hm with
  | refl => exact ⟨hs, hg⟩
  | tail _ h ih => exact ⟨h.jobsSound ih.1, h.gangsSound ih.1 ih.2⟩

end

end Sys2Proof.Machine

/-! PROOFS. The arbiter's turns and the close of an event as chains of moves, in a sound job table; and what therefore every
step keeps that every move keeps. -/

namespace Sys2Proof.Machine

section
variable {P : Prop} {req : Option Request}

/-! ### Candidates (R61, R64) -/

/-- The candidate of a job that stands for one (R64). -/
def State.isCandidate (s : State) (c : List Job) : Prop := ∃ j ∈ s.jobs, s.leads j = true ∧ c = s.candidateOf j

/-- A job table that is sound and, given `P`, has sound groups and gangs. -/
def State.tabled (P : Prop) (s : State) : Prop := s.jobsSound ∧ (P → s.gangsSound)

theorem Moves.tabled {s t : State} (h : Moves P req s t) (hs : s.tabled P) : t.tabled P :=
  h.keeps (fun _ _ hs h => ⟨h.jobsSound hs.1, fun hP => h.gangsSound hs.1 (hs.2 hP)⟩) hs

theorem mem_candidateOf {s : State} {j k : Job} (hj : j ∈ s.jobs) (h : k ∈ s.candidateOf j) : k ∈ s.jobs := by
  unfold State.candidateOf State.gangOf at h
  split at h
  · exact List.mem_singleton.1 h ▸ hj
  · split at h
    · simp at h
    · exact List.mem_of_mem_filter h

/-- The members of a candidate are QUEUED records of the table (R64). -/
theorem isCandidate_queued {s : State} {c : List Job} (h : s.isCandidate c) : ∀ k ∈ c, k ∈ s.jobs ∧ k.state = .queued := by
  obtain ⟨j, hj, hl, rfl⟩ := h
  intro k hk
  have hall := List.all_eq_true.1 (Bool.and_eq_true_iff.1 hl).2 k hk
  exact ⟨mem_candidateOf hj hk, by simpa using (Bool.and_eq_true_iff.1 hall).1⟩

theorem isCandidate_ids {s : State} (hd : s.distinct) {c : List Job} (h : s.isCandidate c) : (c.map Job.id).Nodup := by
  obtain ⟨j, -, -, rfl⟩ := h
  unfold State.candidateOf State.gangOf
  split
  · exact List.nodup_singleton _
  · split
    · exact List.nodup_nil
    · exact (List.filter_sublist.map Job.id).nodup hd

/-- The members of a candidate are for different sites (R61). -/
theorem isCandidate_sites {s : State} (hd : s.distinct) (hg : s.gangsSound) {c : List Job} (h : s.isCandidate c) :
    (c.map Job.site).Nodup := by
  obtain ⟨j, hj, -, rfl⟩ := h
  unfold State.candidateOf State.gangOf
  cases hids : j.gang with
  | none => exact List.nodup_singleton _
  | some ids =>
  refine List.Nodup.map_on (fun x hx y hy hsite => ?_) ((List.filter_sublist.map Job.id).nodup hd).of_map
  obtain ⟨hx, hxi⟩ := List.mem_filter.1 hx
  obtain ⟨hy, hyi⟩ := List.mem_filter.1 hy
  obtain ⟨u, hu, huid, hug, -⟩ := ((gangsSound_iff.1 hg).2 j hj).2 ids (by exact hids) |>.2 x.id (by simpa using hxi)
  obtain rfl : u = x := List.inj_on_of_nodup_map hd hu hx huid
  obtain ⟨v, hv, hvid, -, -, hvsite⟩ := ((gangsSound_iff.1 hg).2 u hx).2 ids (by exact hug) |>.2 y.id (by simpa using hyi)
  obtain rfl : v = y := List.inj_on_of_nodup_map hd hv hy hvid
  exact List.inj_on_of_nodup_map hd hx hy (hvsite hsite.symm).symm

/-! ### Assignment (R69) -/

theorem insertBySite_perm (j : Job) : ∀ c, (insertBySite j c).Perm (j :: c)
  | [] => .refl _
  | k :: c => by
    unfold insertBySite
    split
    · exact .refl _
    · exact ((insertBySite_perm j c).cons k).trans (.swap j k c)

theorem bySite_perm : ∀ c, (bySite c).Perm c
  | [] => .refl _
  | j :: c => (insertBySite_perm j (bySite c)).trans ((bySite_perm c).cons j)

theorem assignOne_jobs {s : State} {j k : Job} (l : LaneId) (hk : k ∈ s.jobs) (h : k.id ≠ j.id) :
    k ∈ (s.assignOne j l).jobs := List.mem_map.2 ⟨k, hk, if_neg h⟩

/-- Members of a head placed one after another on lanes that are open. -/
theorem placeAll_moves : ∀ (xs : List (Job × LaneId)) (s : State), (xs.map fun x => x.1.id).Nodup →
    (xs.map Prod.snd).Nodup → (∀ x ∈ xs, x.1 ∈ s.jobs ∧ x.1.state = .queued) →
    (∀ x ∈ xs, (s.lane x.2).state.open = true) →
    (xs.map fun x => (s.planOf x.1).segments).sum ≤ s.freeSegments →
    (P → (xs.map fun x => x.1.site).Nodup ∧ ∀ x ∈ xs, (s.site x.1.site).state = .ready) →
    Moves P req s (xs.foldl (fun s x => s.assignOne x.1 x.2) s)
  | [], _, _, _, _, _, _, _ => .refl
  | x :: xs, s, hid, hln, hq, ho, hn, hP => by
    rw [List.map_cons, List.nodup_cons] at hid hln
    rw [List.map_cons, List.sum_cons] at hn
    have hx := hq x (List.mem_cons_self ..)
    have hmove : Move P req s (s.assignOne x.1 x.2) :=
      .placed hx.1 hx.2 (ho x (List.mem_cons_self ..)) (by omega) fun h => (hP h).2 x (List.mem_cons_self ..)
    rw [List.foldl_cons]
    refine (Moves.of hmove).trans (placeAll_moves xs _ hid.2 hln.2 (fun y hy => ?_) (fun y hy => ?_) ?_ fun h => ?_)
    · obtain ⟨hyj, hys⟩ := hq y (List.mem_cons_of_mem _ hy)
      exact ⟨assignOne_jobs x.2 hyj fun h => hid.1 (h ▸ List.mem_map_of_mem (f := fun x => x.1.id) hy), hys⟩
    · have hne : x.2 ≠ y.2 := fun h => hln.1 (h ▸ List.mem_map_of_mem hy)
      have : (s.assignOne x.1 x.2).lane y.2 = s.lane y.2 := by
        simp only [State.assignOne, State.setFree_lane]
        rw [State.setLane_lane, if_neg hne]
        rfl
      rw [this]
      exact ho y (List.mem_cons_of_mem _ hy)
    · have hp (y : Job) : (s.assignOne x.1 x.2).planOf y = s.planOf y := rfl
      have hf : (s.assignOne x.1 x.2).freeSegments = s.freeSegments - (s.planOf x.1).segments := rfl
      simp only [hp, hf]
      omega
    · obtain ⟨hsn, hr⟩ := hP h
      rw [List.map_cons, List.nodup_cons] at hsn
      refine ⟨hsn.2, fun y hy => ?_⟩
      have hne : x.1.site ≠ y.1.site := fun h => hsn.1 (h ▸ List.mem_map_of_mem (f := fun x => x.1.site) hy)
      have : (s.assignOne x.1 x.2).site y.1.site = s.site y.1.site := by
        simp only [State.assignOne, State.setFree_site, State.setLane_site, State.updateJob_site]
        rw [State.setSite_site, if_neg hne]
      rw [this]
      exact hr y (List.mem_cons_of_mem _ hy)

theorem mem_openLanes {s : State} {l : LaneId} (h : l ∈ s.openLanes) : (s.lane l).state.open = true := by
  have := (List.mem_filter.1 h).2
  rcases (by simpa using this : (s.lane l).state = .idle ∨ (s.lane l).state = .reserved) with h | h <;> rw [h] <;> rfl

theorem zip_fst_sublist {α β : Type} : ∀ (xs : List α) (ys : List β), ((xs.zip ys).map Prod.fst).Sublist xs
  | [], _ => by simp
  | _ :: _, [] => by simp
  | x :: xs, _ :: ys => (zip_fst_sublist xs ys).cons_cons x

theorem zip_snd_sublist {α β : Type} : ∀ (xs : List α) (ys : List β), ((xs.zip ys).map Prod.snd).Sublist ys
  | [], _ => by simp
  | _ :: _, [] => by simp
  | _ :: xs, y :: ys => (zip_snd_sublist xs ys).cons_cons y

/-- The assignment of a candidate whose sites are READY and for which segments suffice is a chain of moves. -/
theorem assign_moves {s : State} {c : List Job} (ht : s.tabled P) (hc : s.isCandidate c) (hr : s.sitesReady c = true)
    (hn : s.segmentNeed c ≤ s.freeSegments) : Moves P req s (s.assign c) := by
  have hd := jobsSound_distinct ht.1
  have hsub : (((bySite c).zip s.openLanes).map Prod.fst).Sublist (bySite c) := zip_fst_sublist _ _
  have hsub' : (((bySite c).zip s.openLanes).map Prod.snd).Sublist s.openLanes := zip_snd_sublist _ _
  have hmem : ∀ x ∈ (bySite c).zip s.openLanes, x.1 ∈ c := fun x hx => mem_bySite (List.of_mem_zip hx).1
  have hmap {β : Type} (f : Job → β) : ((bySite c).zip s.openLanes).map (fun x => f x.1) =
      (((bySite c).zip s.openLanes).map Prod.fst).map f := by rw [List.map_map]; rfl
  refine Relation.ReflTransGen.trans (placeAll_moves _ s ?_ ?_ (fun x hx => isCandidate_queued hc _ (hmem x hx))
      (fun x hx => mem_openLanes (List.of_mem_zip hx).2) ?_ fun hP => ⟨?_, fun x hx => ?_⟩)
    (Moves.alike ((moveLanes_alike rfl rfl).trans (setHead_alike P _ _)))
  · rw [hmap]
    exact (hsub.map Job.id).nodup (((bySite_perm c).map Job.id).nodup_iff.2 (isCandidate_ids hd hc))
  · exact hsub'.nodup ((List.nodup_finRange 4).filter _)
  · rw [hmap fun j => (s.planOf j).segments]
    refine le_trans ((hsub.map _).sum_le_sum fun _ _ => Nat.zero_le _) ?_
    rw [((bySite_perm c).map _).sum_eq]
    exact hn
  · rw [hmap]
    exact (hsub.map Job.site).nodup (((bySite_perm c).map Job.site).nodup_iff.2 (isCandidate_sites hd (ht.2 hP) hc))
  · simpa using List.all_eq_true.1 hr _ (hmem x hx)

/-! ### The close of an event -/

theorem startAcquisition_jobs (s : State) (j : Job) (l : LaneId) : ∀ k ∈ s.jobs, k.id ≠ j.id →
    k ∈ (s.startAcquisition j l).jobs := fun k hk h => List.mem_map.2 ⟨k, hk, if_neg h⟩

/-- The common start of gangs is a chain of acquisition starts (R73). -/
theorem startGangs_moves {s : State} (hd : s.distinct) : Moves P req s s.startGangs := by
  have key : ∀ (xs : List Job) (t : State), (xs.map Job.id).Nodup → (∀ j ∈ xs, j ∈ t.jobs ∧ j.state = .gangWait) →
      Moves P req t (xs.foldl (fun s j => match j.lane with
        | some l => s.startAcquisition j l
        | none => s) t) := by
    intro xs
    induction xs with
    | nil => intro t _ _; exact .refl
    | cons x xs ih =>
      intro t hn ht
      obtain ⟨hx, hn⟩ := List.nodup_cons.1 hn
      have hxt := ht x (List.mem_cons_self ..)
      rw [List.foldl_cons]
      split
      · next l hl =>
        refine (Moves.of (.begun hxt.1 (.inr hxt.2) (.inl hl))).trans (ih _ hn fun j hj => ?_)
        obtain ⟨hjt, hjs⟩ := ht j (List.mem_cons_of_mem _ hj)
        exact ⟨startAcquisition_jobs t x l j hjt fun h => hx (h ▸ List.mem_map_of_mem hj), hjs⟩
      · exact ih _ hn fun j hj => ht j (List.mem_cons_of_mem _ hj)
  refine key _ s ((List.filter_sublist.map Job.id).nodup hd) fun j hj => ?_
  obtain ⟨hj, hg⟩ := List.mem_filter.1 hj
  exact ⟨hj, by simpa using (Bool.and_eq_true_iff.1 hg).1⟩

/-- The head is a candidate with every site READY (R64, R65). -/
theorem findHead_isCandidate {s : State} {c : List Job} (h : s.findHead = some c) :
    s.isCandidate c ∧ s.sitesReady c = true := by
  unfold State.findHead at h
  split at h
  · refine ⟨?_, List.find?_some h⟩
    have hm := List.mem_of_find?_eq_some h
    simp only [State.candidates, List.mem_append, List.mem_filter, List.mem_map] at hm
    obtain ⟨k, hk, rfl⟩ : ∃ k, k ∈ s.oldestFirst (s.jobs.filter s.leads) ∧ s.candidateOf k = c := by
      rcases hm with ⟨h, _⟩ | ⟨h, _⟩ <;> exact h
    obtain ⟨hk, hl⟩ := List.mem_filter.1 (mem_oldestFirst.1 hk)
    exact ⟨k, hk, hl, rfl⟩
  · cases h

theorem takeHead_isCandidate {s : State} {c : List Job} (h : s.isCandidate c) : (s.takeHead c).isCandidate c := by
  unfold State.takeHead
  split <;> exact h

theorem takeHead_sitesReady {s : State} {c : List Job} (h : s.sitesReady c = true) :
    (s.takeHead c).sitesReady c = true := by
  unfold State.takeHead
  split <;> exact h

/-- What the arbiter does with a head is an assignment or a change of data (R67). -/
theorem serveHead_moves {s : State} {c : List Job} (ht : s.tabled P) (hc : s.isCandidate c) (hr : s.sitesReady c = true) :
    Moves P req s (s.serveHead c).1 := by
  have hmove (p q : LaneState) (hp : p.open = true) (hq : q.open = true) : Moves P req s (s.moveLanes p q) :=
    .alike (moveLanes_alike hp hq)
  have hraise (t : State) : Moves P req t (t.raise .stalled) := .alike (raise_alike P t _)
  unfold State.serveHead
  dsimp only
  split
  · next hn =>
    split
    · exact assign_moves ht hc hr hn
    · exact hmove _ _ rfl rfl
  split
  · exact (hmove .idle .reserved rfl rfl).trans (hraise _)
  split
  · exact hraise s
  · exact (hmove .reserved .idle rfl rfl).trans (hraise _)

theorem reconsiderWith_moves (fuel : Nat) {s : State} (hs : s.tabled P) : Moves P req s (State.reconsiderWith fuel s) := by
  induction fuel generalizing s with
  | zero => exact .refl
  | succ fuel ih =>
    unfold State.reconsiderWith
    split
    · exact .alike ((moveLanes_alike rfl rfl).trans (setHead_alike P _ none))
    · next c hc =>
      obtain ⟨hcand, hready⟩ := findHead_isCandidate hc
      have ht : Moves P req s (s.takeHead c) := .alike (takeHead_alike P s c)
      have hserve := serveHead_moves (req := req) (ht.tabled hs) (takeHead_isCandidate hcand) (takeHead_sitesReady hready)
      dsimp only
      split
      · have he : Moves P req s _ := ht.trans (endJobs_moves _ .noLane c)
        exact he.trans (ih (Moves.tabled he hs))
      split
      · have hr : Moves P req s _ := ht.trans hserve
        exact hr.trans (ih (Moves.tabled hr hs))
      · exact ht.trans hserve

theorem arbitrate_moves {s : State} (hs : s.tabled P) : Moves P req s s.arbitrate := by
  unfold State.arbitrate
  split
  · exact (reconsiderWith_moves _ hs).trans (Moves.alike (reconsidered_alike P _))
  · exact .refl

/-- The close of an event is a chain of moves. -/
theorem close_moves {s : State} (hs : s.tabled P) (s₀ : State) : Moves P req s (s.close s₀) := by
  have hg := startGangs_moves (P := P) (req := req) (jobsSound_distinct hs.1)
  exact ((hg.trans (arbitrate_moves (Moves.tabled hg hs))).trans (Moves.alike (settlePort_alike P _))).trans
    (Moves.alike (orderEnds_alike P _ _))

/-! ### A step -/

/-- A millisecond is a change of data alone. -/
theorem tick_alike (s : State) : Alike P s s.tick := by
  refine .of_eq rfl rfl rfl rfl rfl rfl rfl fun _ i => ?_
  have : (s.tick.site i).state = (s.site i).state := by
    simp only [State.site, State.tick, Fin.getElem_fin, Vector.getElem_map, Site.tick]
    split <;> rfl
  rw [this]

theorem pending_alike (s : State) (cs : List Instr) : Alike P s { s with pending := cs } :=
  .of_eq rfl rfl rfl rfl rfl rfl rfl fun _ _ => .rfl

/-- What a command does is a chain of moves, but for the resets: of the frame it takes, if any, its request. -/
theorem effect_moves {c : Instr} {s : State} (hs : s.tabled P) (hP : P → s.sitesSound) :
    (∃ req, Moves P req s ((effectOf c s).close s) ∧
      ∀ r ∈ req, ∃ f, (f ∈ s.port.queue ∨ frameOf c = some f) ∧ decodeFrame f = .request r) ∨
    c = .powerOnReset ∨ ∃ p, effectOf c s = (s.withPort p).softReset := by
  have closed {req : Option Request} (h : Moves P req s (effectOf c s)) : Moves P req s ((effectOf c s).close s) :=
    h.trans (close_moves (Moves.tabled h hs) s)
  by_cases hc : c = .powerOnReset
  · exact .inr (.inl hc)
  cases hl : onLine c with
  | false => exact .inl ⟨none, closed (effectOf_moves hl hc hP), nofun⟩
  | true =>
    have he := effectOf_lineEffect hl s
    generalize hu : effectOf c s = u at he closed
    cases he with
    | port p => exact .inl ⟨none, closed (.alike (withPort_alike P s p)), nofun⟩
    | reset p => exact .inr (.inr ⟨p, rfl⟩)
    | take p f hf =>
      have hw : Moves P (requestIn f) s (s.withPort p) := .alike (withPort_alike P s p)
      refine .inl ⟨requestIn f, closed (hw.trans (take_moves (jobsSound_distinct (Moves.tabled hw hs).1) hP f)), fun r hr => ⟨f, hf, ?_⟩⟩
      unfold requestIn at hr
      split at hr
      · next h => rw [h, Option.mem_some_iff.1 hr]
      · cases hr

/-- A part in which no job waits, runs or has ended and every lane and site is at rest, as either reset leaves it. -/
structure State.AtRest (s : State) : Prop where
  jobs : s.jobs = []
  results : s.results = []
  nextId : s.nextId = 1
  free : s.freeSegments = 192
  lane : ∀ l, (s.lane l).state = .idle ∧ (s.lane l).calPending = false ∧ (s.lane l).job = none ∧
    (s.lane l).connected = none ∧ (s.lane l).acquisition = none
  status : ∀ l, (s.calRecord l).status = .none
  site : ∀ i, s.site i = Site.reset

theorem softReset_atRest (s : State) : s.softReset.AtRest where
  jobs := rfl
  results := rfl
  nextId := rfl
  free := rfl
  lane l := by simp [State.lane, State.softReset, Lane.softReset, Lane.reset]
  status l := by simp [State.calRecord, State.softReset, CalUnit.atReset, CalRecord.reset]
  site i := by simp [State.site, State.softReset, State.reset]

theorem powerOnReset_atRest (s : State) : s.powerOnReset.AtRest where
  jobs := rfl
  results := rfl
  nextId := rfl
  free := rfl
  lane l := by simp [State.lane, State.powerOnReset, State.reset, Lane.reset]
  status l := by simp [State.calRecord, State.powerOnReset, CalUnit.atReset, CalRecord.reset]
  site i := by simp [State.site, State.powerOnReset, State.reset]

theorem atRest_tabled {s : State} (h : s.AtRest) : s.tabled P := by
  refine ⟨⟨by simp [h.jobs], by simp [h.jobs], by simp [h.results], by simp [h.nextId], by simp [h.jobs], by simp [h.results]⟩,
    fun _ => ⟨fun g => by simp [State.heldSet, h.jobs], by simp [h.jobs]⟩⟩

/-- What every move keeps, and what holds of a part at rest, every step keeps. -/
theorem step_keeps {I : State → Prop} {s t : State} (hm : ∀ req s t, s.tabled P → I s → Move P req s t → I t)
    (hrest : ∀ u : State, u.AtRest → (u.plans = s.plans ∨ ∀ p : PlanId, u.plans[p] = none) → I u) (hs : s.tabled P) (hP : P → s.sitesSound) (hI : I s)
    (h : step s = .next t) : I t := by
  have keeps {req : Option Request} {u v : State} (hu : u.tabled P) (hI : I u) (h : Moves P req u v) : I v :=
    (h.keeps (I := fun x => x.tabled P ∧ I x)
      (fun x y hx hxy => ⟨Moves.tabled (Moves.of hxy) hx.1, hm req x y hx.1 hx.2 hxy⟩) ⟨hu, hI⟩).2
  have rests {u : State} (h : u.AtRest) (hp : u.plans = s.plans ∨ ∀ p : PlanId, u.plans[p] = none) (s₀ : State) :
      I (u.close s₀) := keeps (req := none) (atRest_tabled h) (hrest u h hp) (close_moves (atRest_tabled h) s₀)
  unfold step at h
  split at h
  · cases h
    exact keeps (req := none) hs hI (.alike (tick_alike s))
  next c rest _ =>
  have hp : Moves P none s { s with pending := rest } := .alike (pending_alike s rest)
  rw [exec_eq_close] at h
  cases h
  rcases effect_moves (c := c) (Moves.tabled hp hs) hP with ⟨req, h, -⟩ | rfl | ⟨p, h⟩
  · exact keeps (Moves.tabled hp hs) (keeps hs hI hp) h
  · exact rests (powerOnReset_atRest _) (.inr fun p => by simp [State.powerOnReset, State.reset]) _
  · rw [h]
    exact rests (softReset_atRest _) (.inl (by rfl)) _

end

/-- Settles O57: the job table, groups and gangs are what every move keeps, and no record stands at rest. -/
theorem stepKeepsJobsSound : Obligations.StepKeepsJobsSound := by
  intro s t hs h
  refine ⟨?_, fun hg => ?_⟩
  · exact step_keeps (P := False) (I := State.jobsSound) (fun _ _ _ _ hj hm => hm.jobsSound hj)
      (fun s h _ => (atRest_tabled (P := False) h).1) ⟨hs, nofun⟩ nofun hs h
  · exact step_keeps (P := False) (I := State.gangsSound) (fun _ _ _ ht hg hm => hm.gangsSound ht.1 hg)
      (fun s h _ => (atRest_tabled (P := True) h).2 trivial) ⟨hs, nofun⟩ nofun hg h

end Sys2Proof.Machine

/-! PROOFS. Lanes, their jobs, the switch matrix and the pool: what each move does to them comes in six shapes. -/

namespace Sys2Proof.Machine

/-! ### The shapes -/

/-- Two records alike in what lanes, switch matrix and pool read of them. -/
structure Job.SameSeat (j k : Job) : Prop where
  id : k.id = j.id
  site : k.site = j.site
  plan : k.plan = j.plan
  state : k.state = j.state
  lane : k.lane = j.lane
  shape : k.shape = j.shape
  result : k.result = j.result

/-- The segments a job holds (R135). -/
def Job.segments (j : Job) : Nat := j.bufferSize + j.spectrumSize

/-- From `s` to `t` the record `j` has become `k`, and of the lanes and their calibration records only those of `l` have
changed. -/
structure Changes (j k : Job) (l : LaneId) (s t : State) : Prop where
  mem : j ∈ s.jobs
  id : k.id = j.id
  site : k.site = j.site
  plan : k.plan = j.plan
  jobs : ∃ f : Job → Job, t.jobs = s.jobs.map f ∧ f j = k ∧ ∀ x ∈ s.jobs, x.id ≠ j.id → x.SameSeat (f x)
  lane : ∀ m, m ≠ l → t.lane m = s.lane m
  status : ∀ m, m ≠ l → (t.calRecord m).status = (s.calRecord m).status
  plans : t.plans = s.plans

/-- From `s` to `t` a lane's input has left its site (R23, R62). -/
def Released (l : LaneId) (s t : State) : Prop :=
  (t.lane l).connected = none ∧ ∀ i, t.site i =
    if (s.lane l).connected = some i ∧ (s.site i).state = .measuring then (s.site i).release s.now else s.site i

/-- From `s` to `t` neither a lane's input nor a site has changed. -/
def Plugged (l : LaneId) (s t : State) : Prop :=
  (t.lane l).connected = (s.lane l).connected ∧ ∀ i, t.site i = s.site i

/-- The kinds of change a move makes to lanes, switch matrix and pool. -/
inductive LaneMove (P : Prop) : State → State → Prop
  /-- Data alone changes. -/
  | alike {s t} (h : Alike P s t) : LaneMove P s t
  /-- Jobs without a lane are added, removed or changed. -/
  | off {s t} (lane : ∀ m, t.lane m = s.lane m) (status : ∀ m, (t.calRecord m).status = (s.calRecord m).status)
      (sites : ∀ i, t.site i = s.site i) (plans : t.plans = s.plans)
      (on : ∀ j ∈ s.jobs, j.state.onLane = true → ∃ k ∈ t.jobs, j.SameSeat k)
      (origin : ∀ k ∈ t.jobs, (∃ j ∈ s.jobs, j.SameSeat k) ∨ (k.state.onLane = false ∧
        ((k.lane = none ∧ k.buffer = none) ∨ ∃ j ∈ s.jobs, j.state.onLane = false ∧ k.lane = j.lane ∧ k.buffer = j.buffer)))
      (total : t.freeSegments + t.segmentsHeld = s.freeSegments + s.segmentsHeld) : LaneMove P s t
  /-- A job goes to another stage on its lane. -/
  | staged {s t} (j k : Job) (l : LaneId) (h : Changes j k l s t) (job : (s.lane l).job = some j.id) (lane : k.lane = j.lane)
      (shape : k.shape = j.shape) (result : k.result = j.result) (job' : (t.lane l).job = some j.id)
      (stage : (t.lane l).state.stage = some k.state) (calPending : (t.lane l).calPending = (s.lane l).calPending)
      (status : (t.calRecord l).status = (s.calRecord l).status) (free : t.freeSegments = s.freeSegments)
      (bands : ∀ b ∈ (t.lane l).bands, b = (s.planOf j).selected ∨ (s.lane l).bands = some b)
      (plug : (Plugged l s t ∧ (s.lane l).state.connects = true ∧ (t.lane l).state.connects = true) ∨
        (Released l s t ∧ (t.lane l).state.connects = false)) : LaneMove P s t
  /-- A job leaves its lane (R80). -/
  | left {s t} (j k : Job) (l : LaneId) (h : Changes j k l s t) (job : (s.lane l).job = some j.id) (lane : k.lane = none)
      (off : k.state.onLane = false) (buffer : k.buffer = none) (job' : (t.lane l).job = none)
      (stage : (t.lane l).state.stage = none) (calPending : (t.lane l).calPending = false)
      (acquisition : (t.lane l).acquisition = none)
      (calibrating : (t.lane l).state = .calibrating ↔ (t.calRecord l).status = .running)
      (pending : (t.calRecord l).status ≠ .pending)
      (plug : (Plugged l s t ∧ (s.lane l).state.connects = false) ∨ Released l s t)
      (total : s.storeSound → s.plansOrdered → t.freeSegments + k.segments = s.freeSegments + j.segments) : LaneMove P s t
  /-- A job comes on a lane (R69). -/
  | placed {s t} (j k : Job) (l : LaneId) (h : Changes j k l s t) (queued : j.state = .queued)
      (open_ : (s.lane l).state.open = true) (state : k.state = .tuning) (lane : k.lane = some l)
      (shape : k.shape = some ((s.planOf j).bandCount, decide (0 < (s.planOf j).snapshot))) (result : k.result = j.result)
      (state' : (t.lane l).state = .tuning) (job' : (t.lane l).job = some j.id)
      (connected : (t.lane l).connected = some j.site) (acquisition : (t.lane l).acquisition = none)
      (calPending : (t.lane l).calPending = (s.lane l).calPending)
      (status : (t.calRecord l).status = (s.calRecord l).status)
      (sites : ∀ i, i ≠ j.site → t.site i = s.site i) (site : (t.site j.site).state = .measuring)
      (ready : P → (s.site j.site).state = .ready) (free : t.freeSegments + (s.planOf j).segments = s.freeSegments) :
      LaneMove P s t
  /-- A lane's calibration is claimed, begins, is cancelled or ends (R63, R161, R162). -/
  | calibrated {s t} (l : LaneId) (jobs : t.jobs = s.jobs) (lane : ∀ m, m ≠ l → t.lane m = s.lane m)
      (status : ∀ m, m ≠ l → (t.calRecord m).status = (s.calRecord m).status) (plans : t.plans = s.plans)
      (sites : ∀ i, t.site i = s.site i) (free : t.freeSegments = s.freeSegments) (job : (t.lane l).job = (s.lane l).job)
      (stage : (t.lane l).state.stage = (s.lane l).state.stage)
      (connects : (t.lane l).state.connects = (s.lane l).state.connects)
      (connected : (t.lane l).connected = (s.lane l).connected)
      (acquisition : (t.lane l).acquisition = (s.lane l).acquisition)
      (calibrating : (t.lane l).state = .calibrating ↔ (t.calRecord l).status = .running)
      (pending : (t.lane l).calPending = true ↔ (t.calRecord l).status = .pending)
      (serving : (t.lane l).calPending = true → (t.lane l).state.stage ≠ none) : LaneMove P s t

theorem Job.SameSeat.refl (j : Job) : j.SameSeat j := ⟨rfl, rfl, rfl, rfl, rfl, rfl, rfl⟩

/-- The end of another job leaves a record its seat (R61). -/
theorem Job.afterEnd_sameSeat {n : Nat} {e : EndReason} {r : Result} {j : Job} (h : j.id ≠ n) :
    j.SameSeat (j.afterEnd n e r) := by
  rw [Job.afterEnd_other h]
  exact ⟨rfl, rfl, rfl, rfl, rfl, rfl, rfl⟩

theorem Job.bufferSize_shape (j : Job) : j.bufferSize = (j.shape.map fun x => x.1 * if x.2 then 3 else 1).getD 0 := by
  unfold Job.bufferSize Job.shape
  cases j.buffer <;> rfl

theorem segments_of_shape {j k : Job} (hs : k.shape = j.shape) (hr : k.result = j.result) : k.segments = j.segments := by
  simp [Job.segments, Job.bufferSize_shape, Job.spectrumSize, hs, hr]

theorem Job.SameSeat.segments {j k : Job} (h : j.SameSeat k) : k.segments = j.segments := segments_of_shape h.shape h.result

/-! ### Sums over the job table -/

theorem segmentsHeld_eq (s : State) : s.segmentsHeld = (s.jobs.map Job.segments).sum := rfl

/-- A sum over records of distinct ids of which one changes. -/
theorem sum_map_change (g : Job → Nat) (f : Job → Job) (j : Job) : ∀ js : List Job, (js.map Job.id).Nodup → j ∈ js →
    (∀ x ∈ js, x.id ≠ j.id → g (f x) = g x) → ((js.map f).map g).sum + g j = (js.map g).sum + g (f j)
  | [], _, h, _ => by simp at h
  | x :: js, hd, hj, hf => by
    rw [List.map_cons, List.nodup_cons] at hd
    simp only [List.map_cons, List.sum_cons]
    rcases List.mem_cons.1 hj with rfl | hjs
    · have : (js.map f).map g = js.map g := by
        rw [List.map_map]
        refine List.map_congr_left fun y hy => hf y (List.mem_cons_of_mem _ hy) fun h => ?_
        exact hd.1 (h ▸ List.mem_map_of_mem hy)
      rw [this]
      omega
    · have hne : x.id ≠ j.id := fun h => hd.1 (h ▸ List.mem_map_of_mem hjs)
      have ih := sum_map_change g f j js hd.2 hjs fun y hy => hf y (List.mem_cons_of_mem _ hy)
      have hx := hf x (List.mem_cons_self ..) hne
      omega

/-- A sum over records of distinct ids of which one is removed. -/
theorem sum_filter_id (g : Job → Nat) {js : List Job} (hd : (js.map Job.id).Nodup) {j : Job} (hj : j ∈ js) :
    ((js.filter fun k => k.id != j.id).map g).sum + g j = (js.map g).sum := by
  induction js with
  | nil => simp at hj
  | cons x js ih =>
    rw [List.map_cons, List.nodup_cons] at hd
    rcases List.mem_cons.1 hj with rfl | hjs
    · have : js.filter (fun k => k.id != j.id) = js := List.filter_eq_self.2 fun y hy => by
        simp only [bne_iff_ne, ne_eq]
        exact fun h => hd.1 (h ▸ List.mem_map_of_mem hy)
      simp only [List.filter_cons, bne_self_eq_false, Bool.false_eq_true, if_false, this, List.map_cons, List.sum_cons]
      omega
    · have hne : (x.id != j.id) = true := by
        simp only [bne_iff_ne, ne_eq]
        exact fun h => hd.1 (h ▸ List.mem_map_of_mem hjs)
      have := ih hd.2 hjs
      simp only [List.filter_cons, hne, if_true, List.map_cons, List.sum_cons]
      omega

/-- The segments held where one record changes. -/
theorem Changes.segmentsHeld {j k : Job} {l : LaneId} {s t : State} (h : Changes j k l s t) (hd : s.distinct) :
    t.segmentsHeld + j.segments = s.segmentsHeld + k.segments := by
  obtain ⟨f, hj, rfl, hf⟩ := h.jobs
  rw [segmentsHeld_eq, segmentsHeld_eq, hj]
  exact sum_map_change Job.segments f j _ hd h.mem fun x hx hne => (hf x hx hne).segments

/-! ### Every move is of one of the shapes -/

section
variable {P : Prop} {req : Option Request}

/-- A job that a lane serves names that lane. -/
theorem lanesSound_lane {s : State} (hd : s.distinct) (hl : s.lanesSound) {j : Job} (hj : j ∈ s.jobs) {l : LaneId}
    (h : (s.lane l).job = some j.id) : j.lane = some l ∧ (s.lane l).state.stage = some j.state := by
  obtain ⟨hnone, hsome, -⟩ := hl.1 l
  cases hst : (s.lane l).state.stage with
  | none => rw [hnone hst] at h; cases h
  | some st =>
    obtain ⟨k, hk, hkj, hkl, hks⟩ := hsome st hst
    obtain rfl : k = j := hd.unique hk hj (by rw [h] at hkj; exact (Option.some.inj hkj).symm)
    exact ⟨hkl, by rw [hks]⟩

/-- A job on a lane is the one its lane serves. -/
theorem lanesSound_job {s : State} (hl : s.lanesSound) {j : Job} (hj : j ∈ s.jobs) (ho : j.state.onLane = true) {l : LaneId}
    (h : j.lane = some l) : (s.lane l).job = some j.id := by
  obtain ⟨m, hm, hjob⟩ := (hl.2 j hj).2 ho
  rw [h] at hm
  cases hm
  exact hjob

theorem running_onLane {x : JobState} (h : x.running = true) : x.onLane = true := by
  cases x <;> revert h <;> decide

/-- A lane at a stage before EVALUATING is connected. -/
theorem connects_of_running {x : LaneState} {st : JobState} (h : x.stage = some st) (hr : st.running = true) :
    x.connects = true := by
  cases x <;> simp_all [LaneState.stage, LaneState.connects]
  subst h
  cases hr

/-- What a lane's freeing leaves of the lane (R80), where before it lane and calibration record were those of a sound state. -/
theorem Freed.rests {l : LaneId} {s u t : State} (h : Freed l u t) (hs : s.lanesSound) (hst : (s.lane l).state.stage ≠ none)
    (hcal : (u.lane l).calPending = (s.lane l).calPending)
    (hrec : u.calRecord l = s.calRecord l) :
    (t.lane l).state.stage = none ∧ ((t.lane l).state = .calibrating ↔ (t.calRecord l).status = .running) ∧
      (t.calRecord l).status ≠ .pending := by
  obtain ⟨-, -, hc, hp, -⟩ := hs.1 l
  cases hcp : (s.lane l).calPending with
  | true =>
    obtain ⟨h1, h2⟩ := h.pending (hcal.trans hcp)
    exact ⟨by rw [h1]; rfl, iff_of_true h1 h2, by rw [h2]; nofun⟩
  | false =>
    obtain ⟨h1, h2⟩ := h.free_ (hcal.trans hcp)
    have hnc : (s.lane l).state ≠ .calibrating := fun h => hst (by rw [h]; rfl)
    have hnr : (s.calRecord l).status ≠ .running := fun h => hnc (hc.2 h)
    have hnp : (s.calRecord l).status ≠ .pending := fun h => by rw [hp.2 h] at hcp; cases hcp
    rw [h2, hrec]
    refine ⟨?_, iff_of_false ?_ hnr, hnp⟩ <;> rcases h1 with h1 | h1 <;> rw [h1] <;> first | rfl | nofun

/-- The release of a lane's site, followed by what leaves sites and the lane's input. -/
theorem released_of {s t : State} {l : LaneId} (hc : (t.lane l).connected = ((s.releaseSite l).lane l).connected)
    (hs : ∀ i, t.site i = (s.releaseSite l).site i) : Released l s t := by
  refine ⟨by rw [hc, releaseSite_lane, if_pos rfl], fun i => ?_⟩
  rw [hs, releaseSite_site]

theorem site_of_sites {s t : State} (h : t.sites = s.sites) (i : SiteId) : t.site i = s.site i := by simp only [State.site, h]

/-- A job that has not ended has no result and so no spectrum (R148). -/
theorem spectrumSize_of_not_done {s : State} (hs : s.jobsSound) {j : Job} (hj : j ∈ s.jobs) (h : j.state ≠ .done) :
    j.spectrumSize = 0 := by
  have hr : j.result = none := not_not.1 fun hr => h ((jobsSound_fits hs hj).2.2.1.2 hr)
  simp [Job.spectrumSize, hr]

/-- The records after a job's end (R79). -/
theorem changes_afterEnd {s t : State} {j : Job} {l : LaneId} {e : EndReason} {r : Result} (hj : j ∈ s.jobs)
    (hjobs : t.jobs = s.jobs.map (Job.afterEnd j.id e r)) (hl : ∀ m, m ≠ l → t.lane m = s.lane m)
    (hc : ∀ m, m ≠ l → (t.calRecord m).status = (s.calRecord m).status) (hp : t.plans = s.plans) :
    Changes j (j.afterEnd j.id e r) l s t :=
  ⟨hj, by simp, by simp, by simp, ⟨_, hjobs, rfl, fun _ _ h => Job.afterEnd_sameSeat h⟩, hl, hc, hp⟩

/-- The end of a job without a lane, or of one on a lane (R79). -/
theorem endTerminal_laneMove {s : State} (hs : s.jobsSound) (hl : s.lanesSound) (e : EndReason) (n : Nat) :
    LaneMove P s (s.endTerminal e n) := by
  have hd := jobsSound_distinct hs
  have hplans := plans_of_setting (endTerminal_carried e s n).setting
  rcases endTerminal_cases e s n with h | ⟨j, hjob, hev, hdone, ⟨hserv, h⟩ | ⟨l, hjl, hrun, h⟩⟩
  · rw [h]
    exact .alike (.refl P s)
  all_goals
    have hj := job?_mem hjob
    have hres := spectrumSize_of_not_done hs hj hdone
    rw [h] at hplans ⊢
  · have hoff : j.state.onLane = false := by
      cases hst : j.state with
      | held => rfl
      | queued => rfl
      | done => exact absurd hst hdone
      | evaluating => exact absurd hst hev
      | _ =>
        obtain ⟨l, hjl, -⟩ := (hl.2 j hj).2 (by rw [hst]; rfl)
        simp [Job.servingLane, hst, JobState.running, hjl] at hserv
    have hne {k : Job} (hk : k ∈ s.jobs) (ho : k.state.onLane = true) : k.id ≠ j.id := fun hid => by
      rw [hd.unique hk hj hid, hoff] at ho; cases ho
    refine .off (by simp) (by simp) (by simp) hplans (fun k hk ho => ?_) (fun k hk => ?_) ?_
    · rw [endRecord_jobs]
      exact ⟨_, List.mem_map_of_mem hk, Job.afterEnd_sameSeat (hne hk ho)⟩
    · rw [endRecord_jobs] at hk
      obtain ⟨x, hx, rfl⟩ := List.mem_map.1 hk
      by_cases hid : x.id = j.id
      · rw [Job.afterEnd_self hid]
        exact .inr ⟨rfl, .inl ⟨rfl, rfl⟩⟩
      · exact .inl ⟨x, hx, Job.afterEnd_sameSeat hid⟩
    · have hsum := sum_map_change Job.segments (Job.afterEnd j.id e (s.terminalResult j (terminalVerdict e))) j s.jobs hd hj
        fun x _ hx => (Job.afterEnd_sameSeat hx).segments
      rw [segmentsHeld_eq, segmentsHeld_eq, endRecord_jobs, endRecord_freeSegments]
      have hk : (j.afterEnd j.id e (s.terminalResult j (terminalVerdict e))).segments = 0 := by
        rw [Job.afterEnd_self rfl]; rfl
      simp only [Job.segments, hres] at hsum hk ⊢
      omega
  · have hf := releaseLane_freed ((s.releaseSite l).endRecord e j) l
    have hlj := lanesSound_job hl hj (running_onLane hrun) hjl
    obtain ⟨-, hstage⟩ := lanesSound_lane hd hl hj hlj
    have hstage' : (s.lane l).state.stage ≠ none := by rw [hstage]; nofun
    have hu : ((s.releaseSite l).endRecord e j).lane l = { s.lane l with connected := none } := by
      rw [endRecord_lane, releaseSite_lane, if_pos rfl]
    obtain ⟨h1, h2, h3⟩ := hf.rests hl hstage' (by rw [hu]) (by simp)
    refine .left j _ l (changes_afterEnd hj (e := e) (r := s.terminalResult j (terminalVerdict e)) ?_ (fun m hm => ?_)
      (fun m hm => ?_) hplans) hlj ?_ ?_ ?_ hf.job h1 hf.calPending hf.acquisition h2 h3 (.inr (released_of ?_ fun i => ?_))
      fun _ _ => ?_
    · rw [hf.jobs, endRecord_jobs, releaseSite_jobs, terminalResult_of_setting (releaseSite_carried s l).setting rfl]
    · rw [hf.lane m hm, endRecord_lane, releaseSite_lane, if_neg (Ne.symm hm)]
    · rw [hf.record m hm]; simp
    · rw [Job.afterEnd_self rfl]
    · rw [Job.afterEnd_self rfl]; rfl
    · rw [Job.afterEnd_self rfl]
    · rw [hf.connected, endRecord_lane]
    · rw [site_of_sites hf.sites, endRecord_site]
    · have hk : (j.afterEnd j.id e (s.terminalResult j (terminalVerdict e))).segments = 0 := by
        rw [Job.afterEnd_self rfl]; rfl
      rw [hf.free, endRecord_freeSegments, releaseSite_freeSegments, hk, Job.segments, hres]
      omega

/-! ### Tune failures and evaluation ends -/

@[simp] theorem tuneOutcome_lane (s : State) (j : Job) (l : LaneId) : (s.tuneOutcome j).lane l = s.lane l := by
  unfold State.tuneOutcome State.requeue
  split <;> simp

@[simp] theorem tuneOutcome_calRecord (s : State) (j : Job) (l : LaneId) : (s.tuneOutcome j).calRecord l = s.calRecord l := by
  unfold State.tuneOutcome State.requeue
  split <;> simp

@[simp] theorem tuneOutcome_freeSegments (s : State) (j : Job) : (s.tuneOutcome j).freeSegments = s.freeSegments := by
  unfold State.tuneOutcome State.requeue
  split <;> simp

@[simp] theorem tuneOutcome_site (s : State) (j : Job) (i : SiteId) : (s.tuneOutcome j).site i = s.site i := by
  unfold State.tuneOutcome State.requeue
  split <;> simp

theorem selected_length {p : Plan} (h : p.startBand ≤ p.stopBand) : p.selected.length = p.bandCount := by
  have key : ∀ a b : Fin 6, a ≤ b →
      ((List.finRange 6).filter fun x => decide (a ≤ x) && decide (x ≤ b)).length = b.val - a.val + 1 := by decide
  exact key p.startBand p.stopBand h

theorem shape_of_storeSound {s : State} (h : s.storeSound) {j : Job} (hj : j ∈ s.jobs) (ho : j.state.onLane = true) :
    j.shape = some ((s.planOf j).bandCount, decide (0 < (s.planOf j).snapshot)) := (h.2.1 j hj).2 ho

/-- What an evaluation's spectrum keeps of its job's buffer set (R146). -/
theorem evaluate_segments {s : State} (h : s.storeSound) (ho : s.plansOrdered) {j : Job} {l : LaneId} {a : Acquisition}
    (hj : j ∈ s.jobs) (hon : j.state.onLane = true) (hl : (s.lane l).job = some j.id)
    (ha : (s.lane l).acquisition = some a) :
    (j.buffer.map BufferSet.returned).getD 0 + (((s.evaluate j a).spectrum).map List.length).getD 0 = j.bufferSize := by
  have hshape := shape_of_storeSound h hj hon
  have hbands := h.2.2 l a ha j hj hl
  have hlen : a.bands.length = (s.planOf j).bandCount := by
    have hsel : (s.planOf j).selected.length = (s.planOf j).bandCount := selected_length (ho j.plan)
    rw [← hsel, ← hbands, List.length_map]
  unfold Job.shape at hshape
  cases hb : j.buffer with
  | none => rw [hb] at hshape; cases hshape
  | some b =>
    rw [hb] at hshape
    obtain ⟨hbb, -⟩ := Prod.mk.inj (Option.some.inj hshape)
    have hspec : (((s.evaluate j a).spectrum).map List.length).getD 0 = b.bands := by
      simp [State.evaluate, computeSpectrum, hlen, hbb]
    rw [hspec]
    simp only [Job.bufferSize, hb, Option.map_some, Option.getD_some, BufferSet.returned, BufferSet.size]
    split <;> omega

theorem sameSeat_of_eq {x y : Job} (h : y = x) : x.SameSeat y := by rw [h]; exact .refl x

/-- An acquisition start keeps a job on its lane (R84). -/
theorem startAcquisition_laneMove {s : State} (hd : s.distinct) (hl : s.lanesSound) {j : Job} {l : LaneId} (hj : j ∈ s.jobs) (hst : j.state = .tuning ∨ j.state = .gangWait)
    (hlane : j.lane = some l ∨ (s.lane l).job = some j.id) :
    LaneMove P s (s.startAcquisition j l) := by
  have hjl : (s.lane l).job = some j.id := by
    rcases hlane with h | h
    · exact lanesSound_job hl hj (by rcases hst with hst | hst <;> rw [hst] <;> rfl) h
    · exact h
  obtain ⟨hjlane, hstage⟩ := lanesSound_lane hd hl hj hjl
  have hconn : (s.lane l).state.connects = true :=
    connects_of_running hstage (by rcases hst with hst | hst <;> rw [hst] <;> rfl)
  let x := s.latchFor l (s.site j.site).applied.supply.carrier
  let k : Job := { j with
    state := .acquiring, latched := some x, started := some s.now, counts := some (Vector.replicate 6 ⟨0, 0⟩)
    flags := j.flags.withTags x }
  refine (.staged j k l ⟨hj, rfl, rfl, rfl, ⟨_, rfl, if_pos rfl, fun _ _ h => sameSeat_of_eq (if_neg h)⟩,
      fun m hm => by simp [State.startAcquisition, State.setLane_lane, Ne.symm hm], fun _ _ => rfl, rfl⟩ hjl rfl rfl rfl
    ?_ ?_ ?_ rfl rfl ?_ (.inl ⟨⟨?_, fun _ => rfl⟩, hconn, ?_⟩))
  · simp [State.startAcquisition, hjl]
  · simp [State.startAcquisition, LaneState.stage, k]
  · simp [State.startAcquisition]
  · intro b hb
    left
    simpa [State.startAcquisition, Lane.bands, Acquisition.fresh, Function.comp_def, BandAcq.fresh] using hb.symm
  · simp [State.startAcquisition]
  · simp [State.startAcquisition, LaneState.connects]

/-- A gang member that waits keeps its lane (R73). -/
theorem enterGangWait_laneMove {s : State} (hd : s.distinct) (hl : s.lanesSound) {j : Job} {l : LaneId} (hj : j ∈ s.jobs) (hst : j.state = .tuning)
    (hjl : (s.lane l).job = some j.id) :
    LaneMove P s (s.enterGangWait j l) := by
  obtain ⟨hjlane, hstage⟩ := lanesSound_lane hd hl hj hjl
  refine (.staged j { j with state := .gangWait } l ⟨hj, rfl, rfl, rfl, ⟨_, rfl, if_pos rfl, fun _ _ h => sameSeat_of_eq (if_neg h)⟩,
      fun m hm => by simp [State.enterGangWait, State.setLane_lane, Ne.symm hm], fun _ _ => rfl, rfl⟩ hjl rfl rfl rfl
    ?_ ?_ ?_ rfl rfl ?_ (.inl ⟨⟨?_, fun _ => rfl⟩, connects_of_running hstage (by rw [hst]; rfl), ?_⟩))
  · simp [State.enterGangWait, hjl]
  · simp [State.enterGangWait, LaneState.stage]
  · simp [State.enterGangWait]
  · intro b hb
    right
    simpa [State.enterGangWait, Lane.bands] using hb
  · simp [State.enterGangWait]
  · simp [State.enterGangWait, LaneState.connects]

/-- A tune failure takes a job off its lane (R72). -/
theorem tuneFailed_laneMove {s : State} (hs : s.jobsSound) (hl : s.lanesSound) {j : Job} {l : LaneId} (hj : j ∈ s.jobs) (hst : j.state = .tuning)
    (hjl : (s.lane l).job = some j.id) :
    LaneMove P s (s.tuneFailed j l) := by
  have hd := jobsSound_distinct hs
  have hf := releaseFailed_freed (((s.returnBuffer j).releaseSite l).tuneOutcome j) l
  obtain ⟨hjlane, hstage⟩ := lanesSound_lane hd hl hj hjl
  have hstage' : (s.lane l).state.stage ≠ none := by rw [hstage]; nofun
  have hplans := plans_of_setting (tuneFailed_carried s j l)
  have hres := spectrumSize_of_not_done hs hj (by rw [hst]; nofun)
  have hres' : j.result = none := not_not.1 fun hr => by
    have := (jobsSound_fits hs hj).2.2.1.2 hr; rw [hst] at this; cases this
  obtain ⟨h1, h2, h3⟩ := hf.rests hl hstage' (by simp [releaseSite_lane]) (by simp)
  have hlanes (m : LaneId) (hm : m ≠ l) : (s.tuneFailed j l).lane m = s.lane m := by
    rw [State.tuneFailed, hf.lane m hm, tuneOutcome_lane, releaseSite_lane, if_neg (Ne.symm hm), returnBuffer_lane]
  have hstat (m : LaneId) (hm : m ≠ l) : ((s.tuneFailed j l).calRecord m).status = (s.calRecord m).status := by
    rw [State.tuneFailed, hf.record m hm]; simp
  have hrel : Released l s (s.tuneFailed j l) := by
    refine ⟨by rw [State.tuneFailed, hf.connected, tuneOutcome_lane, releaseSite_lane, if_pos rfl], fun i => ?_⟩
    have hnow : (s.returnBuffer j).now = s.now := congrArg (fun x => x.timebase.uptime) (returnBuffer_setting s j)
    rw [State.tuneFailed, site_of_sites hf.sites, tuneOutcome_site, releaseSite_site, hnow]
    simp
  have hfree : (s.tuneFailed j l).freeSegments = s.freeSegments + j.bufferSize := by
    rw [State.tuneFailed, hf.free]; simp
  rcases tuneFailed_jobs s j l with ⟨-, hjobs, -⟩ | ⟨r, hr, hjobs, -⟩
  · have hk : Job.requeued j.id j =
        { j with state := .queued, attempts := j.attempts + 1, lane := none, buffer := none } := if_pos rfl
    refine .left j (Job.requeued j.id j) l ⟨hj, by rw [hk], by rw [hk], by rw [hk],
      ⟨_, hjobs, rfl, fun _ _ h => sameSeat_of_eq (if_neg h)⟩, hlanes, hstat, hplans⟩ hjl (by rw [hk]) (by rw [hk]; rfl) (by rw [hk]) hf.job h1
      hf.calPending hf.acquisition h2 h3 (.inr hrel) fun _ _ => ?_
    have hseg : (Job.requeued j.id j).segments = j.spectrumSize := by
      rw [hk]
      simp only [Job.segments, Job.bufferSize, Job.spectrumSize, Option.map_none, Option.getD_none, Nat.zero_add]
    rw [hfree, hseg, Job.segments]
    omega
  · refine .left j _ l (changes_afterEnd hj hjobs hlanes hstat hplans) hjl ?_ ?_ ?_ hf.job h1
      hf.calPending hf.acquisition h2 h3 (.inr hrel) fun _ _ => ?_
    · rw [Job.afterEnd_self rfl]
    · rw [Job.afterEnd_self rfl]; rfl
    · rw [Job.afterEnd_self rfl]
    · have hseg : (j.afterEnd j.id .laneTune r).segments = 0 := by
        rw [Job.afterEnd_self rfl]
        simp [Job.segments, Job.bufferSize, Job.spectrumSize, hr]
      rw [hfree, hseg, Job.segments, hres]
      omega

/-- An acquisition end keeps a job on its lane and opens the connection (R103). -/
theorem endAcquisition_laneMove {s : State} (hd : s.distinct) (hl : s.lanesSound) {j : Job} {l : LaneId} {a : Acquisition} {e : EndReason} {d : Nat}
    (hj : ∃ k ∈ s.jobs, k.id = j.id ∧ k.state = .acquiring) (hjl : (s.lane l).job = some j.id)
    (ha : (s.lane l).bands = some (a.bands.map BandAcq.band)) :
    LaneMove P s (s.endAcquisition l j a e d) := by
  obtain ⟨k, hk, hid, hst⟩ := hj
  rw [← hid] at hjl
  obtain ⟨hklane, hstage⟩ := lanesSound_lane hd hl hk hjl
  refine (.staged k { k with state := .evaluating, duration := some d } l ⟨hk, rfl, rfl, rfl,
      ⟨fun x => if x.id = j.id then { x with state := .evaluating, duration := some d } else x, ?_, if_pos hid,
        fun x _ hne => sameSeat_of_eq (if_neg (hid ▸ hne))⟩, fun m hm => ?_, fun m _ => ?_, ?_⟩ hjl rfl rfl rfl ?_ ?_ ?_ ?_ ?_ ?_
    (.inr ⟨?_, ?_⟩))
  · rw [State.endAcquisition, releaseSite_jobs]; rfl
  · rw [State.endAcquisition, releaseSite_lane, if_neg (Ne.symm hm)]
    simp [State.setLane_lane, Ne.symm hm]
  · simp [State.endAcquisition]
  · exact plans_of_setting (endAcquisition_carried s l j a e d).setting
  · simp [State.endAcquisition, releaseSite_lane, hjl]
  · simp [State.endAcquisition, releaseSite_lane, LaneState.stage]
  · simp [State.endAcquisition, releaseSite_lane]
  · simp [State.endAcquisition]
  · simp [State.endAcquisition]
  · intro b hb
    right
    rw [ha, ← hb]
    simp [State.endAcquisition, releaseSite_lane, Lane.bands, Acquisition.freeze, Function.comp_def, BandAcq.freeze]
  · refine ⟨by simp [State.endAcquisition, releaseSite_lane], fun i => ?_⟩
    rw [State.endAcquisition, releaseSite_site]
    simp
  · simp [State.endAcquisition, releaseSite_lane, LaneState.connects]

/-- An evaluation end takes a job off its lane (R104, R146). -/
theorem evaluated_laneMove {s : State} (hs : s.jobsSound) (hl : s.lanesSound) {j : Job} {l : LaneId} {a : Acquisition} (hj : j ∈ s.jobs) (hst : j.state = .evaluating)
    (hjl : (s.lane l).job = some j.id) (ha : (s.lane l).acquisition = some a) :
    LaneMove P s (((s.setFree (s.freeSegments + (j.buffer.map BufferSet.returned).getD 0)).recordEnd j.id
      (a.reason.getD .complete) (s.evaluate j a)).releaseLane l) := by
  have hd := jobsSound_distinct hs
  set u := (s.setFree (s.freeSegments + (j.buffer.map BufferSet.returned).getD 0)).recordEnd j.id (a.reason.getD .complete)
    (s.evaluate j a) with hu
  have hf := releaseLane_freed u l
  obtain ⟨hjlane, hstage⟩ := lanesSound_lane hd hl hj hjl
  have hstage' : (s.lane l).state.stage ≠ none := by rw [hstage]; nofun
  have hconn : (s.lane l).state.connects = false := by
    rw [hst] at hstage
    cases hx : (s.lane l).state <;> simp_all [LaneState.stage, LaneState.connects]
  obtain ⟨h1, h2, h3⟩ := hf.rests hl hstage' (by simp [hu]) (by simp [hu])
  refine .left j _ l (changes_afterEnd hj (e := a.reason.getD .complete) (r := s.evaluate j a) ?_ (fun m hm => ?_)
    (fun m hm => ?_) ?_) hjl ?_ ?_ ?_ hf.job h1 hf.calPending hf.acquisition h2 h3 (.inl ⟨⟨?_, fun i => ?_⟩, hconn⟩)
    fun hstore hord => ?_
  · rw [hf.jobs, hu, recordEnd_jobs]; rfl
  · rw [hf.lane m hm, hu, recordEnd_lane]; rfl
  · rw [hf.record m hm, hu, recordEnd_calRecord]; rfl
  · rw [plans_of_setting hf.setting, hu, plans_of_setting (recordEnd_carried _ _ _ _).setting]; rfl
  · rw [Job.afterEnd_self rfl]
  · rw [Job.afterEnd_self rfl]; rfl
  · rw [Job.afterEnd_self rfl]
  · rw [hf.connected, hu, recordEnd_lane]; rfl
  · rw [site_of_sites hf.sites, hu, recordEnd_site]; rfl
  · have hsize := evaluate_segments hstore hord hj (by rw [hst]; rfl) hjl ha
    have hres := spectrumSize_of_not_done hs hj (by rw [hst]; nofun)
    have hseg : (j.afterEnd j.id (a.reason.getD .complete) (s.evaluate j a)).segments =
        ((s.evaluate j a).spectrum.map List.length).getD 0 := by
      rw [Job.afterEnd_self rfl]
      simp [Job.segments, Job.bufferSize, Job.spectrumSize]
    rw [hf.free, hu, recordEnd_freeSegments, hseg, Job.segments, hres]
    show s.freeSegments + _ + _ = _
    omega

/-- An assignment brings a job on a lane (R69). -/
theorem assignOne_laneMove {s : State} {j : Job} {l : LaneId} (hj : j ∈ s.jobs) (hst : j.state = .queued)
    (hopen : (s.lane l).state.open = true) (hn : (s.planOf j).segments ≤ s.freeSegments)
    (hr : P → (s.site j.site).state = .ready) :
    LaneMove P s (s.assignOne j l) := by
  let k : Job := { j with
    state := .tuning
    lane := some l
    buffer := some (BufferSet.fresh (s.planOf j))
    flags := { j.flags with level := j.flags.level || (s.site j.site).levelFlag != some .within } }
  refine (.placed j k l ⟨hj, rfl, rfl, rfl, ⟨_, rfl, if_pos rfl, fun _ _ h => sameSeat_of_eq (if_neg h)⟩, fun m hm => ?_, fun _ _ => rfl,
    rfl⟩ hst hopen rfl rfl rfl rfl ?_ ?_ ?_ ?_ ?_ rfl (fun i hi => ?_) ?_ hr ?_)
  · exact assignOne_lane s j (Ne.symm hm)
  · simp [State.assignOne]
  · simp [State.assignOne]
  · simp [State.assignOne]
  · simp [State.assignOne]
  · simp [State.assignOne]
  · simp [State.assignOne, State.setSite_site, Ne.symm hi]
  · simp [State.assignOne, Site.connect]
  · exact Nat.sub_add_cancel hn

/-- An accepted job has no lane (R58). -/
theorem addJob_laneMove {s : State} (i : SiteId) (p : PlanId) (g : Fin 16) (u : Priority) (n q : Nat) :
    LaneMove P s (s.addJob (Job.fresh n q i p g u)) := by
  refine (.off (fun _ => rfl) (fun _ => rfl) (fun _ => rfl) rfl (fun j hj _ => ⟨j, List.mem_append_left _ hj, .refl j⟩)
    (fun k hk => ?_) ?_)
  · rcases List.mem_append.1 hk with hk | hk
    · exact .inl ⟨k, hk, .refl k⟩
    · rw [List.mem_singleton.1 hk]
      refine .inr ⟨?_, .inl ⟨rfl, rfl⟩⟩
      simp only [Job.fresh]
      split <;> rfl
  · simp [segmentsHeld_eq, State.addJob, Job.segments, Job.bufferSize, Job.spectrumSize, Job.fresh]

/-- A group's release leaves the lanes (R60). -/
theorem releaseGroup_laneMove {s : State} (g : Fin 16) :
    LaneMove P s (s.releaseGroup g) := by
  refine (.off (fun _ => rfl) (fun _ => rfl) (fun _ => rfl) rfl (fun j hj ho => ⟨j, List.mem_map.2 ⟨j, hj, if_neg ?_⟩,
    .refl j⟩) (fun k hk => ?_) ?_)
  · rintro ⟨h, -⟩; rw [h] at ho; cases ho
  · obtain ⟨j, hj, rfl⟩ := List.mem_map.1 hk
    split
    · next h => exact .inr ⟨rfl, .inr ⟨j, hj, by rw [h.1]; rfl, rfl, rfl⟩⟩
    · exact .inl ⟨j, hj, .refl j⟩
  · rw [segmentsHeld_eq, segmentsHeld_eq]
    have : (s.releaseGroup g).jobs.map Job.segments = s.jobs.map Job.segments := by
      simp only [State.releaseGroup, State.callArbiter, List.map_map]
      refine List.map_congr_left fun j _ => ?_
      simp only [Function.comp]
      split <;> rfl
    rw [this]
    rfl

/-- A release of a result leaves the lanes (R152). -/
theorem dropJob_laneMove {s : State} (hs : s.jobsSound) {j : Job} (hj : j ∈ s.jobs) (hst : j.state = .done) :
    LaneMove P s (s.dropJob j) := by
  have hd := jobsSound_distinct hs
  have hjobs : (s.dropJob j).jobs = s.jobs.filter fun k => k.id != j.id := by
    rw [State.dropJob, callArbiterIf_jobs]
  refine (.off (by simp [State.dropJob, State.lane]) (by simp [State.dropJob, State.calRecord])
    (by simp [State.dropJob, State.site]) (by simp [State.dropJob]) (fun k hk ho => ⟨k, ?_, .refl k⟩)
    (fun k hk => .inl ⟨k, List.mem_of_mem_filter (hjobs ▸ hk), .refl k⟩) ?_)
  · rw [hjobs]
    refine List.mem_filter.2 ⟨hk, ?_⟩
    simp only [bne_iff_ne, ne_eq]
    intro hid
    rw [hd.unique hk hj hid, hst] at ho
    cases ho
  · have hb : j.bufferSize = 0 := by
      have := ((jobsSound_fits hs hj).2.2.2.2.1 hst).2.2
      simp [Job.bufferSize, this]
    have hfree : (s.dropJob j).freeSegments = s.freeSegments + j.spectrumSize := by simp [State.dropJob]
    have hsum := sum_filter_id Job.segments hd hj
    rw [segmentsHeld_eq, segmentsHeld_eq, hjobs, hfree]
    simp only [Job.segments, hb] at hsum ⊢
    omega

/-- A lane that serves no job calibrates at once (R63). -/
theorem claimed_laneMove {s : State} {l : LaneId} (k : CalKind) (r : Vector Bool 4) (b : Bool) (hserv : (s.lane l).state.serving = false) :
    LaneMove P s ((s.setCalRecord l (CalRecord.claimed k r)).beginCalibration l b) := by
  have hc := beginCalibration_calibrates (s.setCalRecord l (CalRecord.claimed k r)) l b
  have hstage : (s.lane l).state.stage = none := by cases hx : (s.lane l).state <;> simp_all [LaneState.serving, LaneState.stage]
  have hconn : (s.lane l).state.connects = false := by
    cases hx : (s.lane l).state <;> simp_all [LaneState.serving, LaneState.connects]
  refine (.calibrated l hc.jobs (fun m hm => by rw [hc.lane m hm]; rfl) (fun m hm => ?_) (plans_of_setting hc.setting)
    (fun i => by rw [site_of_sites hc.sites]; rfl) hc.free hc.job ?_ ?_ hc.connected hc.acquisition ?_ ?_ ?_)
  · rw [hc.record m hm, State.setCalRecord_calRecord, if_neg (Ne.symm hm)]
  · rw [hc.state, hstage]; rfl
  · rw [hc.state, hconn]; rfl
  · exact iff_of_true hc.state hc.status
  · exact iff_of_false (by rw [hc.calPending]; nofun) (by rw [hc.status]; nofun)
  · rw [hc.calPending]; nofun

/-- A lane that serves a job calibrates later (R63). -/
theorem claimLater_laneMove {s : State} {l : LaneId} (k : CalKind) (r : Vector Bool 4) (hserv : (s.lane l).state.serving = true) :
    LaneMove P s (s.claimLater l k r) := by
  have hstage : (s.lane l).state.stage ≠ none := by
    cases hx : (s.lane l).state <;> simp_all [LaneState.serving, LaneState.stage]
  have hne : (s.lane l).state ≠ .calibrating := fun h => hstage (by rw [h]; rfl)
  refine (.calibrated l rfl (fun m hm => ?_) (fun m hm => ?_) rfl (fun _ => rfl) rfl ?_ ?_ ?_ ?_ ?_ ?_ ?_ ?_)
  · simp [State.claimLater, State.setLane_lane, Ne.symm hm]
  · simp [State.claimLater, State.setCalRecord_calRecord, Ne.symm hm]
  all_goals simp [State.claimLater, CalRecord.claimed, hne, hstage]

/-- A claim's cancel (R162). -/
theorem cancelPending_laneMove {s : State} (hl : s.lanesSound) {l : LaneId} (h : (s.calRecord l).status = .pending) :
    LaneMove P s (s.cancelPending l) := by
  have hne : (s.lane l).state ≠ .calibrating := fun hc => by rw [(hl.1 l).2.2.1.1 hc] at h; cases h
  refine (.calibrated l (by simp [State.cancelPending]) (fun m hm => ?_) (fun m hm => ?_) (by simp [State.cancelPending])
    (by simp [State.cancelPending]) (by simp [State.cancelPending]) ?_ ?_ ?_ ?_ ?_ ?_ ?_ ?_)
  · simp [State.cancelPending, State.setLane_lane, Ne.symm hm]
  · simp [State.cancelPending, State.setCalRecord_calRecord, Ne.symm hm]
  all_goals simp [State.cancelPending, hne]

/-- A calibration's end (R161, R162). -/
theorem endCalibration_laneMove {s : State} (hl : s.lanesSound) {l : LaneId} {o : CalStatus} (h : (s.lane l).state = .calibrating ∨ (s.calRecord l).status = .running)
    (hr : o ≠ .running) (hp : o ≠ .pending) :
    LaneMove P s (s.endCalibration l o) := by
  have hstate : (s.lane l).state = .calibrating := h.elim id (hl.1 l).2.2.1.2
  have hcp : (s.lane l).calPending = false := by
    rw [← Bool.not_eq_true, (hl.1 l).2.2.2.1, (hl.1 l).2.2.1.1 hstate]; nofun
  refine (.calibrated l (by simp [State.endCalibration]) (fun m hm => ?_) (fun m hm => ?_)
    (by simp [State.endCalibration]) (by simp [State.endCalibration]) (by simp [State.endCalibration]) ?_ ?_ ?_ ?_ ?_ ?_ ?_ ?_)
  · simp [State.endCalibration, State.setLane_lane, Ne.symm hm]
  · simp [State.endCalibration, State.setCalRecord_calRecord, Ne.symm hm]
  · simp [State.endCalibration, Lane.leaveSource]
  · simp only [State.endCalibration, State.callArbiter_lane, State.raise_lane, State.setLane_lane_self, hstate]
    split <;> rfl
  · simp only [State.endCalibration, State.callArbiter_lane, State.raise_lane, State.setLane_lane_self, hstate]
    split <;> rfl
  · simp [State.endCalibration, Lane.leaveSource]
  · simp [State.endCalibration, Lane.leaveSource]
  · refine iff_of_false ?_ (by simpa [State.endCalibration] using hr)
    simp only [State.endCalibration, State.callArbiter_lane, State.raise_lane, State.setLane_lane_self]
    split <;> nofun
  · refine iff_of_false (by simp [State.endCalibration, Lane.leaveSource, hcp]) (by simpa [State.endCalibration] using hp)
  · simp [State.endCalibration, Lane.leaveSource, hcp]

/-- Every move but the loss of a site is of one of the shapes. -/
theorem Move.laneMove {s t : State} (hs : s.jobsSound) (hl : s.lanesSound) (h : Move P req s t) :
    LaneMove P s t ∨ ∃ u i e js, Alike False s u ∧ u.lanes = s.lanes ∧ u.jobs = s.jobs ∧
      (∀ k, k ≠ i → u.site k = s.site k) ∧ (u.site i).state ≠ .measuring ∧
      (∀ j ∈ s.jobs, j.site = i → j.state.running = true → j ∈ js) ∧ t = (u.openConnection i).endJobs e js := by
  have hd := jobsSound_distinct hs
  cases h with
  | shut i e js hu hlanes hj hsite hm hr => exact .inr ⟨_, i, e, js, hu, hlanes, hj, hsite, hm, hr, rfl⟩
  | alike h => exact .inl (.alike h)
  | ended e n => exact .inl (endTerminal_laneMove hs hl e n)
  | begun hj hst hlane => exact .inl (startAcquisition_laneMove hd hl hj hst hlane)
  | waited hj hst hjl => exact .inl (enterGangWait_laneMove hd hl hj hst hjl)
  | failed hj hst hjl => exact .inl (tuneFailed_laneMove hs hl hj hst hjl)
  | acquired hj hjl ha => exact .inl (endAcquisition_laneMove hd hl hj hjl ha)
  | evaluated hj hst hjl ha => exact .inl (evaluated_laneMove hs hl hj hst hjl ha)
  | placed hj hst hopen hn hr => exact .inl (assignOne_laneMove hj hst hopen hn hr)
  | added hq hsub => exact .inl (addJob_laneMove _ _ _ _ _ _)
  | grouped g => exact .inl (releaseGroup_laneMove g)
  | dropped hq hv hj hst => exact .inl (dropJob_laneMove hs hj hst)
  | claimed hserv hcal hcp => exact .inl (claimed_laneMove _ _ _ hserv)
  | claimedLater hserv hcp => exact .inl (claimLater_laneMove _ _ hserv)
  | cancelled h => exact .inl (cancelPending_laneMove hl h)
  | calibrated h hr hp => exact .inl (endCalibration_laneMove hl h hr hp)

end

end Sys2Proof.Machine

/-! PROOFS. Lanes and jobs stay in agreement, the switch matrix and the pool stay sound (R55, R62, R135, R139, R158). -/

namespace Sys2Proof.Machine

section
variable {P : Prop} {req : Option Request} {s t : State}

/-! ### Lanes and jobs (R55, R62, R158) -/

/-- A lane agrees with the job table and with its calibration record. -/
def State.laneFits (s : State) (l : LaneId) : Prop :=
  ((s.lane l).state.stage = none → (s.lane l).job = none) ∧
  (∀ st ∈ (s.lane l).state.stage, ∃ j ∈ s.jobs, (s.lane l).job = some j.id ∧ j.lane = some l ∧ j.state = st) ∧
  ((s.lane l).state = .calibrating ↔ (s.calRecord l).status = .running) ∧
  ((s.lane l).calPending = true ↔ (s.calRecord l).status = .pending) ∧
  ((s.lane l).calPending = true → (s.lane l).state.stage ≠ none)

/-- A job agrees with the lanes. -/
def State.jobFits (s : State) (j : Job) : Prop :=
  (j.state.onLane = false → j.lane = none) ∧
  (j.state.onLane = true → ∃ l : LaneId, j.lane = some l ∧ (s.lane l).job = some j.id)

theorem stage_onLane {x : LaneState} {st : JobState} (h : x.stage = some st) : st.onLane = true := by
  cases x <;> cases h <;> rfl

/-- A lane still fits where its stage, its job and its calibration stand, and so does the record of a job it serves. -/
theorem laneFits_of {l : LaneId} (h : s.laneFits l) (hstage : (t.lane l).state.stage = (s.lane l).state.stage)
    (hcal : (t.lane l).state = .calibrating ↔ (s.lane l).state = .calibrating) (hjob : (t.lane l).job = (s.lane l).job)
    (hcp : (t.lane l).calPending = (s.lane l).calPending) (hstatus : (t.calRecord l).status = (s.calRecord l).status)
    (hj : ∀ j ∈ s.jobs, (s.lane l).job = some j.id → j.state.onLane = true →
      ∃ k ∈ t.jobs, k.id = j.id ∧ k.lane = j.lane ∧ k.state = j.state) : t.laneFits l := by
  obtain ⟨h1, h2, h3, h4, h5⟩ := h
  unfold State.laneFits
  rw [hstage, hjob, hcp, hstatus, hcal]
  refine ⟨h1, fun st hst => ?_, h3, h4, h5⟩
  obtain ⟨j, hjm, hjj, hjl, hjs⟩ := h2 st hst
  obtain ⟨k, hk, hid, hlane, hstate⟩ := hj j hjm hjj (hjs ▸ stage_onLane hst)
  exact ⟨k, hk, by rw [hid]; exact hjj, hlane.trans hjl, hstate.trans hjs⟩

/-- A record still fits where it keeps its seat and the lane its job. -/
theorem jobFits_of {j k : Job} (h : s.jobFits j) (hid : k.id = j.id) (hlane : k.lane = j.lane) (hstate : k.state = j.state)
    (hl : ∀ l, (s.lane l).job = some j.id → (t.lane l).job = (s.lane l).job) : t.jobFits k := by
  unfold State.jobFits
  rw [hid, hlane, hstate]
  refine ⟨h.1, fun ho => ?_⟩
  obtain ⟨l, hjl, hjob⟩ := h.2 ho
  exact ⟨l, hjl, (hl l hjob).trans hjob⟩

theorem open_stage {x : LaneState} (h : x.open = true) : x.stage = none ∧ x ≠ .calibrating := by
  cases x <;> simp_all [LaneState.open, LaneState.stage]

theorem Alike.lanesSound (h : Alike P s t) (hl : s.lanesSound) : t.lanesSound := by
  refine ⟨fun l => ?_, fun k hk => ?_⟩
  · have hx := h.lanes l
    have hst : (t.lane l).state.stage = (s.lane l).state.stage ∧
        ((t.lane l).state = .calibrating ↔ (s.lane l).state = .calibrating) := by
      rcases hx.state with he | ⟨h1, h2⟩
      · rw [he]; exact ⟨rfl, .rfl⟩
      · rw [(open_stage h1).1, (open_stage h2).1]
        exact ⟨rfl, iff_of_false (open_stage h2).2 (open_stage h1).2⟩
    refine laneFits_of (hl.1 l) hst.1 hst.2 hx.job hx.calPending (h.status l) fun j hj _ _ => ?_
    obtain ⟨k, hk, hjk⟩ := alikeJobs_exists' h.jobs j hj
    exact ⟨k, hk, hjk.id, hjk.lane, hjk.state⟩
  · obtain ⟨j, hj, hjk⟩ := alikeJobs_exists h.jobs k hk
    exact jobFits_of (hl.2 j hj) hjk.id hjk.lane hjk.state fun l _ => (h.lanes l).job

/-- The records of the second table, where one record changes. -/
theorem Changes.origin {j k : Job} {l : LaneId} (h : Changes j k l s t) (hd : s.distinct) :
    ∀ y ∈ t.jobs, y = k ∨ ∃ x ∈ s.jobs, x.id ≠ j.id ∧ x.SameSeat y := by
  obtain ⟨f, hj, rfl, hf⟩ := h.jobs
  intro y hy
  rw [hj] at hy
  obtain ⟨x, hx, rfl⟩ := List.mem_map.1 hy
  by_cases hid : x.id = j.id
  · rw [hd.unique hx h.mem hid]; exact .inl rfl
  · exact .inr ⟨x, hx, hid, hf x hx hid⟩

theorem Changes.new {j k : Job} {l : LaneId} (h : Changes j k l s t) : k ∈ t.jobs := by
  obtain ⟨f, hj, rfl, -⟩ := h.jobs
  exact hj ▸ List.mem_map_of_mem h.mem

theorem Changes.other {j k : Job} {l : LaneId} (h : Changes j k l s t) {x : Job} (hx : x ∈ s.jobs) (hid : x.id ≠ j.id) :
    ∃ y ∈ t.jobs, x.SameSeat y := by
  obtain ⟨f, hj, -, hf⟩ := h.jobs
  exact ⟨f x, hj ▸ List.mem_map_of_mem hx, hf x hx hid⟩

/-- A change of one job and its lane keeps lanes and jobs in agreement where the two agree again. -/
theorem Changes.lanesSound {j k : Job} {l : LaneId} (h : Changes j k l s t) (hd : s.distinct) (hl : s.lanesSound)
    (honly : ∀ m, (s.lane m).job = some j.id → m = l) (hlane : ∀ n, (s.lane l).job = some n → n = j.id)
    (hfit : t.laneFits l) (hk : t.jobFits k) : t.lanesSound := by
  refine ⟨fun m => ?_, fun y hy => ?_⟩
  · by_cases hm : m = l
    · rw [hm]; exact hfit
    · have he := h.lane m hm
      refine laneFits_of (hl.1 m) (by rw [he]) (by rw [he]) (by rw [he]) (by rw [he]) (h.status m hm) fun x hx hxm _ => ?_
      obtain ⟨y, hy, hxy⟩ := h.other hx fun hid => hm (honly m (hid ▸ hxm))
      exact ⟨y, hy, hxy.id, hxy.lane, hxy.state⟩
  · rcases h.origin hd y hy with rfl | ⟨x, hx, hid, hxy⟩
    · exact hk
    · refine jobFits_of (hl.2 x hx) hxy.id hxy.lane hxy.state fun m hm => ?_
      rw [h.lane m fun hml => hid (hlane _ (hml ▸ hm))]

/-- Only the lane a job names serves it. -/
theorem lanesSound_only (hd : s.distinct) (hl : s.lanesSound) {j : Job} (hj : j ∈ s.jobs) {l m : LaneId}
    (h : (s.lane l).job = some j.id) (hm : (s.lane m).job = some j.id) : m = l :=
  Option.some.inj ((lanesSound_lane hd hl hj hm).1.symm.trans (lanesSound_lane hd hl hj h).1)

/-- No lane serves a job that is not at a stage of a lane. -/
theorem lanesSound_off (hd : s.distinct) (hl : s.lanesSound) {j : Job} (hj : j ∈ s.jobs) (ho : j.state.onLane = false)
    (l : LaneId) : (s.lane l).job ≠ some j.id := fun h => by
  rw [stage_onLane (lanesSound_lane hd hl hj h).2] at ho
  cases ho

/-- Every such move keeps lanes and jobs in agreement. -/
theorem LaneMove.lanesSound (h : LaneMove P s t) (hd : s.distinct) (hl : s.lanesSound) : t.lanesSound := by
  cases h with
  | alike h => exact h.lanesSound hl
  | off lane status sites plans on origin total =>
    refine ⟨fun m => ?_, fun k hk => ?_⟩
    · have he := lane m
      refine laneFits_of (hl.1 m) (by rw [he]) (by rw [he]) (by rw [he]) (by rw [he]) (status m) fun j hj _ ho => ?_
      obtain ⟨k, hk, hjk⟩ := on j hj ho
      exact ⟨k, hk, hjk.id, hjk.lane, hjk.state⟩
    · rcases origin k hk with ⟨j, hj, hjk⟩ | ⟨hoff, hk'⟩
      · exact jobFits_of (hl.2 j hj) hjk.id hjk.lane hjk.state fun m _ => by rw [lane m]
      · refine ⟨fun _ => ?_, fun ho => by rw [hoff] at ho; cases ho⟩
        rcases hk' with ⟨h, -⟩ | ⟨j, hj, hjo, hjl, -⟩
        · exact h
        · exact hjl.trans ((hl.2 j hj).1 hjo)
  | staged j k l h job lane shape result job' stage calPending status free bands plug =>
    obtain ⟨hjl, hst⟩ := lanesSound_lane hd hl h.mem job
    obtain ⟨-, -, h3, h4, h5⟩ := hl.1 l
    have hne : (s.lane l).state.stage ≠ none := by rw [hst]; nofun
    have hnc : (s.lane l).state ≠ .calibrating := fun hc => hne (by rw [hc]; rfl)
    have hnc' : (t.lane l).state ≠ .calibrating := fun hc => by rw [hc] at stage; cases stage
    refine h.lanesSound hd hl (fun m hm => lanesSound_only hd hl h.mem job hm) (fun n hn => ?_) ⟨?_, ?_, ?_, ?_, ?_⟩ ⟨?_, ?_⟩
    · exact Option.some.inj (hn.symm.trans job)
    · rw [stage]; nofun
    · rintro st hst'
      obtain rfl : st = k.state := Option.some.inj (hst'.symm.trans stage)
      exact ⟨k, h.new, by rw [h.id]; exact job', lane.trans hjl, rfl⟩
    · rw [status, ← h3]
      exact iff_of_false hnc' hnc
    · rw [calPending, status]; exact h4
    · rw [stage]; nofun
    · intro ho; rw [stage_onLane stage] at ho; cases ho
    · exact fun _ => ⟨l, lane.trans hjl, by rw [h.id]; exact job'⟩
  | left j k l h job lane off buffer job' stage calPending acquisition calibrating pending plug total =>
    refine h.lanesSound hd hl (fun m hm => lanesSound_only hd hl h.mem job hm) (fun n hn => ?_)
      ⟨fun _ => job', ?_, calibrating, ?_, ?_⟩ ⟨fun _ => lane, ?_⟩
    · exact Option.some.inj (hn.symm.trans job)
    · rw [stage]; nofun
    · exact iff_of_false (by rw [calPending]; nofun) pending
    · rw [calPending]; nofun
    · intro ho; rw [off] at ho; cases ho
  | placed j k l h queued open_ state lane shape result state' job' connected acquisition calPending status sites site ready
      free =>
    obtain ⟨h1, -, h3, h4, h5⟩ := hl.1 l
    have hopen := open_stage open_
    refine h.lanesSound hd hl (fun m hm => ?_) (fun n hn => ?_) ⟨?_, ?_, ?_, ?_, ?_⟩ ⟨?_, ?_⟩
    · exact absurd hm (lanesSound_off hd hl h.mem (by rw [queued]; rfl) m)
    · rw [h1 hopen.1] at hn; cases hn
    · rw [state']; nofun
    · rw [state']
      rintro st ⟨⟩
      exact ⟨k, h.new, by rw [h.id]; exact job', lane, state⟩
    · rw [status, ← h3, state']
      exact iff_of_false nofun hopen.2
    · rw [calPending, status]; exact h4
    · rw [state']; nofun
    · rw [state]; nofun
    · exact fun _ => ⟨l, lane, by rw [h.id]; exact job'⟩
  | calibrated l jobs lane status plans sites free job stage connects connected acquisition calibrating pending serving =>
    refine ⟨fun m => ?_, fun k hk => ?_⟩
    · by_cases hm : m = l
      · subst hm
        obtain ⟨h1, h2, -⟩ := hl.1 m
        exact ⟨by rw [stage, job]; exact h1, by rw [stage, job, jobs]; exact h2, calibrating, pending, serving⟩
      · have he := lane m hm
        exact laneFits_of (hl.1 m) (by rw [he]) (by rw [he]) (by rw [he]) (by rw [he]) (status m hm) fun j hj _ _ =>
          ⟨j, jobs ▸ hj, rfl, rfl, rfl⟩
    · refine jobFits_of (hl.2 k (jobs ▸ hk)) rfl rfl rfl fun m _ => ?_
      by_cases hm : m = l
      · rw [hm, job]
      · rw [lane m hm]

/-- What the end of a job keeps, in a part with sound job table and lanes, the end of several keeps. -/
theorem endJobs_keeps {I : State → Prop} (h : ∀ s e n, s.jobsSound → s.lanesSound → I s → I (s.endTerminal e n)) (e : EndReason)
    (js : List Job) {s : State} (hs : s.jobsSound) (hl : s.lanesSound) (hi : I s) :
    (s.endJobs e js).lanesSound ∧ I (s.endJobs e js) := by
  unfold State.endJobs
  induction (s.oldestFirst js).map Job.id generalizing s with
  | nil => exact ⟨hl, hi⟩
  | cons n ns ih =>
    exact ih (Move.jobsSound (P := True) (req := none) (.ended s e n) hs)
      ((endTerminal_laneMove (P := True) hs hl e n).lanesSound (jobsSound_distinct hs) hl) (h s e n hs hl hi)

/-- Every move keeps lanes and jobs in agreement. -/
theorem Move.lanesSound (h : Move P req s t) (hs : s.jobsSound) (hl : s.lanesSound) : t.lanesSound := by
  rcases h.laneMove hs hl with h | ⟨u, i, e, js, hu, -, -, -, -, -, rfl⟩
  · exact h.lanesSound (jobsSound_distinct hs) hl
  · have hx : Alike False s (u.openConnection i) := hu.trans (openConnection_alike u i)
    exact (endJobs_keeps (I := fun _ => True) (fun _ _ _ _ _ _ => trivial) e js
      (Move.jobsSound (req := none) (.alike hx) hs) (hx.lanesSound hl) trivial).1

theorem atRest_lanesSound (h : s.AtRest) : s.lanesSound := by
  refine ⟨fun l => ?_, by simp [h.jobs]⟩
  obtain ⟨h1, h2, h3, -⟩ := h.lane l
  simp [h1, h2, h3, h.status l, LaneState.stage]

end

end Sys2Proof.Machine

/-! PROOFS. The switch matrix stays sound (R62): a lane is connected exactly in TUNING, GANG_WAIT and ACQUIRING, to its job's
site, and a site is MEASURING exactly while it is connected. -/

namespace Sys2Proof.Machine

/-! ### Connections -/

/-- Connections of lanes to sites, no two to one site, and the sites that are connected. -/
def Matched (c : LaneId → Option SiteId) (m : SiteId → Prop) : Prop :=
  (∀ l n : LaneId, c l ≠ none → c l = c n → l = n) ∧ ∀ i, m i ↔ ∃ l, c l = some i

theorem Matched.congr {c d : LaneId → Option SiteId} {m n : SiteId → Prop} (h : Matched c m) (hc : ∀ l, d l = c l)
    (hm : ∀ i, n i ↔ m i) : Matched d n := by
  obtain rfl : d = c := funext hc
  exact ⟨h.1, fun i => (hm i).trans (h.2 i)⟩

/-- A connection opened. -/
theorem Matched.disconnect {c d : LaneId → Option SiteId} {m n : SiteId → Prop} (h : Matched c m) (l : LaneId) (hl : d l = none)
    (hd : ∀ k, k ≠ l → d k = c k) (hn : ∀ i, n i ↔ m i ∧ c l ≠ some i) : Matched d n := by
  refine ⟨fun a b ha hab => ?_, fun i => ?_⟩
  · have hal : a ≠ l := fun h => ha (h ▸ hl)
    have hbl : b ≠ l := fun h => ha (hab.trans (h ▸ hl))
    rw [hd a hal] at ha hab
    rw [hd b hbl] at hab
    exact h.1 a b ha hab
  · rw [hn, h.2]
    refine ⟨fun ⟨⟨k, hk⟩, hne⟩ => ⟨k, ?_⟩, fun ⟨k, hk⟩ => ?_⟩
    · rw [hd k fun h => hne (h ▸ hk)]; exact hk
    · have hkl : k ≠ l := fun h => by rw [h, hl] at hk; cases hk
      rw [hd k hkl] at hk
      exact ⟨⟨k, hk⟩, fun hc => hkl (h.1 k l (by rw [hk]; nofun) (hk.trans hc.symm))⟩

/-- A connection made to a site that had none. -/
theorem Matched.connect {c d : LaneId → Option SiteId} {m n : SiteId → Prop} (h : Matched c m) (l : LaneId) (i : SiteId)
    (hc : c l = none) (hi : ¬m i) (hl : d l = some i) (hd : ∀ k, k ≠ l → d k = c k) (hn : ∀ k, n k ↔ m k ∨ k = i) :
    Matched d n := by
  have hfree (k : LaneId) : c k ≠ some i := fun hk => hi ((h.2 i).2 ⟨k, hk⟩)
  refine ⟨fun a b ha hab => ?_, fun k => ?_⟩
  · by_cases hal : a = l <;> by_cases hbl : b = l
    · rw [hal, hbl]
    · rw [hal, hl, hd b hbl] at hab
      exact absurd hab.symm (hfree b)
    · rw [hbl, hl, hd a hal] at hab
      exact absurd hab (hfree a)
    · rw [hd a hal] at ha hab
      rw [hd b hbl] at hab
      exact h.1 a b ha hab
  · rw [hn, h.2]
    constructor
    · rintro (⟨a, ha⟩ | rfl)
      · exact ⟨a, by rw [hd a fun h => by rw [h, hc] at ha; cases ha]; exact ha⟩
      · exact ⟨l, hl⟩
    · rintro ⟨a, ha⟩
      by_cases hal : a = l
      · rw [hal, hl] at ha
        exact .inr (Option.some.inj ha).symm
      · exact .inl ⟨a, by rw [← hd a hal]; exact ha⟩

section
variable {P : Prop} {req : Option Request} {p : SiteId → Prop} {s t : State}

/-- A lane's input is where its stage wants it; at a site of `p`, which has lost its lane, it may be open already. -/
def State.wiredAt (p : SiteId → Prop) (s : State) (l : LaneId) : Prop :=
  ((s.lane l).state.connects = false → (s.lane l).connected = none) ∧
  ((s.lane l).state.connects = true → ∃ j ∈ s.jobs, (s.lane l).job = some j.id ∧
    ((s.lane l).connected = some j.site ∨ ((s.lane l).connected = none ∧ p j.site)))

/-- The switch matrix is sound but for the lanes of jobs at sites of `p`. -/
def State.wired (p : SiteId → Prop) (s : State) : Prop :=
  (∀ l, s.wiredAt p l) ∧ Matched (fun l => (s.lane l).connected) fun i => (s.site i).state = .measuring

theorem matrixSound_iff : s.matrixSound ↔ s.wired fun _ => False := by
  unfold State.matrixSound State.wired State.wiredAt Matched
  simp

theorem wiredAt_of {l : LaneId} (h : s.wiredAt p l) (hc : (t.lane l).state.connects = (s.lane l).state.connects)
    (hcon : (t.lane l).connected = (s.lane l).connected) (hjob : (t.lane l).job = (s.lane l).job)
    (hj : ∀ j ∈ s.jobs, (s.lane l).job = some j.id → ∃ k ∈ t.jobs, k.id = j.id ∧ k.site = j.site) : t.wiredAt p l := by
  unfold State.wiredAt
  rw [hc, hcon, hjob]
  refine ⟨h.1, fun ht => ?_⟩
  obtain ⟨j, hjm, hjj, hjc⟩ := h.2 ht
  obtain ⟨k, hk, hid, hsite⟩ := hj j hjm hjj
  exact ⟨k, hk, by rw [hid]; exact hjj, by rw [hsite]; exact hjc⟩

theorem connects_open {x : LaneState} (h : x.open = true) : x.connects = false := by
  cases x <;> simp_all [LaneState.open, LaneState.connects]

theorem connects_stage {x : LaneState} (h : x.stage = none) : x.connects = false := by
  cases x <;> simp_all [LaneState.stage, LaneState.connects]

theorem Alike.wired (h : Alike P s t) (hP : P) (hw : s.wired p) : t.wired p := by
  obtain ⟨hcon, hm⟩ := h.matrix hP
  refine ⟨fun l => ?_, hw.2.congr hcon hm⟩
  refine wiredAt_of (hw.1 l) ?_ (hcon l) (h.lanes l).job fun j hj _ => ?_
  · rcases (h.lanes l).state with he | ⟨h1, h2⟩
    · rw [he]
    · rw [connects_open h1, connects_open h2]
  · obtain ⟨k, hk, hjk⟩ := alikeJobs_exists' h.jobs j hj
    exact ⟨k, hk, hjk.id, hjk.site⟩

/-- What a change of one job and its lane leaves of the other lanes' inputs. -/
theorem Changes.wiredAt {j k : Job} {l : LaneId} (h : Changes j k l s t) (hd : s.distinct) {m : LaneId} (hw : s.wiredAt p m)
    (hm : m ≠ l) : t.wiredAt p m := by
  have he := h.lane m hm
  refine wiredAt_of hw (by rw [he]) (by rw [he]) (by rw [he]) fun x hx _ => ?_
  by_cases hid : x.id = j.id
  · rw [hd.unique hx h.mem hid]
    exact ⟨k, h.new, h.id, h.site⟩
  · obtain ⟨y, hy, hxy⟩ := h.other hx hid
    exact ⟨y, hy, hxy.id, hxy.site⟩

/-- The release of a lane's site opens its connection and no other (R23, R62). -/
theorem Released.matched {l : LaneId} (h : Released l s t) (hl : ∀ m, m ≠ l → t.lane m = s.lane m)
    (hw : Matched (fun l => (s.lane l).connected) fun i => (s.site i).state = .measuring) :
    Matched (fun l => (t.lane l).connected) fun i => (t.site i).state = .measuring := by
  refine hw.disconnect l h.1 (fun m hm => by rw [hl m hm]) fun i => ?_
  rw [h.2 i]
  split
  · next hc => exact iff_of_false (by simp [Site.release]) fun hx => hx.2 hc.1
  · next hc => exact ⟨fun hm => ⟨hm, fun hx => hc ⟨hx, hm⟩⟩, fun hx => hx.1⟩

theorem Plugged.matched {l : LaneId} (h : Plugged l s t) (hl : ∀ m, m ≠ l → t.lane m = s.lane m)
    (hw : Matched (fun l => (s.lane l).connected) fun i => (s.site i).state = .measuring) :
    Matched (fun l => (t.lane l).connected) fun i => (t.site i).state = .measuring := by
  refine hw.congr (fun m => ?_) fun i => by rw [h.2 i]
  by_cases hm : m = l
  · rw [hm]; exact h.1
  · rw [hl m hm]

/-- Every such move keeps the switch matrix sound. -/
theorem LaneMove.wired (h : LaneMove P s t) (hP : P) (hd : s.distinct) (hl : s.lanesSound) (hw : s.wired p) : t.wired p := by
  have off {m : LaneId} (h : (t.lane m).state.connects = false) (hc : (t.lane m).connected = none) : t.wiredAt p m :=
    ⟨fun _ => hc, fun hx => by rw [h] at hx; cases hx⟩
  cases h with
  | alike h => exact h.wired hP hw
  | off lane status sites plans on origin total =>
    refine ⟨fun m => ?_, hw.2.congr (fun m => by rw [lane m]) fun i => by rw [sites i]⟩
    have he := lane m
    refine wiredAt_of (hw.1 m) (by rw [he]) (by rw [he]) (by rw [he]) fun j hj hjm => ?_
    obtain ⟨k, hk, hjk⟩ := on j hj (stage_onLane (lanesSound_lane hd hl hj hjm).2)
    exact ⟨k, hk, hjk.id, hjk.site⟩
  | staged j k l h job lane shape result job' stage calPending status free bands plug =>
    rcases plug with ⟨hplug, hc, hc'⟩ | ⟨hrel, hc'⟩
    · refine ⟨fun m => ?_, hplug.matched h.lane hw.2⟩
      by_cases hm : m = l
      · subst hm
        obtain ⟨x, hx, hxj, hxc⟩ := (hw.1 m).2 hc
        obtain rfl : x = j := hd.unique hx h.mem (Option.some.inj (hxj.symm.trans job))
        refine ⟨fun hx => (by rw [hc'] at hx; cases hx), fun _ => ⟨k, h.new, by rw [h.id]; exact job', ?_⟩⟩
        rw [hplug.1, h.site]
        exact hxc
      · exact h.wiredAt hd (hw.1 m) hm
    · refine ⟨fun m => ?_, hrel.matched h.lane hw.2⟩
      by_cases hm : m = l
      · rw [hm]; exact off hc' hrel.1
      · exact h.wiredAt hd (hw.1 m) hm
  | left j k l h job lane off' buffer job' stage calPending acquisition calibrating pending plug total =>
    have hc' := connects_stage stage
    have hnone : (t.lane l).connected = none := by
      rcases plug with ⟨hplug, hc⟩ | hrel
      · exact hplug.1.trans ((hw.1 l).1 hc)
      · exact hrel.1
    have hmatch : Matched (fun l => (t.lane l).connected) fun i => (t.site i).state = .measuring := by
      rcases plug with ⟨hplug, -⟩ | hrel
      · exact hplug.matched h.lane hw.2
      · exact hrel.matched h.lane hw.2
    refine ⟨fun m => ?_, hmatch⟩
    by_cases hm : m = l
    · rw [hm]; exact off hc' hnone
    · exact h.wiredAt hd (hw.1 m) hm
  | placed j k l h queued open_ state lane shape result state' job' connected acquisition calPending status sites site ready
      free =>
    have hready := ready hP
    refine ⟨fun m => ?_, hw.2.connect l j.site ((hw.1 l).1 (connects_open open_)) (by rw [hready]; nofun) connected
      (fun m hm => by rw [h.lane m hm]) fun i => ?_⟩
    · by_cases hm : m = l
      · subst hm
        refine ⟨by rw [state']; nofun, fun _ => ⟨k, h.new, by rw [h.id]; exact job', .inl ?_⟩⟩
        rw [connected, h.site]
      · exact h.wiredAt hd (hw.1 m) hm
    · by_cases hi : i = j.site
      · rw [hi]
        exact iff_of_true site (.inr rfl)
      · rw [sites i hi]
        exact ⟨.inl, fun h => h.resolve_right hi⟩
  | calibrated l jobs lane status plans sites free job stage connects connected acquisition calibrating pending serving =>
    have hcon (m : LaneId) : (t.lane m).connected = (s.lane m).connected := by
      by_cases hm : m = l
      · rw [hm]; exact connected
      · rw [lane m hm]
    refine ⟨fun m => ?_, hw.2.congr hcon fun i => by rw [sites i]⟩
    have hsame : (t.lane m).state.connects = (s.lane m).state.connects ∧ (t.lane m).job = (s.lane m).job := by
      by_cases hm : m = l
      · rw [hm]; exact ⟨connects, job⟩
      · rw [lane m hm]; exact ⟨rfl, rfl⟩
    exact wiredAt_of (hw.1 m) hsame.1 (hcon m) hsame.2 fun j hj _ => ⟨j, jobs ▸ hj, rfl, rfl⟩

/-! ### The loss of a site (R24, R76, R77) -/

/-- A job that still runs after others ended ran before, and was not among them. -/
theorem endJobs_running {s : State} (hd : s.distinct) (e : EndReason) (js : List Job) :
    ∀ k ∈ (s.endJobs e js).jobs, k.state.running = true →
      ∃ j ∈ s.jobs, j.id = k.id ∧ j.site = k.site ∧ j.state = k.state := by
  have step (u : State) (n : Nat) : ∀ k ∈ (u.endTerminal e n).jobs, k.state.running = true →
      ∃ j ∈ u.jobs, j.id = k.id ∧ j.site = k.site ∧ j.state = k.state := by
    intro k hk hr
    have map (u : State) (j : Job) (r : Result) (hk : k ∈ u.jobs.map (Job.afterEnd j.id e r)) :
        ∃ j ∈ u.jobs, j.id = k.id ∧ j.site = k.site ∧ j.state = k.state := by
      obtain ⟨x, hx, rfl⟩ := List.mem_map.1 hk
      by_cases hid : x.id = j.id
      · rw [Job.afterEnd_self hid] at hr; cases hr
      · rw [Job.afterEnd_other hid]; exact ⟨x, hx, rfl, rfl, rfl⟩
    rcases endTerminal_cases e u n with h | ⟨j, -, -, -, ⟨-, h⟩ | ⟨l, -, -, h⟩⟩
    · rw [h] at hk; exact ⟨k, hk, rfl, rfl, rfl⟩
    · rw [h, endRecord_jobs] at hk; exact map u j _ hk
    · rw [h, releaseLane_jobs, endRecord_jobs, releaseSite_jobs] at hk; exact map u j _ hk
  unfold State.endJobs
  induction (s.oldestFirst js).map Job.id generalizing s with
  | nil => exact fun k hk _ => ⟨k, hk, rfl, rfl, rfl⟩
  | cons n ns ih =>
    intro k hk hr
    obtain ⟨x, hx, h1, h2, h3⟩ := ih (Move.distinct (P := True) (req := none) hd (.ended s e n)) k hk hr
    obtain ⟨j, hj, g1, g2, g3⟩ := step s n x hx (h3 ▸ hr)
    exact ⟨j, hj, g1.trans h1, g2.trans h2, g3.trans h3⟩

/-- The end of a job that runs or has ended leaves it ended (R79). -/
theorem endTerminal_ends {s : State} (hd : s.distinct) (e : EndReason) {n : Nat}
    (h : ∀ k ∈ s.jobs, k.id = n → k.state = .done ∨ k.state.running = true) :
    ∀ k ∈ (s.endTerminal e n).jobs, k.id = n → k.state = .done := by
  intro k hk hid
  have hids : n ∈ s.jobs.map Job.id := by
    rw [← (endTerminal_carried e s n).jobs.ids]
    exact List.mem_map.2 ⟨k, hk, hid⟩
  obtain ⟨j, hj, rfl⟩ := List.mem_map.1 hids
  have hd' := (endTerminal_carried e s j.id).distinct hd
  rcases h j hj rfl with hdone | hrun
  · have hstay : s.endTerminal e j.id = s := by simp [State.endTerminal, hd.job? hj, hdone]
    rw [hstay] at hk
    rw [hd.unique hk hj hid, hdone]
  · obtain ⟨-, x, hx, hxid, hxs, -⟩ := endTerminal_ended hd hj (fun h => by rw [h] at hrun; cases hrun)
      (fun h => by rw [h] at hrun; cases hrun) e
    rw [hd'.unique hk hx (hid.trans hxid.symm), hxs]

/-- A running job among those that end has ended (R79). -/
theorem endJobs_ends {s : State} (hd : s.distinct) (e : EndReason) {js : List Job} {j : Job} (hj : j ∈ s.jobs)
    (hr : j.state.running = true) (hjs : j ∈ js) : ∀ k ∈ (s.endJobs e js).jobs, k.id = j.id → k.state = .done := by
  have key : ∀ (ns : List Nat) (u : State), u.distinct → ∀ n,
      (∀ k ∈ u.jobs, k.id = n → k.state = .done ∨ (n ∈ ns ∧ k.state.running = true)) →
      ∀ k ∈ (ns.foldl (State.endTerminal e) u).jobs, k.id = n → k.state = .done := by
    intro ns
    induction ns with
    | nil => exact fun u _ n h k hk hid => (h k hk hid).resolve_right nofun
    | cons x ns ih =>
      intro u hu n h
      refine ih _ ((endTerminal_carried e u x).distinct hu) n fun k hk hid => ?_
      by_cases hx : x = n
      · subst hx
        exact .inl (endTerminal_ends hu e (fun k hk hid => (h k hk hid).imp id And.right) k hk hid)
      · have hids : k.id ∈ u.jobs.map Job.id := by
          rw [← (endTerminal_carried e u x).jobs.ids]
          exact List.mem_map_of_mem hk
        obtain ⟨y, hy, hyid⟩ := List.mem_map.1 hids
        obtain ⟨z, hz, g, rfl⟩ := endTerminal_reaches e u x y hy fun h => hx (by rw [← h, hyid, hid])
        obtain rfl := ((endTerminal_carried e u x).distinct hu).unique hz hk hyid
        rcases h y hy (hyid.trans hid) with h | ⟨h, h'⟩
        · exact .inl h
        · exact .inr ⟨(List.mem_cons.1 h).resolve_left (Ne.symm hx), h'⟩
  refine key _ s hd j.id fun k hk hid => .inr ⟨List.mem_map_of_mem (mem_oldestFirst.2 hjs), ?_⟩
  rw [hd.unique hk hj hid]
  exact hr

/-- A site's loss opens its connection; the matrix is sound but for the lane of its running job (R62). -/
theorem openConnection_wired {s u : State} {i : SiteId} (hw : s.matrixSound) (hl : u.lanes = s.lanes) (hj : u.jobs = s.jobs)
    (hs : ∀ k, k ≠ i → u.site k = s.site k) (hm : (u.site i).state ≠ .measuring) : (u.openConnection i).wired (· = i) := by
  rw [matrixSound_iff] at hw
  obtain ⟨hat, hmatch⟩ := hw
  have hlane (l : LaneId) : (u.openConnection i).lane l =
      if (s.lane l).connected = some i then { s.lane l with connected := none } else s.lane l := by
    have hu : u.lane l = s.lane l := by simp only [State.lane, hl]
    rw [openConnection_lane, hu]
  have hsite (k : SiteId) : (u.openConnection i).site k = u.site k := rfl
  refine ⟨fun l => ?_, ?_⟩
  · obtain ⟨h1, h2⟩ := hat l
    unfold State.wiredAt
    rw [hlane]
    split
    · next hc =>
      refine ⟨fun _ => rfl, fun ht => ?_⟩
      obtain ⟨j, hjm, hjj, hjc⟩ := h2 ht
      have hji : j.site = i := by
        rw [hc] at hjc
        exact (Option.some.inj (hjc.resolve_right nofun)).symm
      exact ⟨j, by rw [← hj] at hjm; exact hjm, hjj, .inr ⟨rfl, hji⟩⟩
    · refine ⟨h1, fun ht => ?_⟩
      obtain ⟨j, hjm, hjj, hjc⟩ := h2 ht
      exact ⟨j, by rw [← hj] at hjm; exact hjm, hjj, .inl (hjc.resolve_right fun h => h.2)⟩
  · by_cases hl : ∃ l, (s.lane l).connected = some i
    · obtain ⟨l, hl⟩ := hl
      have huniq (m : LaneId) (hm : (s.lane m).connected = some i) : m = l :=
        hmatch.1 m l (by simp [hm]) (hm.trans hl.symm)
      refine hmatch.disconnect l (by simp only [hlane, if_pos hl]) (fun m hne => ?_) fun k => ?_
      · simp only [hlane]
        rw [if_neg fun h => hne (huniq m h)]
      · rw [hsite]
        by_cases hk : k = i
        · rw [hk]
          exact iff_of_false hm fun h => h.2 hl
        · rw [hs k hk]
          exact ⟨fun h => ⟨h, fun hc => hk (Option.some.inj (hc.symm.trans hl))⟩, And.left⟩
    · have hno (l : LaneId) : (s.lane l).connected ≠ some i := fun h => hl ⟨l, h⟩
      refine hmatch.congr (fun l => by simp only [hlane]; rw [if_neg (hno l)]) fun k => ?_
      rw [hsite]
      by_cases hk : k = i
      · rw [hk]
        exact iff_of_false hm fun h => hl ((hmatch.2 i).1 h)
      · rw [hs k hk]

/-- Where no running job is left at the sites of `p`, the matrix is sound. -/
theorem wired_sound (hw : s.wired p) (hd : s.distinct) (hl : s.lanesSound)
    (h : ∀ j ∈ s.jobs, p j.site → j.state.running = false) : s.matrixSound := by
  rw [matrixSound_iff]
  refine ⟨fun l => ⟨(hw.1 l).1, fun hc => ?_⟩, hw.2⟩
  obtain ⟨j, hj, hjj, hjc⟩ := (hw.1 l).2 hc
  refine ⟨j, hj, hjj, .inl (hjc.resolve_right fun hp => ?_)⟩
  have hst := (lanesSound_lane hd hl hj hjj).2
  have hr := h j hj hp.2
  cases hx : (s.lane l).state <;> rw [hx] at hc hst <;> cases hc <;>
    · rw [← Option.some.inj hst] at hr; cases hr

/-- Every move keeps the switch matrix sound. -/
theorem Move.matrixSound (h : Move P req s t) (hP : P) (hs : s.jobsSound) (hl : s.lanesSound) (hw : s.matrixSound) :
    t.matrixSound := by
  have hd := jobsSound_distinct hs
  rcases h.laneMove hs hl with h | ⟨u, i, e, js, hu, hlanes, hj, hsite, hm, hr, rfl⟩
  · exact matrixSound_iff.2 (h.wired hP hd hl (matrixSound_iff.1 hw))
  · have hx : Alike False s (u.openConnection i) := hu.trans (openConnection_alike u i)
    have hsx : (u.openConnection i).jobsSound := Move.jobsSound (req := none) (.alike hx) hs
    have hdx := jobsSound_distinct hsx
    obtain ⟨hlt, hwt⟩ := endJobs_keeps (I := State.wired (· = i)) (fun v e n hv hlv hwv =>
        (endTerminal_laneMove (P := True) hv hlv e n).wired trivial (jobsSound_distinct hv) hlv hwv) e js hsx
      (hx.lanesSound hl) (openConnection_wired hw hlanes hj hsite hm)
    refine wired_sound hwt ((endJobs_carried _ _ _).distinct hdx) hlt fun k hk hki => ?_
    rw [Bool.eq_false_iff]
    intro hrun
    obtain ⟨j, hjm, hid, hjsite, hstate⟩ := endJobs_running hdx e js k hk hrun
    have hjs : j ∈ s.jobs := by rw [← hj]; exact hjm
    have hend := endJobs_ends hdx e (js := js) hjm (hstate ▸ hrun) (hr j hjs (hjsite.trans hki) (hstate ▸ hrun)) k hk hid.symm
    rw [hend] at hrun
    cases hrun

theorem atRest_matrixSound (h : s.AtRest) : s.matrixSound := by
  refine ⟨fun l => ?_, fun l m hl => ?_, fun i => ?_⟩
  · obtain ⟨h1, -, -, h4, -⟩ := h.lane l
    simp [h1, h4, LaneState.connects]
  · obtain ⟨-, -, -, h4, -⟩ := h.lane l
    exact absurd h4 hl
  · have hc (l : LaneId) : (s.lane l).connected = none := (h.lane l).2.2.2.1
    simp [h.site i, hc, Site.reset]

end

end Sys2Proof.Machine

/-! PROOFS. The reservations stay sound (R67), and with them O58. -/

namespace Sys2Proof.Machine

section
variable {s t : State}

/-! ### Counts of lanes -/

theorem lanesIn_mono {st : LaneState} (h : ∀ l, (t.lane l).state = st → (s.lane l).state = st) : t.lanesIn st ≤ s.lanesIn st :=
  List.countP_mono_left fun l _ hl => by simpa using h l (by simpa using hl)

theorem lanesIn_congr (st : LaneState) (h : ∀ l, (t.lane l).state = (s.lane l).state) : t.lanesIn st = s.lanesIn st := by
  simp only [State.lanesIn, h]

theorem lanesIn_eq_zero {st : LaneState} (h : ∀ l, (s.lane l).state ≠ st) : s.lanesIn st = 0 :=
  List.countP_eq_zero.2 fun l _ hl => h l (by simpa using hl)

theorem moveLanes_state (s : State) (p q : LaneState) (l : LaneId) : ((s.moveLanes p q).lane l).state =
    if (s.lane l).state = p then q else (s.lane l).state := by
  simp only [State.lane, State.moveLanes, Fin.getElem_fin, Vector.getElem_map]
  by_cases h : s.lanes[l.val].state = p <;> simp [h]

/-- The lanes of a state that all have gone to another. -/
theorem moveLanes_from (s : State) {p q : LaneState} (h : q ≠ p) : (s.moveLanes p q).lanesIn p = 0 :=
  lanesIn_eq_zero fun l => by
    rw [moveLanes_state]
    split
    · exact h
    · next h => exact h

theorem countP_or {α : Type} {p q : α → Bool} (h : ∀ a, p a = true → q a = false) : ∀ xs : List α,
    xs.countP (fun a => p a || q a) = xs.countP p + xs.countP q
  | [] => rfl
  | a :: xs => by
    have ih := countP_or h xs
    have ha := h a
    simp only [List.countP_cons, ih]
    cases hp : p a <;> cases hq : q a <;> simp_all <;> omega

/-- The lanes that are in a state after others came to it. -/
theorem moveLanes_to (s : State) {p q : LaneState} (h : p ≠ q) :
    (s.moveLanes p q).lanesIn q = s.lanesIn p + s.lanesIn q := by
  unfold State.lanesIn
  rw [← countP_or (p := fun l => (s.lane l).state == p) (q := fun l => (s.lane l).state == q)]
  · refine List.countP_congr fun l _ => ?_
    rw [moveLanes_state]
    by_cases hl : (s.lane l).state = p <;> simp [hl]
  · intro l hl
    simp only [beq_iff_eq] at hl
    simp [hl, h]

theorem lanesIn_le_service (s : State) : s.lanesIn .idle + s.lanesIn .reserved ≤ s.lanesInService := by
  have h : (List.finRange 4).countP (fun l => ((s.lane l).state == .idle || (s.lane l).state == .reserved) ||
      (s.lane l).state == .outOfService) ≤ 4 := List.countP_le_length
  rw [countP_or (by intro l hl; simp only [Bool.or_eq_true, beq_iff_eq] at hl; rcases hl with h | h <;> simp [h]),
    countP_or (by intro l hl; simp only [beq_iff_eq] at hl; simp [hl])] at h
  unfold State.lanesInService State.lanesIn
  omega

/-! ### Reservations (R67) -/

/-- Lanes are RESERVED only for a recorded head of more members. -/
def State.reservedBelow (s : State) : Prop :=
  s.lanesIn .reserved = 0 ∨ ∃ head ∈ s.head, s.lanesIn .reserved < head.length

theorem reservedSound_below (h : s.reservedSound) : s.reservedBelow := h.imp id fun ⟨head, hh, h1, _⟩ => ⟨head, hh, h1⟩

/-- The reservations are sound, or the arbiter is called. -/
def State.reservedDue (s : State) : Prop := s.reservedBelow ∧ (s.reconsider = true ∨ s.reservedSound)

theorem Touch.reservedDue (h : Touch s t) (hs : s.reservedDue) : t.reservedDue := by
  obtain ⟨hb, hd⟩ := hs
  have hr := lanesIn_mono h.reserved
  refine ⟨?_, ?_⟩
  · rcases hb with hb | ⟨head, hh, hb⟩
    · exact .inl (by omega)
    · exact .inr ⟨head, by rw [h.head]; exact hh, by omega⟩
  · rcases h.idle with hc | hi
    · exact .inl hc
    rcases hd with hc | hs
    · exact .inl (h.called hc)
    have hi' := lanesIn_mono hi
    rcases hs with hs | ⟨head, hh, h1, h2⟩
    · exact .inr (.inl (by omega))
    · exact .inr (.inr ⟨head, by rw [h.head]; exact hh, by omega, by omega⟩)

/-- Where lanes and head stand, so do the reservations. -/
theorem reservedSound_congr (hl : ∀ l, (t.lane l).state = (s.lane l).state) (hh : t.head = s.head) :
    t.reservedSound ↔ s.reservedSound := by
  unfold State.reservedSound
  rw [lanesIn_congr _ hl, lanesIn_congr _ hl, hh]

/-- A head that fits the lanes reserved and has more members than lanes are IDLE. -/
theorem reservedSound_of_head {c : List Job} (hh : s.head = some (headId c))
    (hr : s.lanesIn .reserved = 0 ∨ s.lanesIn .reserved < c.length) (hi : s.lanesIn .idle < c.length) : s.reservedSound := by
  rcases hr with hr | hr
  · exact .inl hr
  · exact .inr ⟨headId c, hh, by simpa [headId] using hr, by simpa [headId] using hi⟩

theorem unreserve_reservedSound (s : State) : s.unreserve.reservedSound := .inl (moveLanes_from s nofun)

/-- The recorded head after it is taken, and the lanes reserved for it. -/
theorem takeHead_reserved (s : State) (c : List Job) (h : s.reservedBelow) : (s.takeHead c).head = some (headId c) ∧
    ((s.takeHead c).lanesIn .reserved = 0 ∨ (s.takeHead c).lanesIn .reserved < c.length) := by
  unfold State.takeHead
  split
  · next hh =>
    refine ⟨hh, h.imp id ?_⟩
    rintro ⟨head, hm, h⟩
    rw [hh] at hm
    cases hm
    simpa [headId] using h
  · exact ⟨rfl, .inl (moveLanes_from s nofun)⟩

theorem reserve_reservedSound {c : List Job} (hh : s.head = some (headId c))
    (h : s.lanesIn .idle + s.lanesIn .reserved < c.length) : s.reserve.reservedSound := by
  refine reservedSound_of_head (s := s.reserve) hh (.inr ?_) ?_
  · rw [State.reserve, moveLanes_to s (by decide)]
    exact h
  · rw [State.reserve, moveLanes_from s (by decide)]
    omega

/-- What the arbiter does with a head leaves the reservations sound (R67). -/
theorem serveHead_reservedSound {c : List Job} (hh : s.head = some (headId c))
    (hr : s.lanesIn .reserved = 0 ∨ s.lanesIn .reserved < c.length) : (s.serveHead c).1.reservedSound := by
  have raise (u : State) (h : u.reservedSound) : (u.raise .stalled).reservedSound :=
    (reservedSound_congr (by simp) (by simp)).2 h
  unfold State.serveHead
  dsimp only
  split
  · split
    · exact .inl (moveLanes_from _ nofun)
    · next h => exact reserve_reservedSound hh (not_le.1 h)
  split
  · next h => exact raise _ (reserve_reservedSound hh h)
  split
  · next h => exact raise _ (reservedSound_of_head hh hr h)
  · exact raise _ (unreserve_reservedSound s)

/-- Jobs that wait end without a change of lanes. -/
theorem endJobs_waiting_lanes (hd : s.distinct) (e : EndReason) {c : List Job}
    (hc : ∀ j ∈ c, j ∈ s.jobs ∧ j.state.running = false) : (s.endJobs e c).lanes = s.lanes := by
  refine (foldl_endTerminal_lanes _ _ hd fun id hid j hj hi => ?_).1
  obtain ⟨k, hk, rfl⟩ := List.mem_map.1 hid
  obtain ⟨hk, hr⟩ := hc k (mem_oldestFirst.1 hk)
  rw [hd.unique hj hk hi]
  exact hr

theorem reconsiderWith_reservedSound (fuel : Nat) (hd : s.tabled False) (hb : s.reservedBelow)
    (hf : 0 < fuel ∨ s.reservedSound) : (State.reconsiderWith fuel s).reservedSound := by
  induction fuel generalizing s with
  | zero => exact hf.resolve_left nofun
  | succ fuel ih =>
    unfold State.reconsiderWith
    split
    · exact .inl (moveLanes_from s nofun)
    next c hc =>
    obtain ⟨hh, hr⟩ := takeHead_reserved s c hb
    obtain ⟨hcand, hready⟩ := findHead_isCandidate hc
    have ht : Moves False none s (s.takeHead c) := .alike (takeHead_alike False s c)
    have htt := Moves.tabled ht hd
    dsimp only
    split
    · next hserv =>
      have hq (j : Job) (hj : j ∈ c) : j ∈ (s.takeHead c).jobs ∧ j.state.running = false := by
        obtain ⟨h1, h2⟩ := isCandidate_queued hcand j hj
        exact ⟨by simpa using h1, by rw [h2]; rfl⟩
      have hlanes := endJobs_waiting_lanes (jobsSound_distinct htt.1) .noLane hq
      have htouch := endJobs_touch (s.takeHead c) .noLane c
      have hcount (st : LaneState) : ((s.takeHead c).endJobs .noLane c).lanesIn st = (s.takeHead c).lanesIn st :=
        lanesIn_congr st fun l => by simp only [State.lane, hlanes]
      have hle := lanesIn_le_service (s.takeHead c)
      have hsound : ((s.takeHead c).endJobs .noLane c).reservedSound :=
        reservedSound_of_head (htouch.head.trans hh) (by rw [hcount]; exact hr) (by rw [hcount]; omega)
      exact ih (Moves.tabled (endJobs_moves (req := none) _ .noLane c) htt) (reservedSound_below hsound) (.inr hsound)
    have hsound := serveHead_reservedSound hh hr
    split
    · exact ih (Moves.tabled (req := none) (serveHead_moves htt (takeHead_isCandidate hcand) (takeHead_sitesReady hready)) htt)
        (reservedSound_below hsound) (.inr hsound)
    · exact hsound

/-- The close of an event leaves the reservations sound. -/
theorem close_reservedSound (hd : s.tabled False) (h : s.reservedDue) (s₀ : State) : (s.close s₀).reservedSound := by
  obtain ⟨hb, hdue⟩ := (startGangs_touch s).reservedDue h
  have hg : s.startGangs.tabled False := Moves.tabled (req := none) (startGangs_moves (jobsSound_distinct hd.1)) hd
  have harb : s.startGangs.arbitrate.reservedSound := by
    unfold State.arbitrate
    split
    · exact reconsiderWith_reservedSound _ hg hb (.inl (Nat.succ_pos _))
    · next hr => exact hdue.resolve_left hr
  have hhead (u : State) : u.settlePort.head = u.head := by
    unfold State.settlePort State.beginFrame
    dsimp only
    repeat' split
    all_goals rfl
  exact (reservedSound_congr (s := s.startGangs.arbitrate) (t := s.close s₀) (fun l => congrArg Lane.state (settlePort_lane s.startGangs.arbitrate l))
    (hhead _)).2 harb

theorem atRest_reservedSound (h : s.AtRest) : s.reservedSound :=
  .inl (lanesIn_eq_zero fun l => by rw [(h.lane l).1]; nofun)

theorem resultRelease_reservedDue (v : Half) (h : s.reservedSound) : (s.resultRelease v).1.reservedDue := by
  unfold State.resultRelease
  split
  · exact ⟨reservedSound_below h, .inr h⟩
  next j _ =>
  split
  · have hs : (s.dropJob j).reservedSound :=
      (reservedSound_congr (fun l => by simp [State.dropJob, State.lane]) (by simp [State.dropJob])).2 h
    exact ⟨reservedSound_below hs, .inr hs⟩
  · exact ⟨reservedSound_below h, .inr h⟩

/-- Carrying out a request leaves the reservations sound or the arbiter called. -/
theorem carryOut_reservedDue (r : Request) (h : s.reservedSound) : (s.carryOut r).1.reservedDue := by
  have hs : s.reservedDue := ⟨reservedSound_below h, .inr h⟩
  by_cases hm : ∃ m, r = .eventsMask m
  · obtain ⟨m, rfl⟩ := hm
    exact hs
  by_cases hv : ∃ v, r = .resultRelease v
  · obtain ⟨v, rfl⟩ := hv
    exact resultRelease_reservedDue v h
  · exact (carryOut_touch s (fun m hr => hm ⟨m, hr⟩) fun v hr => hv ⟨v, hr⟩).reservedDue hs

theorem take_reservedDue (f : Frame) (h : s.reservedSound) : (s.take f).reservedDue := by
  have hs : (s.answer f).1.reservedDue := by
    unfold State.answer
    split
    · exact ⟨reservedSound_below h, .inr h⟩
    · exact ⟨reservedSound_below h, .inr h⟩
    · exact carryOut_reservedDue _ h
  exact hs

/-- Every step keeps the reservations sound. -/
theorem step_reservedSound (hs : s.jobsSound) (hr : s.reservedSound) (h : step s = .next t) : t.reservedSound := by
  unfold step at h
  split at h
  · cases h
    exact hr
  next c rest _ =>
  rw [exec_eq_close] at h
  cases h
  set u : State := { s with pending := rest } with hu
  have hru : u.reservedSound := hr
  have hsu : u.tabled False := ⟨hs, nofun⟩
  have hdue : u.reservedDue := ⟨reservedSound_below hru, .inr hru⟩
  by_cases hc : c = .powerOnReset
  · subst hc
    exact close_reservedSound (atRest_tabled (powerOnReset_atRest u))
      ⟨reservedSound_below (atRest_reservedSound (powerOnReset_atRest u)), .inr (atRest_reservedSound (powerOnReset_atRest u))⟩ u
  cases hl : onLine c with
  | false =>
    exact close_reservedSound (Moves.tabled (effectOf_moves (req := none) hl hc nofun) hsu)
      ((effectOf_touch hl hc u).reservedDue hdue) u
  | true =>
    have he := effectOf_lineEffect hl u
    generalize effectOf c u = v at he
    cases he with
    | port p => exact close_reservedSound (s := u.withPort p) hsu hdue u
    | reset p =>
      have hrest := softReset_atRest (u.withPort p)
      exact close_reservedSound (atRest_tabled hrest)
        ⟨reservedSound_below (atRest_reservedSound hrest), .inr (atRest_reservedSound hrest)⟩ u
    | take p f hf =>
      exact close_reservedSound (Moves.tabled (take_moves (s := u.withPort p) (jobsSound_distinct hs) nofun f) hsu)
        (take_reservedDue f hru) u

end

/-- Settles O58: agreement and matrix are what every move keeps, and a part at rest has; the reservations are followed through
the event's own effects, which call the arbiter where a lane has become IDLE, and through the arbiter's turns. -/
theorem stepKeepsLanesSound : Obligations.StepKeepsLanesSound := by
  intro s t hs hl h
  refine ⟨?_, fun hsites hg hm => ?_, fun hr => step_reservedSound hs hr h⟩
  · exact step_keeps (P := False) (I := State.lanesSound) (fun _ _ _ ht hi hm => hm.lanesSound ht.1 hi)
      (fun _ h _ => atRest_lanesSound h) ⟨hs, nofun⟩ nofun hl h
  · exact (step_keeps (P := True) (I := fun s => s.lanesSound ∧ s.matrixSound)
      (fun _ _ _ ht hi hm => ⟨hm.lanesSound ht.1 hi.1, hm.matrixSound trivial ht.1 hi.1 hi.2⟩)
      (fun _ hr _ => ⟨atRest_lanesSound hr, atRest_matrixSound hr⟩) ⟨hs, fun _ => hg⟩ (fun _ => hsites) ⟨hl, hm⟩ h).2

end Sys2Proof.Machine

/-! PROOFS. Segments are conserved: what leaves the free list is in buffer sets and spectra (R135, R137 to R139, R146). -/

namespace Sys2Proof.Machine

section
variable {P : Prop} {req : Option Request} {s t : State}

/-! ### The pool and what is out of it -/

/-- A job has a buffer set of its plan's size exactly while it is on a lane (R139). -/
def State.bufferFits (s : State) (j : Job) : Prop :=
  (j.state.onLane = false → j.buffer = none) ∧
  (j.state.onLane = true → j.shape = some ((s.planOf j).bandCount, decide (0 < (s.planOf j).snapshot)))

/-- A lane's acquisition record has the bands its job's plan selects (R84). -/
def State.bandsFit (s : State) (l : LaneId) : Prop :=
  ∀ b ∈ (s.lane l).bands, ∀ j ∈ s.jobs, (s.lane l).job = some j.id → b = (s.planOf j).selected

theorem storeSound_iff : s.storeSound ↔ s.segmentsSound ∧ (∀ j ∈ s.jobs, s.bufferFits j) ∧ ∀ l, s.bandsFit l := by
  refine and_congr_right fun _ => and_congr_right fun _ => forall_congr' fun l => ?_
  unfold State.bandsFit Lane.bands
  cases (s.lane l).acquisition <;> simp

theorem shape_eq_none {j : Job} : j.shape = none ↔ j.buffer = none := by simp [Job.shape]

theorem planOf_congr {j k : Job} (hp : t.plans = s.plans) (h : k.plan = j.plan) : t.planOf k = s.planOf j := by
  simp only [State.planOf, hp, h]

theorem bufferFits_of {j k : Job} (h : s.bufferFits j) (hstate : k.state = j.state) (hshape : k.shape = j.shape)
    (hplan : j.state.onLane = true → t.planOf k = s.planOf j) : t.bufferFits k := by
  unfold State.bufferFits
  rw [hstate, hshape, ← shape_eq_none, hshape, shape_eq_none]
  exact ⟨h.1, fun ho => by rw [hplan ho]; exact h.2 ho⟩

theorem Job.SameSeat.bufferFits {j k : Job} (h : j.SameSeat k) (hp : t.plans = s.plans) (hj : s.bufferFits j) :
    t.bufferFits k := bufferFits_of hj h.state h.shape fun _ => planOf_congr hp h.plan

/-- A lane's acquisition record fits where it stands and so does the job the lane serves. -/
theorem bandsFit_of {l : LaneId} (h : s.bandsFit l) (hb : (t.lane l).bands = (s.lane l).bands)
    (hjob : (t.lane l).job = (s.lane l).job)
    (hj : ∀ k ∈ t.jobs, (s.lane l).job = some k.id → ∃ j ∈ s.jobs, k.id = j.id ∧ t.planOf k = s.planOf j) : t.bandsFit l := by
  intro b hbm k hk hkj
  rw [hb] at hbm
  rw [hjob] at hkj
  obtain ⟨j, hjm, hid, hplan⟩ := hj k hk hkj
  rw [hplan]
  exact h b hbm j hjm (by rw [← hid]; exact hkj)

theorem alikeJobs_segments {js ks : List Job} (h : List.Forall₂ Job.Alike js ks) :
    (ks.map Job.segments).sum = (js.map Job.segments).sum := by
  induction h with
  | nil => rfl
  | cons a _ ih => simp [segments_of_shape a.shape a.result, ih]

theorem Alike.storeSound (h : Alike P s t) (hd : s.distinct) (hl : s.lanesSound) (hst : s.storeSound) : t.storeSound := by
  rw [storeSound_iff] at hst ⊢
  obtain ⟨htotal, hbuf, hband⟩ := hst
  have hplan {j k : Job} (hj : j ∈ s.jobs) (hjk : j.Alike k) (ho : j.state.onLane = true) : t.planOf k = s.planOf j := by
    rw [← h.plans j hj fun hdone => by rw [hdone] at ho; cases ho]
    simp only [State.planOf, hjk.plan]
  refine ⟨?_, fun k hk => ?_, fun l => ?_⟩
  · rw [State.segmentsSound, h.free, segmentsHeld_eq, alikeJobs_segments h.jobs]
    exact htotal
  · obtain ⟨j, hj, hjk⟩ := alikeJobs_exists h.jobs k hk
    exact bufferFits_of (hbuf j hj) hjk.state hjk.shape (hplan hj hjk)
  · refine bandsFit_of (hband l) (h.lanes l).bands (h.lanes l).job fun k hk hkl => ?_
    obtain ⟨j, hj, hjk⟩ := alikeJobs_exists h.jobs k hk
    exact ⟨j, hj, hjk.id, hplan hj hjk (stage_onLane (lanesSound_lane hd hl hj (by rw [← hjk.id]; exact hkl)).2)⟩

/-- What a change of one job leaves of the other records and lanes. -/
theorem Changes.storeSound {j k : Job} {l : LaneId} (h : Changes j k l s t) (hd : s.distinct)
    (hbuf : ∀ j ∈ s.jobs, s.bufferFits j) (hband : ∀ l, s.bandsFit l)
    (htotal : t.segmentsSound) (hk : t.bufferFits k) (hl : t.bandsFit l) : t.storeSound := by
  rw [storeSound_iff]
  refine ⟨htotal, fun y hy => ?_, fun m => ?_⟩
  · rcases h.origin hd y hy with rfl | ⟨x, hx, -, hxy⟩
    · exact hk
    · exact hxy.bufferFits h.plans (hbuf x hx)
  · by_cases hm : m = l
    · rw [hm]; exact hl
    · have he := h.lane m hm
      refine bandsFit_of (hband m) (by rw [he]) (by rw [he]) fun y hy _ => ?_
      rcases h.origin hd y hy with rfl | ⟨x, hx, -, hxy⟩
      · exact ⟨j, h.mem, h.id, planOf_congr h.plans h.plan⟩
      · exact ⟨x, hx, hxy.id, planOf_congr h.plans hxy.plan⟩

/-- Every such move keeps the pool and what is out of it sound. -/
theorem LaneMove.storeSound (h : LaneMove P s t) (hs : s.jobsSound) (hdt : t.distinct) (hl : s.lanesSound)
    (hord : s.plansOrdered) (hst : s.storeSound) : t.storeSound := by
  have hd := jobsSound_distinct hs
  obtain ⟨htotal, hbuf, hband⟩ := storeSound_iff.1 hst
  have hsum : s.freeSegments + s.segmentsHeld = 192 := htotal
  cases h with
  | alike h => exact h.storeSound hd hl hst
  | off lane status sites plans on origin total =>
    refine storeSound_iff.2 ⟨total.trans hsum, fun k hk => ?_, fun l => ?_⟩
    · rcases origin k hk with ⟨j, hj, hjk⟩ | ⟨hoff, hk'⟩
      · exact hjk.bufferFits plans (hbuf j hj)
      · refine ⟨fun _ => ?_, fun ho => by rw [hoff] at ho; cases ho⟩
        rcases hk' with ⟨-, h⟩ | ⟨j, hj, hjo, -, hjb⟩
        · exact h
        · exact hjb.trans ((hbuf j hj).1 hjo)
    · refine bandsFit_of (hband l) (by rw [lane l]) (by rw [lane l]) fun k hk hkl => ?_
      cases hx : (s.lane l).state.stage with
      | none => rw [(hl.1 l).1 hx] at hkl; cases hkl
      | some st =>
        obtain ⟨j, hj, hjl, -, hjs⟩ := (hl.1 l).2.1 st hx
        have hid : k.id = j.id := Option.some.inj (hkl.symm.trans hjl)
        obtain ⟨k', hk', hjk⟩ := on j hj (hjs ▸ stage_onLane hx)
        obtain rfl := hdt.unique hk' hk (hjk.id.trans hid.symm)
        exact ⟨j, hj, hid, planOf_congr plans hjk.plan⟩
  | staged j k l h job lane shape result job' stage calPending status free bands plug =>
    have hheld := h.segmentsHeld hd
    have hseg := segments_of_shape shape result
    obtain ⟨-, hjst⟩ := lanesSound_lane hd hl h.mem job
    refine h.storeSound hd hbuf hband ?_ ⟨fun ho => ?_, fun _ => ?_⟩ fun b hb y hy hyl => ?_
    · unfold State.segmentsSound
      omega
    · rw [stage_onLane stage] at ho; cases ho
    · rw [shape, planOf_congr h.plans h.plan]
      exact (hbuf j h.mem).2 (stage_onLane hjst)
    · have hid : y.id = j.id := Option.some.inj (hyl.symm.trans job')
      have hyk : t.planOf y = s.planOf j := by
        rcases h.origin hd y hy with rfl | ⟨x, hx, hne, hxy⟩
        · exact planOf_congr h.plans h.plan
        · exact absurd (hxy.id.symm.trans hid) hne
      rw [hyk]
      rcases bands b hb with hb | hb
      · exact hb
      · exact hband l b hb j h.mem job
  | left j k l h job lane off buffer job' stage calPending acquisition calibrating pending plug total =>
    have hheld := h.segmentsHeld hd
    have htot := total hst hord
    refine h.storeSound hd hbuf hband ?_ ⟨fun _ => buffer, fun ho => ?_⟩ fun b hb => ?_
    · unfold State.segmentsSound
      omega
    · rw [off] at ho; cases ho
    · simp [Lane.bands, acquisition] at hb
  | placed j k l h queued open_ state lane shape result state' job' connected acquisition calPending status sites site ready
      free =>
    have hheld := h.segmentsHeld hd
    have hjb : j.buffer = none := (hbuf j h.mem).1 (by rw [queued]; rfl)
    have hjr := spectrumSize_of_not_done hs h.mem (by rw [queued]; nofun)
    have hjs : j.segments = 0 := by simp [Job.segments, hjr, Job.bufferSize, hjb]
    have hks : k.segments = (s.planOf j).segments := by
      have hkr : k.spectrumSize = 0 := by rw [← hjr]; simp only [Job.spectrumSize, result]
      rw [Job.segments, hkr, Job.bufferSize_shape, shape]
      simp [Plan.segments]
    refine h.storeSound hd hbuf hband ?_ ⟨fun ho => ?_, fun _ => ?_⟩ fun b hb => ?_
    · unfold State.segmentsSound
      omega
    · rw [state] at ho; cases ho
    · rw [shape, planOf_congr h.plans h.plan]
    · simp [Lane.bands, acquisition] at hb
  | calibrated l jobs lane status plans sites free job stage connects connected acquisition calibrating pending serving =>
    refine storeSound_iff.2 ⟨?_, fun k hk => ?_, fun m => ?_⟩
    · rw [State.segmentsSound, free, segmentsHeld_eq, jobs]
      exact htotal
    · exact bufferFits_of (hbuf k (jobs ▸ hk)) rfl rfl fun _ => planOf_congr plans rfl
    · have hsame : (t.lane m).bands = (s.lane m).bands ∧ (t.lane m).job = (s.lane m).job := by
        by_cases hm : m = l
        · rw [hm]; exact ⟨by simp only [Lane.bands, acquisition], job⟩
        · rw [lane m hm]; exact ⟨rfl, rfl⟩
      exact bandsFit_of (hband m) hsame.1 hsame.2 fun k hk _ => ⟨k, jobs ▸ hk, rfl, planOf_congr plans rfl⟩

theorem plansOrdered_congr (h : t.plans = s.plans) (hs : s.plansOrdered) : t.plansOrdered := by
  unfold State.plansOrdered
  rw [h]
  exact hs

theorem LaneMove.plansOrdered (h : LaneMove P s t) (hs : s.plansOrdered) : t.plansOrdered := by
  cases h with
  | alike h => exact h.ordered hs
  | off lane status sites plans on origin total => exact plansOrdered_congr plans hs
  | staged j k l h => exact plansOrdered_congr h.plans hs
  | left j k l h => exact plansOrdered_congr h.plans hs
  | placed j k l h => exact plansOrdered_congr h.plans hs
  | calibrated l jobs lane status plans => exact plansOrdered_congr plans hs

/-- The plans are ordered and the pool is sound. -/
def State.storeOrdered (s : State) : Prop := s.plansOrdered ∧ s.storeSound

theorem LaneMove.storeOrdered (h : LaneMove P s t) (hs : s.jobsSound) (hdt : t.distinct) (hl : s.lanesSound)
    (hst : s.storeOrdered) : t.storeOrdered := ⟨h.plansOrdered hst.1, h.storeSound hs hdt hl hst.1 hst.2⟩

/-- Every move keeps the pool and what is out of it sound. -/
theorem Move.storeOrdered (h : Move P req s t) (hs : s.jobsSound) (hl : s.lanesSound) (hst : s.storeOrdered) :
    t.storeOrdered := by
  have hdt := Move.distinct (jobsSound_distinct hs) h
  rcases h.laneMove hs hl with h | ⟨u, i, e, js, hu, -, -, -, -, -, rfl⟩
  · exact h.storeOrdered hs hdt hl hst
  · have hx : Alike False s (u.openConnection i) := hu.trans (openConnection_alike u i)
    have hsx : (u.openConnection i).jobsSound := Move.jobsSound (req := none) (.alike hx) hs
    exact (endJobs_keeps (I := State.storeOrdered) (fun v e n hv hlv hsv =>
        (endTerminal_laneMove (P := True) hv hlv e n).storeOrdered hv
          (Move.distinct (P := True) (req := none) (jobsSound_distinct hv) (.ended v e n)) hlv hsv) e js hsx
      (hx.lanesSound hl) ⟨hx.ordered hst.1, hx.storeSound (jobsSound_distinct hs) hl hst.2⟩).2

theorem atRest_storeSound (h : s.AtRest) : s.storeSound := by
  refine ⟨?_, by simp [h.jobs], by simp [h.jobs]⟩
  simp [State.segmentsSound, State.segmentsHeld, h.jobs, h.free]

end

theorem plansOrdered_of_sound {s : State} (h : s.planTableSound) : s.plansOrdered := by
  intro p
  cases hp : s.plans[p] with
  | none => exact le_refl (0 : BandId)
  | some x => exact (h.1 p x hp).1.1

/-- Settles O59: while no reset comes, the plans stay ordered and every move conserves the segments. -/
theorem stepKeepsSegmentTotal : Obligations.StepKeepsSegmentTotal := by
  intro s t hs hl hp hst h
  have hord := plansOrdered_of_sound hp
  exact (step_keeps (P := False) (I := fun u => u.lanesSound ∧ u.storeOrdered)
    (fun _ _ _ ht hi hm => ⟨hm.lanesSound ht.1 hi.1, hm.storeOrdered ht.1 hi.1 hi.2⟩)
    (fun u hr hpl => ⟨atRest_lanesSound hr, hpl.elim (fun h => plansOrdered_congr h hord) (fun h p => by rw [h p]; exact le_refl (0 : BandId)),
      atRest_storeSound hr⟩) ⟨hs, nofun⟩ nofun ⟨hl, hord, hst⟩ h).2.2

end Sys2Proof.Machine

/-! PROOFS. DONE records stand, and the results keep their order (R79, R148, R149, R152). -/

namespace Sys2Proof.Machine

section
variable {P : Prop} {req : Option Request} {s t : State}

/-! ### Soft reset -/

/-- A part after a soft reset has nothing left to do (R183). -/
theorem softReset_settled (s : State) : s.softReset.settled := by
  refine ⟨rfl, rfl, fun _ _ => ⟨rfl, rfl⟩⟩

theorem softReset_close (s s₀ : State) : s.softReset.close s₀ = s.softReset :=
  close_settled (softReset_settled s) (by intro n hn; cases hn)

theorem softReset_eq_afterSoftReset (s : State) (p : Port) : (s.withPort p).softReset = s.afterSoftReset p.link := rfl

/-! ### DONE records -/

/-- What the end of a job leaves of a DONE record: all, since it has left its gang (R79). -/
theorem mem_afterEnd {j k : Job} {js : List Job} {e : EndReason} {r : Result} (hj : j ∈ js) (hg : j.gang = none)
    (hid : j.id ≠ k.id) : j ∈ js.map (Job.afterEnd k.id e r) := by
  refine List.mem_map.2 ⟨j, hj, ?_⟩
  rw [Job.afterEnd_other hid]
  cases j
  simp_all

/-- The end of another job leaves a DONE record. -/
theorem endTerminal_done (hs : s.jobsSound) (e : EndReason) (n : Nat) {j : Job} (hj : j ∈ s.jobs) (hd : j.state = .done) :
    j ∈ (s.endTerminal e n).jobs := by
  have hg := ((jobsSound_fits hs hj).2.2.2.2.1 hd).1
  rcases endTerminal_cases e s n with h | ⟨k, hk, -, hks, ⟨-, h⟩ | ⟨l, -, -, h⟩⟩
  · rw [h]; exact hj
  all_goals
    have hne : j.id ≠ k.id := fun hid => hks ((jobsSound_distinct hs).unique hj (job?_mem hk) hid ▸ hd)
    rw [h]
  · rw [endRecord_jobs]; exact mem_afterEnd hj hg hne
  · rw [releaseLane_jobs, endRecord_jobs, releaseSite_jobs]; exact mem_afterEnd hj hg hne

/-- A move leaves a DONE record, or removes it at a request for that (R152). -/
theorem Move.done (h : Move P req s t) (hs : s.jobsSound) (hl : s.lanesSound) {j : Job} (hj : j ∈ s.jobs)
    (hd : j.state = .done) :
    j ∈ t.jobs ∨ (∃ v, req = some (.resultRelease v) ∧ v.toNat = j.id) ∧ ∀ k ∈ t.jobs, k.id ≠ j.id := by
  have hdist := jobsSound_distinct hs
  have hg := ((jobsSound_fits hs hj).2.2.2.2.1 hd).1
  have hoff (l : LaneId) : (s.lane l).job ≠ some j.id := lanesSound_off hdist hl hj (by rw [hd]; rfl) l
  have hne {k : Job} (hk : k ∈ s.jobs) (hks : k.state ≠ .done) : j.id ≠ k.id := fun hid =>
    hks (hdist.unique hj hk hid ▸ hd)
  have upd {k : Job} (f : Job → Job) (hk : k ∈ s.jobs) (hks : k.state ≠ .done) :
      j ∈ s.jobs.map fun x => if x.id = k.id then f x else x := List.mem_map.2 ⟨j, hj, if_neg (hne hk hks)⟩
  cases h with
  | alike h => exact .inl (h.done j hj hd hoff)
  | ended e n => exact .inl (endTerminal_done hs e n hj hd)
  | @shut u i e js hu hlanes hjobs hsite hm hr =>
    have hx : Alike False s (u.openConnection i) := hu.trans (openConnection_alike u i)
    exact .inl (endJobs_keeps (I := fun u => j ∈ u.jobs) (fun v e n hv _ hj => endTerminal_done hv e n hj hd) e js
      (Move.jobsSound (req := none) (.alike hx) hs) (hx.lanesSound hl) (hx.done j hj hd hoff)).2
  | @begun k l hk hst hlane => exact .inl (upd _ hk (by rcases hst with h | h <;> rw [h] <;> nofun))
  | @waited k l hk hst hkl => exact .inl (upd _ hk (by rw [hst]; nofun))
  | @failed k l hk hst hkl =>
    have hid := hne hk (by rw [hst]; nofun)
    rcases tuneFailed_jobs s k l with ⟨-, h, -⟩ | ⟨r, -, h, -⟩
    · exact .inl (h ▸ List.mem_map.2 ⟨j, hj, if_neg hid⟩)
    · exact .inl (h ▸ mem_afterEnd hj hg hid)
  | @acquired k l a e d hk hkl ha =>
    obtain ⟨x, hx, hid, hst⟩ := hk
    have := hne hx (by rw [hst]; nofun)
    rw [hid] at this
    refine .inl ?_
    rw [State.endAcquisition, releaseSite_jobs]
    exact List.mem_map.2 ⟨j, hj, if_neg this⟩
  | @evaluated k l a hk hst hkl ha =>
    refine .inl ?_
    rw [releaseLane_jobs, recordEnd_jobs]
    exact mem_afterEnd hj hg (hne hk (by rw [hst]; nofun))
  | @placed k l hk hst ho hn hr => exact .inl (upd _ hk (by rw [hst]; nofun))
  | added hq hsub => exact .inl (List.mem_append_left _ hj)
  | grouped g => exact .inl (List.mem_map.2 ⟨j, hj, if_neg fun h => by rw [hd] at h; cases h.1⟩)
  | @dropped k v hq hv hk hst =>
    have hjobs : (s.dropJob k).jobs = s.jobs.filter fun x => x.id != k.id := by
      rw [State.dropJob, callArbiterIf_jobs]
    rw [hjobs]
    by_cases hid : j.id = k.id
    · refine .inr ⟨⟨v, hq, hv.trans hid.symm⟩, fun x hx => ?_⟩
      rw [hid]
      simpa using (List.mem_filter.1 hx).2
    · exact .inl (List.mem_filter.2 ⟨hj, by simpa using hid⟩)
  | claimed hserv hc hp => exact .inl (by rw [(beginCalibration_calibrates _ _ _).jobs]; exact hj)
  | claimedLater hserv hp => exact .inl hj
  | cancelled h => exact .inl (by simpa [State.cancelPending] using hj)
  | calibrated h hr hp => exact .inl (by simpa [State.endCalibration] using hj)

/-- The ids of the table come from it, but for an accepted job's. -/
theorem Move.ids_subset (h : Move P req s t) (hs : s.distinct) (hq : ∀ a b c d, req ≠ some (.jobSubmit a b c d)) :
    t.jobs.map Job.id ⊆ s.jobs.map Job.id := by
  have hm := h.jobMoves hs
  clear h
  induction hm with
  | refl => exact fun _ h => h
  | tail _ h ih =>
    refine List.Subset.trans ?_ ih
    cases h with
    | staged hj hr hn => rw [staged_ids hj]; exact fun _ h => h
    | ended hm hs hj hr hn => rw [hj]; simp [Function.comp_def]
    | added hq' hsr =>
      obtain ⟨a, b, c, d, hq'⟩ := hq'
      exact absurd hq' (hq a b c d)
    | grouped g =>
      rintro n hn
      obtain ⟨k, hk, rfl⟩ := List.mem_map.1 hn
      obtain ⟨j, hj, rfl⟩ := List.mem_map.1 hk
      refine List.mem_map.2 ⟨j, hj, ?_⟩
      split <;> rfl
    | dropped hq hv hj hs =>
      rw [State.dropJob, callArbiterIf_jobs]
      exact (List.filter_sublist.map Job.id).subset

/-- A DONE record stands over a chain of moves, or is gone at a request for that. -/
theorem Moves.done (h : Moves P req s t) (hs : s.jobsSound) (hl : s.lanesSound) {j : Job} (hj : j ∈ s.jobs)
    (hd : j.state = .done) :
    j ∈ t.jobs ∨ (∃ v, req = some (.resultRelease v) ∧ v.toNat = j.id) ∧ ∀ k ∈ t.jobs, k.id ≠ j.id := by
  suffices t.jobsSound ∧ t.lanesSound ∧
      (j ∈ t.jobs ∨ (∃ v, req = some (.resultRelease v) ∧ v.toNat = j.id) ∧ ∀ k ∈ t.jobs, k.id ≠ j.id) from this.2.2
  induction h with
  | refl => exact ⟨hs, hl, .inl hj⟩
  | tail _ h ih =>
    obtain ⟨hu, hlu, hju⟩ := ih
    refine ⟨h.jobsSound hu, h.lanesSound hu hlu, ?_⟩
    rcases hju with hju | ⟨⟨v, hq, hv⟩, hgone⟩
    · exact h.done hu hlu hju hd
    · refine .inr ⟨⟨v, hq, hv⟩, fun k hk hid => ?_⟩
      have := h.ids_subset (jobsSound_distinct hu) (by rw [hq]; nofun) (List.mem_map_of_mem hk)
      obtain ⟨x, hx, hxid⟩ := List.mem_map.1 this
      exact hgone x hx (hxid.trans hid)

/-! ### The order of the results -/

/-- What of the result list an event met still stands at the head of the list; the rest of it has left the table. -/
def KeepsResults (s u : State) : Prop :=
  ∃ kept, kept.Sublist s.results ∧ kept <+: u.results ∧ ∀ id ∈ s.results, id ∉ kept → id ∉ u.jobs.map Job.id

theorem KeepsResults.of_prefix {u : State} (h : s.results <+: u.results) : KeepsResults s u :=
  ⟨s.results, List.Sublist.refl _, h, fun _ h hn => absurd h hn⟩

theorem dropJob_keepsResults (s : State) (j : Job) : KeepsResults s (s.dropJob j) := by
  refine ⟨s.results.filter fun i => i != j.id, List.filter_sublist, ?_, fun id hid hn => ?_⟩
  · simp [State.dropJob]
  · have : id = j.id := by simpa [hid] using hn
    subst this
    simp [State.dropJob]

/-- A request leaves the result list, but for the record that RESULT_RELEASE removes (R152). -/
theorem carryOut_keepsResults (s : State) (r : Request) : KeepsResults s (s.carryOut r).1 := by
  by_cases hm : ∃ m, r = .eventsMask m
  · obtain ⟨m, rfl⟩ := hm
    exact .of_prefix (List.prefix_refl _)
  by_cases hv : ∃ v, r = .resultRelease v
  · obtain ⟨v, rfl⟩ := hv
    show KeepsResults s (s.resultRelease v).1
    unfold State.resultRelease
    split
    · exact .of_prefix (List.prefix_refl _)
    · split
      · exact dropJob_keepsResults s _
      · exact .of_prefix (List.prefix_refl _)
  · exact .of_prefix (carryOut_touch s (fun m h => hm ⟨m, h⟩) fun v h => hv ⟨v, h⟩).results

theorem take_keepsResults (s : State) (f : Frame) : KeepsResults s (s.take f) := by
  show KeepsResults s (s.answer f).1
  unfold State.answer
  cases decodeFrame f with
  | unknown => exact .of_prefix (List.prefix_refl _)
  | malformed => exact .of_prefix (List.prefix_refl _)
  | request r => exact carryOut_keepsResults s r

/-- Every event but a reset leaves the result list, but for a record it removes. -/
theorem effectOf_keepsResults {c : Instr} (hc : c ≠ .powerOnReset) (s : State) :
    KeepsResults s (effectOf c s) ∨ ∃ p, effectOf c s = (s.withPort p).softReset := by
  cases hl : onLine c with
  | false => exact .inl (.of_prefix (effectOf_touch hl hc s).results)
  | true =>
    have he := effectOf_lineEffect hl s
    generalize effectOf c s = u at he
    cases he with
    | port p => exact .inl (.of_prefix (List.prefix_refl _))
    | reset p => exact .inr ⟨p, rfl⟩
    | take p f hf => exact .inl (take_keepsResults (s.withPort p) f)

theorem orderEnds_age (s : State) (before : List Nat) (j : Job) : (s.orderEnds before).age j = s.age j := by
  unfold State.age State.orderEnds
  rfl

/-- The age of an id is that of the record that holds it. -/
theorem idAge_of_mem (hd : s.distinct) {j : Job} (hj : j ∈ s.jobs) : s.idAge j.id = s.age j := by
  rw [State.idAge, hd.job? hj, Option.map_some, Option.getD_some]

/-- What the close of an event keeps of the results it met, and the order of those it appends (R149). -/
theorem KeepsResults.close {u : State} (h : KeepsResults s u) (ht : (u.close s).jobsSound) :
    ∃ kept added, (u.close s).results = kept ++ added ∧ kept.Sublist s.results ∧ (∀ id ∈ added, id ∉ s.results) ∧
      added.Pairwise fun a b => ∀ j ∈ (u.close s).jobs, ∀ k ∈ (u.close s).jobs, j.id = a → k.id = b →
        (u.close s).age k ≤ (u.close s).age j := by
  obtain ⟨base, hsub, hpre, hgone⟩ := h
  obtain ⟨rest, hrest⟩ := hpre.trans (finish_carried u).results
  have hids : (u.close s).jobs.map Job.id = u.jobs.map Job.id := (finish_carried u).jobs.ids
  obtain ⟨-, hdist, hnodup, -, -, hmem⟩ := ht
  have hperm : (u.close s).results.Perm u.finish.results := by
    refine (List.Perm.append_left _ (perm_idsOldestFirst _ _)).trans ?_
    simpa using List.filter_append_perm (fun id => s.results.contains id) u.finish.results
  have hdisj : ∀ id ∈ rest, id ∉ s.results := by
    intro id hid hs
    have hfin : id ∈ u.finish.results := hrest ▸ List.mem_append_right _ hid
    refine hgone id hs (fun hb => ?_) (hids ▸ hmem id (hperm.mem_iff.2 hfin))
    exact (List.nodup_append.1 (hrest ▸ hperm.nodup_iff.1 hnodup)).2.2 id hb id hid rfl
  refine ⟨_, _, rfl, ?_, fun id hid => ?_, ?_⟩
  · have hnil : (rest.filter fun id => s.results.contains id) = [] :=
      List.filter_eq_nil_iff.2 fun id hid => by simpa using hdisj id hid
    rw [← hrest, List.filter_append, hnil, List.append_nil]
    exact List.filter_sublist.trans hsub
  · simpa using (List.mem_filter.1 ((perm_idsOldestFirst _ _).mem_iff.1 hid)).2
  · refine (sorted_idsOldestFirst u.finish _).imp fun {a b} hab j hj k hk hja hkb => ?_
    have hage {j : Job} (hj : j ∈ (u.close s).jobs) : u.finish.idAge j.id = (u.close s).age j := by
      rw [idAge_of_mem (s := u.finish) hdist hj, State.close, orderEnds_age]
    rwa [← hja, ← hkb, hage hj, hage hk] at hab

end

/-- Settles O50: a chain of moves leaves a DONE record, and what an event appends to the result list comes in order. -/
theorem doneRecordsStand : Obligations.DoneRecordsStand := by
  intro c s t hs hl h
  rw [exec_eq_close] at h
  injection h with h
  intro resets
  have htab : s.tabled False := ⟨hs, nofun⟩
  have hreset (hr : resets) : _ := fun (j : Job) (_ : j ∈ s.jobs) (_ : j.state = .done) => (.inr (.inl hr) : j ∈ t.jobs ∨ resets ∨
      ((∃ f : Frame, (f ∈ s.port.queue ∨ frameOf c = some f) ∧
        decodeFrame f = .request (.resultRelease (BitVec.ofNat 16 j.id))) ∧ ∀ k ∈ t.jobs, k.id ≠ j.id))
  rcases effect_moves (c := c) htab nofun with ⟨req, hm, hq⟩ | hc | ⟨p, hp⟩
  · rw [h] at hm
    refine ⟨fun j hj hd => ?_, ?_⟩
    · rcases hm.done hs hl hj hd with hj | ⟨⟨v, rfl, hv⟩, hgone⟩
      · exact .inl hj
      · obtain ⟨f, hf, hdec⟩ := hq _ rfl
        refine .inr (.inr ⟨⟨f, hf, ?_⟩, hgone⟩)
        rw [hdec, ← hv, BitVec.ofNat_toNat, BitVec.setWidth_eq]
    · by_cases hc : c = .powerOnReset
      · exact .inl (.inl hc)
      rcases effectOf_keepsResults hc s with hk | ⟨p, hp⟩
      · subst h
        exact .inr (hk.close (Moves.tabled hm htab).1)
      · refine .inl (.inr ?_)
        rw [← h, hp, softReset_close, softReset_eq_afterSoftReset]
        rfl
  · exact ⟨hreset (.inl hc), .inl (.inl hc)⟩
  · have hr : resets := .inr (by rw [← h, hp, softReset_close, softReset_eq_afterSoftReset]; rfl)
    exact ⟨hreset hr, .inl hr⟩

end Sys2Proof.Machine

/-! PROOFS. Rounding to the nearest integer (R1), and the frequency error (R18). -/

namespace Sys2Proof.Machine

/-- A rounded quotient of a number that is not negative lies within half of it, a tie above it (R1). -/
theorem roundDiv_of_nonneg {n : Int} {d : Nat} (hd : 0 < d) (hn : 0 ≤ n) :
    2 * d * roundDiv n d ≤ 2 * n + d ∧ 2 * n < 2 * d * roundDiv n d + d := by
  have hd' : (0 : Int) < 2 * d := by omega
  rw [roundDiv, if_pos hn]
  have h1 := Int.mul_ediv_self_le (x := 2 * n + d) (ne_of_gt hd')
  have h2 := Int.lt_mul_ediv_self_add (x := 2 * n + d) hd'
  constructor <;> linarith

theorem roundDiv_neg {n : Int} {d : Nat} (hn : n < 0) : roundDiv n d = -roundDiv (-n) d := by
  rw [roundDiv, roundDiv, if_neg (by omega), if_pos (by omega)]

theorem roundRat_neg {q : Rat} (hq : q < 0) : roundRat q = -roundRat (-q) := by
  unfold roundRat
  rw [roundDiv_neg (Rat.num_neg.2 hq), Rat.neg_num, Rat.neg_den]

/-- Rounding of a rational that is not negative: at most half below it, and less than half above it. -/
theorem roundRat_of_nonneg {q : Rat} (hq : 0 ≤ q) :
    (roundRat q : Rat) ≤ q + 1 / 2 ∧ q < roundRat q + 1 / 2 := by
  have hd : (0 : Rat) < q.den := by exact_mod_cast q.den_pos
  obtain ⟨h1, h2⟩ := roundDiv_of_nonneg q.den_pos (Rat.num_nonneg.2 hq)
  have hval : (q.num : Rat) = q * q.den := by rw [mul_comm, Rat.den_mul_eq_num]
  have h1' : 2 * (q.den : Rat) * roundRat q ≤ 2 * q.num + q.den := by exact_mod_cast h1
  have h2' : 2 * (q.num : Rat) < 2 * q.den * roundRat q + q.den := by exact_mod_cast h2
  rw [hval] at h1' h2'
  constructor <;> nlinarith

/-- Rounding to the nearest integer, ties away from zero (R1). -/
theorem roundRat_nearest (q : Rat) :
    |(roundRat q : Rat) - q| ≤ 1 / 2 ∧ (|(roundRat q : Rat) - q| = 1 / 2 → |q| < |(roundRat q : Rat)|) := by
  have nonneg {q : Rat} (hq : 0 ≤ q) :
      |(roundRat q : Rat) - q| ≤ 1 / 2 ∧ (|(roundRat q : Rat) - q| = 1 / 2 → |q| < |(roundRat q : Rat)|) := by
    obtain ⟨h1, h2⟩ := roundRat_of_nonneg hq
    refine ⟨abs_le.2 ⟨by linarith, by linarith⟩, fun h => ?_⟩
    rcases (abs_eq (by norm_num)).1 h with h | h
    · rw [abs_of_nonneg hq, abs_of_nonneg (by linarith)]
      linarith
    · linarith
  rcases le_or_gt 0 q with hq | hq
  · exact nonneg hq
  · have h := nonneg (q := -q) (by linarith)
    have hval : (roundRat q : Rat) = -(roundRat (-q) : Rat) := by rw [roundRat_neg hq]; push_cast; ring
    have hdiff : |(roundRat q : Rat) - q| = |(roundRat (-q) : Rat) - -q| := by
      rw [hval, ← abs_neg]
      congr 1
      ring
    rw [hdiff, hval, abs_neg, ← abs_neg q]
    exact h

/-- A rounded value stays within integer bounds of the value. -/
theorem roundRat_bounds {q : Rat} {n : Int} (h : |q| ≤ n) : |roundRat q| ≤ n := by
  have hn := abs_le.1 h
  have hr := abs_le.1 (roundRat_nearest q).1
  have h1 : (roundRat q : Rat) < n + 1 := by linarith
  have h2 : (-(n + 1) : Rat) < roundRat q := by linarith
  have h1' : roundRat q < n + 1 := by exact_mod_cast h1
  have h2' : -(n + 1) < roundRat q := by exact_mod_cast h2
  exact abs_le.2 ⟨by omega, by omega⟩

/-- The error of a count in ppb, before rounding (R18). -/
def errorPpb (nominal : Nat) (f : Rat) : Rat := (f / (nominal : Rat) - 1) * 1000000000

theorem frequencyError_beyond {nominal : Nat} {f : Rat} (h : 500000 < |errorPpb nominal f|) :
    frequencyError nominal (some f) = none := by
  have : -500000 ≤ errorPpb nominal f → 500000 < errorPpb nominal f := by
    rcases lt_abs.1 h with h | h
    · exact fun _ => h
    · exact fun _ => by linarith
  unfold frequencyError
  simpa [Config.errorSpanPpb, errorPpb] using this

theorem frequencyError_within {nominal : Nat} {f : Rat} (h : |errorPpb nominal f| ≤ 500000) :
    frequencyError nominal (some f) = some (10 * roundRat (errorPpb nominal f / 10)) := by
  have h' := abs_le.1 h
  have : ¬(errorPpb nominal f < -500000 ∨ 500000 < errorPpb nominal f) := by
    rintro (h | h) <;> linarith
  unfold frequencyError
  simpa [Config.errorSpanPpb, errorPpb] using this

/-- Settles O22: ten times the error in units of 10 ppb, rounded. -/
theorem frequencyErrorRounds : Obligations.FrequencyErrorRounds := by
  intro nominal f _ e
  refine ⟨rfl, frequencyError_beyond, fun h => ⟨_, frequencyError_within h, ?_⟩⟩
  obtain ⟨hnear, htie⟩ := roundRat_nearest (e / 10)
  have hscale : |10 * (roundRat (e / 10) : Rat) - e| = 10 * |(roundRat (e / 10) : Rat) - e / 10| := by
    rw [← abs_of_pos (show (0 : Rat) < 10 by norm_num), ← abs_mul, abs_of_pos (show (0 : Rat) < 10 by norm_num)]
    congr 1
    ring
  have habs : |e| = 10 * |e / 10| := by rw [abs_div, abs_of_pos (show (0 : Rat) < 10 by norm_num)]; ring
  refine ⟨by rw [show roundRat (errorPpb nominal f / 10) = roundRat (e / 10) from rfl, hscale]; linarith, fun h5 => ?_⟩
  rw [show roundRat (errorPpb nominal f / 10) = roundRat (e / 10) from rfl] at h5 ⊢
  rw [hscale] at h5
  rw [habs, abs_mul, abs_of_pos (show (0 : Rat) < 10 by norm_num)]
  linarith [htie (by linarith)]

end Sys2Proof.Machine

/-! PROOFS. The operations of the site controller on one site record keep it sound (section 1.2, R7, R11 to R23). -/

namespace Sys2Proof.Machine

section
variable {x y : Site} {now : Word}

/-! ### What a sound record tells of its state -/

/-- The state of a site whose timer runs (section 1.2). -/
theorem state_of_timer {st : SiteState} {t : SiteTimer} (h : timerFits st t = true) :
    (t = .blanking → st = .ramp) ∧ (∀ n, t = .warmUp n → st = .warming) ∧ (t = .checkGate → st = .checking) ∧
    (t = .retry → st = .retryWait) ∧ (t = .recheckWait → st = .noCarrier) ∧ (t = .recheckGate → st = .noCarrier) := by
  cases st <;> cases t <;> simp_all [timerFits]

theorem Site.sound.configured_of_state (h : x.sound) (hs : x.state ≠ .off) : x.configured = true := by
  obtain ⟨-, -, -, -, -, hc, -⟩ := h
  by_contra hn
  exact hs (hc (by simpa using hn))

theorem Site.sound.not_pending (h : x.sound) (hs : x.state ≠ .off) : x.powerPending = false := by
  obtain ⟨-, -, -, -, hp, -⟩ := h
  by_contra hn
  exact hs (hp (by simpa using hn)).1

/-- The fault count before an overcurrent event (R13). -/
theorem Site.sound.faults_le (h : x.sound) (hs : x.state ≠ .faultLatched) : x.faultCount ≤ 7 := by
  obtain ⟨-, h2, -, -, -, -, h7, -⟩ := h
  revert hs h2
  cases hst : x.state <;> simp [Site.faultsFit, hst] <;> omega

/-- A site has a settled class and a level flag in READY and MEASURING alone (R7, R17, R20). -/
theorem Site.sound.no_class (h : x.sound) (hs : x.state.selectable = false) : (x.settled.isNone && x.levelFlag.isNone) = true := by
  obtain ⟨-, -, h3, -⟩ := h
  revert hs h3
  cases hst : x.state <;> simp +contextual [Site.levelFits, hst, SiteState.selectable]

/-- The monitor of a site in which an overcurrent event is taken fits every such state (R12). -/
theorem Site.sound.armed (h : x.sound) (hs : x.state.monitored = true) :
    (x.monitor.armed == true && (!x.monitor.deglitching || (x.monitor.armed && x.monitor.above)) &&
        (true || !x.monitor.above)) = true := by
  obtain ⟨-, -, -, h4, -⟩ := h
  have hsup : x.state.supplied = true := by revert hs; cases x.state <;> simp [SiteState.monitored, SiteState.supplied]
  simpa [Site.monitorFits, hs, hsup] using h4

/-! ### Operations -/

/-- The connection or the release of a site (R23). -/
theorem Site.Kept.sound (h : Site.Kept now x y) (hx : x.sound) : y.sound := by
  by_cases hsel : x.state.selectable = true
  · have hy := h.selectable hsel
    obtain ⟨st, e, tm, fc, rfl, -, ht, hf⟩ := h.same
    have hm := hx.armed (by revert hsel; cases x.state <;> simp [SiteState.selectable, SiteState.monitored])
    obtain ⟨h1, h2, h3, -, h5, h6, h7⟩ := hx
    have hoff : x.state ≠ .off := by rintro ho; simp [ho, SiteState.selectable] at hsel
    have hready : x.state = .ready ∨ x.state = .measuring := by
      revert hsel; cases x.state <;> simp [SiteState.selectable]
    have hready' : st = .ready ∨ st = .measuring := by
      revert hy; dsimp only; cases st <;> simp [SiteState.selectable]
    have htm : tm = .stopped := by
      rcases ht with ht | ht
      · rw [ht]
        revert h1
        rcases hready with h | h <;> rw [h] <;> cases x.timer <;> simp [timerFits]
      · exact ht
    have hfc : fc = 0 := by
      rcases hf with hf | hf
      · rw [hf]
        rcases hready with h | h <;> simpa [Site.faultsFit, h] using h2
      · exact hf
    have hl : x.settled.any (fun c => c != .absent && x.levelFlag == c.flag) = true := by
      rcases hready with h | h <;> simpa [Site.levelFits, h] using h3
    subst htm hfc
    rcases hready' with rfl | rfl
    · exact ⟨rfl, rfl, hl, hm, fun hp => absurd (h5 hp).1 hoff, fun hc => absurd (h6 hc) hoff, h7⟩
    · exact ⟨rfl, rfl, hl, hm, fun hp => absurd (h5 hp).1 hoff, fun hc => absurd (h6 hc) hoff, h7⟩
  · have := h.other (by simpa using hsel)
    subst this
    exact hx

/-- Entry to RAMP (R11). -/
theorem Site.sound.enterRamp (h : x.sound) (hs : x.state = .off ∨ x.state = .retryWait) (hc : x.configured = true)
    (hp : x.powerPending = false) : (x.enterRamp now).sound := by
  have hcount := h.faults_le (by rcases hs with hs | hs <;> rw [hs] <;> nofun)
  have hlevel := h.no_class (by rcases hs with hs | hs <;> rw [hs] <;> rfl)
  obtain ⟨-, -, -, -, -, -, h7, h8, h9⟩ := h
  have hretry : (x.staged.getD x.applied.supply).retryLimit ≤ 7 := by
    cases hst : x.staged with
    | none => exact h7
    | some c => simpa [hst] using h8
  exact ⟨rfl, decide_eq_true hcount, hlevel, rfl, fun h => by simp [Site.enterRamp, hp] at h,
    fun hn => by simp [Site.enterRamp, hc] at hn, hretry, rfl, h9⟩

/-- A site whose power is no longer pending (R8, R10). -/
theorem Site.sound.unpend (h : x.sound) : Site.sound { x with powerPending := false } := by
  obtain ⟨h1, h2, h3, h4, -, h6⟩ := h
  exact ⟨h1, h2, h3, h4, nofun, h6⟩

/-- A configured site in OFF whose power becomes pending (R9). -/
theorem Site.sound.pend (h : x.sound) (hs : x.state = .off) (hc : x.configured = true) : Site.sound { x with powerPending := true } := by
  obtain ⟨h1, h2, h3, h4, -, h6⟩ := h
  exact ⟨h1, h2, h3, h4, fun _ => ⟨hs, hc⟩, h6⟩

/-- Entry to CHECKING (R16). -/
theorem Site.sound.enterChecking (h : x.sound) (hs : x.state = .warming) : (x.enterChecking now).sound := by
  have hp := h.not_pending (by rw [hs]; nofun)
  have hc := h.configured_of_state (by rw [hs]; nofun)
  have hcount := h.faults_le (by rw [hs]; nofun)
  have hlevel := h.no_class (by rw [hs]; rfl)
  have hm := h.armed (by rw [hs]; rfl)
  obtain ⟨-, -, -, -, -, -, h7⟩ := h
  exact ⟨rfl, decide_eq_true hcount, hlevel, hm, fun h => by simp [Site.enterChecking, hp] at h,
    fun h => by simp [Site.enterChecking, hc] at h, h7⟩

/-- Entry to WARMING, and to CHECKING with a warm-up of 0 (R11, R16). -/
theorem Site.sound.enterWarming (h : x.sound) (hs : x.state = .ramp) : (x.enterWarming now).sound := by
  have hp := h.not_pending (by rw [hs]; nofun)
  have hc := h.configured_of_state (by rw [hs]; nofun)
  have hcount := h.faults_le (by rw [hs]; nofun)
  have hlevel := h.no_class (by rw [hs]; rfl)
  obtain ⟨-, -, -, -, -, -, h7⟩ := h
  have hw : Site.sound { x with
      state := .warming
      entered := now
      timer := .warmUp 0
      monitor := ⟨true, x.monitor.above, x.monitor.above⟩ } :=
    ⟨rfl, decide_eq_true hcount, hlevel, by simp [Site.monitorFits, SiteState.monitored, SiteState.supplied],
      fun h => by simp [hp] at h, fun h => by simp [hc] at h, h7⟩
  unfold Site.enterWarming
  split
  · exact hw.enterChecking rfl
  · exact hw

/-- Entry to READY at the end of a gate that found the carrier (R17, R22). -/
theorem Site.sound.enterReady (h : x.sound) (hs : x.state = .checking ∨ x.state = .noCarrier) {c : LevelClass}
    (hl : c ≠ .absent) : (x.enterReady now c).sound := by
  have hoff : x.state ≠ .off := by rcases hs with hs | hs <;> rw [hs] <;> nofun
  have hp := h.not_pending hoff
  have hc := h.configured_of_state hoff
  have hm := h.armed (by rcases hs with hs | hs <;> rw [hs] <;> rfl)
  obtain ⟨-, -, -, -, -, -, h7⟩ := h
  exact ⟨rfl, rfl, by simpa [Site.levelFits, Site.enterReady] using hl, hm, fun h => by simp [Site.enterReady, hp] at h,
    fun h => by simp [Site.enterReady, hc] at h, h7⟩

/-- Entry to NO_CARRIER (R17, R20 to R22). -/
theorem Site.sound.enterNoCarrier (h : x.sound) (hs : x.state = .checking ∨ x.state.selectable = true) :
    (x.enterNoCarrier now).sound := by
  have hmon : x.state.monitored = true := by
    revert hs; cases x.state <;> simp [SiteState.selectable, SiteState.monitored]
  have hoff : x.state ≠ .off := by rintro ho; simp [ho, SiteState.monitored] at hmon
  have hp := h.not_pending hoff
  have hc := h.configured_of_state hoff
  have hcount := h.faults_le (by rintro ho; simp [ho, SiteState.monitored] at hmon)
  have hm := h.armed hmon
  obtain ⟨-, -, -, -, -, -, h7⟩ := h
  exact ⟨rfl, decide_eq_true hcount, rfl, hm, fun h => by simp [Site.enterNoCarrier, hp] at h,
    fun h => by simp [Site.enterNoCarrier, hc] at h, h7⟩

/-- SITE_POWER off (R10). -/
theorem Site.sound.powerOff (h : x.sound) (hs : x.state ≠ .off) : Site.sound { x.switchOff .off now with faultCount := 0 } := by
  have hp := h.not_pending hs
  obtain ⟨h1, h2, h3, h4, h5, h6, h7, h8, h9, h10, h11, h12⟩ := h
  exact ⟨rfl, rfl, rfl, rfl, fun h => by simp [Site.switchOff, hp] at h, fun _ => rfl, h7, h8, h9, h10, rfl, h12⟩

/-- An overcurrent event (R13). -/
theorem Site.sound.overcurrent (h : x.sound) (hs : x.state.monitored = true) : (x.overcurrent now).sound := by
  have hoff : x.state ≠ .off := by rintro ho; simp [ho, SiteState.monitored] at hs
  have hp := h.not_pending hoff
  have hc := h.configured_of_state hoff
  have hcount := h.faults_le (by rintro ho; simp [ho, SiteState.monitored] at hs)
  obtain ⟨h1, h2, h3, h4, h5, h6, h7, h8, h9, h10, h11, h12⟩ := h
  unfold Site.overcurrent
  dsimp only
  split
  · refine ⟨rfl, ?_, rfl, rfl, fun h => ?_, fun h => ?_, h7, h8, h9, h10, rfl, h12⟩
    · simpa [Site.faultsFit, Site.switchOff]
    · simp [Site.switchOff, hp] at h
    · simp [Site.switchOff, hc] at h
  · refine ⟨rfl, ?_, rfl, rfl, fun h => ?_, fun h => ?_, h7, h8, h9, h10, rfl, h12⟩
    · exact decide_eq_true (Nat.succ_le_succ hcount)
    · simp [Site.switchOff, hp] at h
    · simp [Site.switchOff, hc] at h

/-- SITE_CLEAR (R15). -/
theorem Site.sound.clear (h : x.sound) (hs : x.state = .faultLatched) :
    Site.sound { x with state := .off, entered := now, faultCount := 0 } := by
  have hp := h.not_pending (by rw [hs]; nofun)
  obtain ⟨h1, h2, h3, h4, h5, h6, h7⟩ := h
  refine ⟨?_, rfl, ?_, ?_, fun h => by simp [hp] at h, fun _ => rfl, h7⟩
  · revert h1; rw [hs]; cases x.timer <;> simp [timerFits]
  · simpa [Site.levelFits, hs] using h3
  · simpa [Site.monitorFits, hs, SiteState.monitored, SiteState.supplied] using h4

/-- A frequency error is a multiple of 10 ppb within the span (R18). -/
theorem frequencyError_sound (nominal : Nat) (f : Option Rat) (now : Word) (tag : CountTag) :
    (CountRecord.mk now tag (frequencyError nominal f)).sound = true := by
  cases f with
  | none => rfl
  | some f =>
    by_cases h : |errorPpb nominal f| ≤ 500000
    · have h10 : |errorPpb nominal f / 10| ≤ (50000 : Int) := by
        rw [abs_div, abs_of_pos (show (0 : Rat) < 10 by norm_num)]
        push_cast
        linarith
      have hr := abs_le.1 (roundRat_bounds h10)
      simp only [CountRecord.sound, frequencyError_within h, Option.all_some, Bool.and_eq_true, decide_eq_true_eq]
      omega
    · rw [frequencyError_beyond (lt_of_not_ge h)]
      rfl

theorem countAt_sound (s : State) (i : SiteId) (f : Option Rat) : (s.countAt i f).sound = true := frequencyError_sound _ _ _ _

/-- A new last count (R17, R22, R70). -/
theorem Site.sound.withCount (h : x.sound) {c : CountRecord} (hc : c.sound = true) : Site.sound { x with lastCount := some c } := by
  obtain ⟨h1, h2, h3, h4, h5, h6, h7, h8, h9, h10, h11, -⟩ := h
  exact ⟨h1, h2, h3, h4, h5, h6, h7, h8, h9, h10, h11, hc⟩

/-- The level of a gate that found the carrier is in a class other than ABSENT (R17, R19). -/
theorem classify_of_present {c : CountRecord} {v : Rat} (h : carrierPresent x c v = true) :
    classify x.applied.levelRange (10 * v) ≠ .absent := by
  have hle : (presenceThreshold x.applied.levelRange : Rat) ≤ 10 * v := by
    have := (Bool.and_eq_true_iff.1 h).1
    simpa using this
  unfold classify
  rw [if_neg (not_lt.2 hle)]
  split
  · nofun
  · split <;> nofun

/-- A crossing of the current limit at a supplied site (R12). -/
theorem Site.sound.crossing (h : x.sound) (hs : x.state.supplied = true) (above : Bool) :
    Site.sound { x with monitor := ⟨x.monitor.armed, above, x.monitor.armed && above⟩ } := by
  obtain ⟨h1, h2, h3, h4, h5, h6, h7⟩ := h
  refine ⟨h1, h2, h3, ?_, h5, h6, h7⟩
  simp only [Site.monitorFits, hs, Bool.and_eq_true, Bool.true_or, and_true, beq_iff_eq] at h4 ⊢
  refine ⟨h4.1, ?_⟩
  cases x.monitor.armed <;> cases above <;> rfl

/-- A recheck timer and its gate (R22). -/
theorem Site.sound.recheck (h : x.sound) (hs : x.state = .noCarrier) {t : SiteTimer} (ht : t = .recheckWait ∨ t = .recheckGate) :
    Site.sound { x with timer := t } := by
  obtain ⟨h1, h⟩ := h
  refine ⟨?_, h⟩
  rcases ht with rfl | rfl <;> simp [hs, timerFits]

/-- One millisecond in WARMING (R16). -/
theorem Site.sound.tick (h : x.sound) : x.tick.sound := by
  unfold Site.tick
  split
  · next n hn =>
    obtain ⟨h1, h⟩ := h
    rw [hn] at h1
    have := (state_of_timer h1).2.1 n rfl
    exact ⟨by simp [this, timerFits], h⟩
  · exact h

/-- A warm-up time that a SITE_SET changes to one already spent (R16). -/
theorem Site.sound.warmUpChanged (h : x.sound) (old : Nat) : (x.warmUpChanged old now).sound := by
  unfold Site.warmUpChanged
  split
  · next n hn =>
    split
    · exact h.enterChecking ((state_of_timer h.1).2.1 n hn)
    · exact h
  · exact h

/-- SITE_SET (R3, R4, R16). -/
theorem Site.sound.configure (h : x.sound) {f : SiteSetFields} {c : SiteConfig} (hc : siteConfigOf f = some c) :
    (x.configure c now).sound := by
  have hretry : c.supply.retryLimit ≤ 7 := by
    unfold siteConfigOf at hc
    simp only [Option.bind_eq_bind, Option.bind_eq_some_iff, Option.ite_none_right_eq_some, Option.some.injEq] at hc
    obtain ⟨-, -, -, -, -, -, -, -, -, -, -, rfl⟩ := hc
    exact Nat.min_le_right _ _
  have hwarm : c.warmUp ≤ 600000 ∧ c.warmUp % 100 = 0 := by
    unfold siteConfigOf at hc
    simp only [Option.bind_eq_bind, Option.bind_eq_some_iff, Option.ite_none_right_eq_some, Option.some.injEq] at hc
    obtain ⟨-, -, -, -, -, -, -, -, -, -, -, rfl⟩ := hc
    simp only [clampWarmUp]
    omega
  obtain ⟨h1, h2, h3, h4, h5, h6, h7, h8, h9, h10, h11, h12⟩ := h
  unfold Site.configure
  split
  · next ha =>
    refine ⟨h1, ?_, h3, h4, fun hp => ⟨(h5 hp).1, rfl⟩, nofun, hretry, rfl, hwarm.1, hwarm.2, h11, h12⟩
    revert ha h2
    cases hst : x.state <;> simp [SiteState.appliesAtOnce, Site.faultsFit, hst]
  · next ha =>
    have hy : Site.sound { x with
        applied := { x.applied with warmUp := c.warmUp, levelRange := c.levelRange }
        staged := some c.supply
        qualifying := if c.levelRange = x.applied.levelRange then x.qualifying else none } := by
      refine ⟨h1, h2, ?_, h4, h5, h6, h7, by simpa using hretry, hwarm.1, hwarm.2, h11, h12⟩
      revert ha h3
      cases hst : x.state <;> simp +contextual [SiteState.appliesAtOnce, Site.levelFits, hst]
    exact hy.warmUpChanged _

/-- A reading at a supplied site (R19). -/
theorem Site.sound.withReading (h : x.sound) (hs : x.state.supplied = true) {r : Int} (hr : -600 ≤ r ∧ r ≤ 250)
    (q : Option LevelClass) : Site.sound { x with levelReading := some r, qualifying := q } := by
  obtain ⟨h1, h2, h3, h4, h5, h6, h7, h8, h9, h10, -, h12⟩ := h
  refine ⟨h1, h2, ?_, h4, h5, h6, h7, h8, h9, h10, by simp [hr], h12⟩
  revert hs h3
  cases hst : x.state <;> simp +contextual [SiteState.supplied, Site.levelFits, hst]

/-- A change of class to one other than ABSENT in READY and MEASURING (R20, R21). -/
theorem Site.sound.withClass (h : x.sound) (hs : x.state.selectable = true) {c : LevelClass} (hc : c ≠ .absent) :
    Site.sound { x with qualifying := none, settled := some c, levelFlag := c.flag } := by
  obtain ⟨h1, h2, -, h⟩ := h
  refine ⟨h1, h2, ?_, h⟩
  revert hs
  cases x.state <;> simp [SiteState.selectable, Site.levelFits, hc]

end

end Sys2Proof.Machine

/-! PROOFS. The timebase record, the stored plans and masks, and the coefficients stay sound (R25 to R31, R38 to R49, R155). -/

namespace Sys2Proof.Machine

/-! ### Timebase (R25 to R31) -/

section
variable {t : Timebase}

theorem clampInt_bounds {lo hi : Int} (h : lo ≤ hi) (x : Int) : lo ≤ clampInt lo hi x ∧ clampInt lo hi x ≤ hi := by
  unfold clampInt
  omega

theorem Timebase.sound.enterFree (h : t.sound) (hp : t.mode = .external → t.present = false) : t.enterFree.sound := by
  refine ⟨?_, h.2⟩
  cases hm : t.mode <;> simp_all [Timebase.fits, Timebase.enterFree]

theorem Timebase.sound.enterAcquiring (ho : t.lastOffset.all (fun o => decide (-100000 ≤ o) && decide (o ≤ 100000)) = true)
    (hm : t.mode = .external) (hp : t.present = true) : t.enterAcquiring.sound :=
  ⟨by simp [Timebase.fits, Timebase.enterAcquiring, hm, hp], ho⟩

theorem Timebase.sound.enterLocked (h : t.sound) (hm : t.mode = .external) (hp : t.present = true) : t.enterLocked.sound :=
  ⟨by simp [Timebase.fits, Timebase.enterLocked, hm, hp], h.2⟩

theorem Timebase.sound.enterHoldover (h : t.sound) (hm : t.mode = .external) (hp : t.present = false) : t.enterHoldover.sound :=
  ⟨by simp [Timebase.fits, Timebase.enterHoldover, hm, hp, Config.holdoverMs], h.2⟩

/-- A reference change (R27). -/
theorem Timebase.sound_change (t : Timebase) (m : RefMode) (f : RefFreq) (w : RefWindow) : (t.change m f w).sound := by
  unfold Timebase.change
  dsimp only
  split
  · next h => exact .enterAcquiring rfl h.1 h.2
  · next h =>
    refine ⟨?_, rfl⟩
    cases m with
    | internal => rfl
    | external => cases hp : t.present <;> simp_all [Timebase.fits, Timebase.enterFree]

/-- A window-only REF_SET (R26). -/
theorem Timebase.sound.changeWindow (h : t.sound) (w : RefWindow) : (t.changeWindow w).sound := by
  obtain ⟨hf, ho⟩ := h
  unfold Timebase.changeWindow
  split
  case h_1 hd => exact ⟨by simpa [Timebase.fits, hd] using hf, ho⟩
  case h_2 hd => exact ⟨by simpa [Timebase.fits, hd] using hf, ho⟩
  case h_3 hd => exact ⟨by simp [Timebase.fits, hd] at hf ⊢; tauto, ho⟩
  case h_4 hd => exact ⟨by simp [Timebase.fits, hd] at hf ⊢; tauto, ho⟩

/-- The window's end before its decision (R29, R30). -/
theorem Timebase.sound.endWindow (h : t.sound) (hw : t.windowStart ≠ none) (x : Rat) : (t.endWindow (windowOffset x)).sound := by
  have hb := clampInt_bounds (show (-100000 : Int) ≤ 100000 by decide) (roundRat x)
  obtain ⟨hf, -⟩ := h
  refine ⟨?_, by simpa [Timebase.endWindow, windowOffset] using hb⟩
  revert hf
  cases hd : t.discipline <;> simp +contextual [Timebase.fits, Timebase.endWindow, hd, hw]

/-- What a window that runs tells of a sound record (R25). -/
theorem Timebase.sound.windowed (h : t.sound) (hw : t.windowStart ≠ none) : t.mode = .external ∧ t.present = true := by
  obtain ⟨hf, -⟩ := h
  revert hf
  cases hd : t.discipline <;> simp +contextual [Timebase.fits, hd, hw]

theorem Timebase.sound.tick (h : t.sound) : t.tick.sound := by
  obtain ⟨hf, ho⟩ := h
  refine ⟨?_, ho⟩
  revert hf
  cases hd : t.discipline <;> cases hh : t.holdover <;> simp +contextual [Timebase.fits, Timebase.tick, hd, hh]
  intros; omega

theorem Timebase.sound.softReset (h : t.sound) : t.softReset.sound := h

end

/-! ### Plans and masks (R38 to R49) -/

theorem planShapeOf_bands {f : PlanFields} {x : PlanShape} (h : planShapeOf f = some x) : x.startBand ≤ x.stopBand := by
  unfold planShapeOf at h
  simp only [Option.bind_eq_bind, Option.bind_eq_some_iff, Option.ite_none_right_eq_some, Option.some.injEq] at h
  obtain ⟨_, _, _, _, _, _, _, _, _, _, _, _, ⟨hle, _⟩, rfl⟩ := h
  exact hle

theorem planShapeOf_jitterCount {f : PlanFields} {x : PlanShape} (h : planShapeOf f = some x) : x.jitterCount ≤ 4 := by
  unfold planShapeOf at h
  simp only [Option.bind_eq_bind, Option.bind_eq_some_iff, Option.ite_none_right_eq_some, Option.some.injEq] at h
  obtain ⟨_, _, _, _, _, _, _, _, _, _, _, _, ⟨_, hle⟩, rfl⟩ := h
  exact hle

theorem clampNat_bounds {lo hi : Nat} (h : lo ≤ hi) (x : Nat) : lo ≤ clampNat lo hi x ∧ clampNat lo hi x ≤ hi := by
  unfold clampNat
  omega

/-- A stored band entry is legal (R38, R42). -/
theorem storedPlan_bandSound (f : PlanFields) (x : PlanShape) (b : BandId) : (storedPlan f x).bandSound b = true := by
  have hb : (storedPlan f x).bands[b] = if x.startBand ≤ b ∧ b ≤ x.stopBand then clampTarget f.bands[b] else ⟨0, 0⟩ := by
    simp [storedPlan]
  have hs : (storedPlan f x).selects b = decide (x.startBand ≤ b ∧ b ≤ x.stopBand) := by simp [Plan.selects, storedPlan]
  unfold Plan.bandSound
  rw [hb, hs]
  by_cases h : x.startBand ≤ b ∧ b ≤ x.stopBand
  · obtain ⟨h1, h2⟩ := clampNat_bounds (show 1 ≤ 4096 by decide) f.bands[b].target.toNat
    obtain ⟨h3, h4⟩ := clampNat_bounds h1 f.bands[b].minimum.toNat
    rw [if_pos h, if_pos (decide_eq_true h)]
    exact Bool.and_eq_true_iff.2 ⟨Bool.and_eq_true_iff.2 ⟨decide_eq_true h3, decide_eq_true h4⟩, decide_eq_true h2⟩
  · simp [h]

/-- A plan that passes the checks of R39 is stored as a legal plan (R38, R42, R43). -/
theorem storedPlan_sound {f : PlanFields} {x : PlanShape} (h : planShapeOf f = some x)
    (hj : (jitterBandsOf f x.jitterCount).all (jitterBandLegal x) = true) (hd : durationSuffices (storedPlan f x) = true) :
    (storedPlan f x).sound := by
  obtain ⟨d1, d2⟩ := clampNat_bounds (show 100 ≤ 600000 by decide) f.maxDuration.toNat
  obtain ⟨m1, m2⟩ := clampInt_bounds (show (0 : Int) ≤ 2000 by decide) f.margin.toInt
  refine ⟨planShapeOf_bands h, List.all_eq_true.2 fun b _ => storedPlan_bandSound f x b, d1, d2, hd, ?_, ?_, ?_, ?_, ?_, ?_, ?_,
    ?_⟩
  · show clampSnapshot f.snapshot.toNat = 0 ∨ _
    unfold clampSnapshot
    split
    · exact .inl rfl
    · next hs => exact .inr (by simpa [storedPlan, clampSnapshot, hs] using clampNat_bounds (by decide) _)
  · show 0 ≤ clampMargin _
    unfold clampMargin
    omega
  · show clampMargin _ ≤ 2000
    unfold clampMargin
    omega
  · show clampMargin _ % 50 = 0
    unfold clampMargin
    omega
  · have := planShapeOf_jitterCount h
    simp only [storedPlan, jitterBandsOf, List.length_map, List.length_take]
    omega
  · refine List.all_eq_true.2 fun b hb => ?_
    have := List.all_eq_true.1 hj b hb
    simp only [jitterBandLegal, Bool.and_eq_true] at this ⊢
    tauto
  · show (if x.spur then some (clampSpur f) else none).all SpurRule.sound = true
    cases x.spur with
    | false => rfl
    | true =>
      have ht := clampNat_bounds (show 600 ≤ 4000 by decide) f.spurThreshold.toNat
      have hl := clampInt_bounds (show (-14000 : Int) ≤ -2000 by decide) f.spurLimit.toInt
      simp [SpurRule.sound, clampSpur, ht, hl]
  · show (if x.tolerance then some (min f.tolerance.toNat 1000000) else none).all _ = true
    cases x.tolerance <;> simp

/-- Vertices that pass the checks of R48. -/
theorem verticesOf_sound {f : MaskFields} (h : maskLegal f = true) : maskSound (verticesOf f) := by
  simp only [maskLegal, Bool.and_eq_true, decide_eq_true_eq] at h
  obtain ⟨⟨⟨⟨h2, h16⟩, ho⟩, hr⟩, hl⟩ := h
  have hlen : (verticesOf f).length = f.count.toNat := by
    simp only [verticesOf, List.length_map, List.length_take, Vector.length_toList]
    omega
  refine ⟨by omega, by omega, hr, List.all_eq_true.2 fun v hv => ?_⟩
  have h1 := List.all_eq_true.1 ho v hv
  have h2 := List.all_eq_true.1 hl v hv
  simp only [Bool.and_eq_true] at h1 h2 ⊢
  exact ⟨⟨⟨h1.1, h1.2⟩, h2.1⟩, h2.2⟩

/-! ### Coefficients (R155) -/

theorem CoefSet.sound_iff {v : CoefSet} : v.sound = true ↔ ∀ (l : LaneId) (i : Fin 8), v[l][i].sound = true := by
  simp only [CoefSet.sound, Vector.all_eq_true]
  constructor
  · exact fun h l i => h l l.isLt i i.isLt
  · exact fun h l hl i hi => h ⟨l, hl⟩ ⟨i, hi⟩

theorem CoefSet.default_sound : CoefSet.sound CoefSet.default = true := by
  rw [CoefSet.sound_iff]
  simp [CoefSet.default, Coef.sound, Coef.default]

theorem CoefSet.write_sound {v : CoefSet} (h : v.sound = true) (l : LaneId) (i : Fin 8) {c : Coef} (hc : c.sound = true) :
    (v.write l i c).sound = true := by
  rw [CoefSet.sound_iff] at h ⊢
  intro m k
  by_cases hm : l.val = m.val
  · obtain rfl := Fin.val_injective hm
    by_cases hk : i.val = k.val
    · obtain rfl := Fin.val_injective hk
      simpa [CoefSet.write] using hc
    · simpa [CoefSet.write, Vector.getElem_set, hk] using h l k
  · simpa [CoefSet.write, Vector.getElem_set, hm] using h m k

theorem CoefSet.revert_sound {v : CoefSet} (h : v.sound = true) (l : LaneId) : (v.revert l).sound = true := by
  rw [CoefSet.sound_iff] at h ⊢
  intro m k
  by_cases hm : l.val = m.val
  · simp [CoefSet.revert, hm, Coef.sound, Coef.default]
  · simpa [CoefSet.revert, Vector.getElem_set, hm] using h m k

/-- A value within 600 cdB is written as a legal entry (R160). -/
theorem CoefSet.writeGood_sound {v : CoefSet} (h : v.sound = true) (l : LaneId) (ch : ChanId) (r : RangeId) (k : CalKind) {c : Int}
    (hc : c.natAbs ≤ 600) : (v.writeGood l ch r k c).sound = true := by
  have hfull : Coef.sound ⟨c, .full⟩ = true := by simp [Coef.sound, hc]
  have hquick : Coef.sound ⟨c, .quick⟩ = true := by simp [Coef.sound, hc]
  cases k with
  | full => exact CoefSet.write_sound h l _ hfull
  | quick =>
    refine List.foldlRecOn (List.finRange 4) _ (motive := fun v => CoefSet.sound v = true) h fun v hv q _ => ?_
    exact CoefSet.write_sound hv l _ hquick

/-- The calibration unit at either reset (R157). -/
theorem CalUnit.sound.atReset {c : CalUnit} (h : c.sound) : c.atReset.sound := by
  obtain ⟨-, hs, -, -⟩ := h
  refine ⟨?_, hs, rfl, fun h => absurd rfl h⟩
  show CoefSet.sound (if c.checkMatches then c.stored else CoefSet.default) = true
  split
  · exact hs
  · exact CoefSet.default_sound

end Sys2Proof.Machine

/-! PROOFS. Every step keeps the site records, the timebase, the plan table and the coefficients sound. -/

namespace Sys2Proof.Machine

/-- What an operation keeps of the records of sites, timebase, plan table and calibration unit: each is sound after it if it
was before. -/
structure RecordsKept (s t : State) : Prop where
  sites : s.sitesSound → t.sitesSound
  timebase : s.timebase.sound → t.timebase.sound
  tables : s.planTableSound → t.planTableSound
  cal : s.cal.sound → t.cal.sound

section
variable {s t u : State}

theorem RecordsKept.refl (s : State) : RecordsKept s s := ⟨id, id, id, id⟩

theorem RecordsKept.trans (h : RecordsKept s t) (g : RecordsKept t u) : RecordsKept s u :=
  ⟨g.sites ∘ h.sites, g.timebase ∘ h.timebase, g.tables ∘ h.tables, g.cal ∘ h.cal⟩

theorem sitesSound_of_eq (h : t.sites = s.sites) (hi : t.inhibit = s.inhibit) (hs : s.sitesSound) : t.sitesSound := fun i => by
  simpa only [State.site, h, hi] using hs i

theorem planTableSound_of_eq (hp : t.plans = s.plans) (hm : t.masks = s.masks) (h : s.planTableSound) : t.planTableSound := by
  simpa only [State.planTableSound, hp, hm] using h

/-- An operation that writes none of these records but through the sites. -/
theorem RecordsKept.of_setting (h : t.setting = s.setting) (hs : s.sitesSound → t.sitesSound) : RecordsKept s t where
  sites := hs
  timebase ht := by rw [show t.timebase = s.timebase from congrArg Setting.timebase h]; exact ht
  tables := planTableSound_of_eq (congrArg Setting.plans h) (congrArg Setting.masks h)
  cal hc := by
    rw [CalUnit.sound, show t.cal.working = s.cal.working from congrArg Setting.working h,
      show t.cal.stored = s.cal.stored from congrArg Setting.stored h,
      show t.cal.image = s.cal.image from congrArg Setting.image h,
      show t.cal.checkMatches = s.cal.checkMatches from congrArg Setting.checkMatches h]
    exact hc

/-- An operation that writes none of these records. -/
theorem RecordsKept.of_eq (h : t.setting = s.setting) (hs : t.sites = s.sites) : RecordsKept s t :=
  .of_setting h (sitesSound_of_eq hs (congrArg Setting.inhibit h))

/-- What the job controller does (R23). -/
theorem Carried.records (h : Carried s t) : RecordsKept s t :=
  .of_setting h.setting fun hs i => by
    obtain ⟨hx, hp⟩ := hs i
    refine ⟨(h.sites i).sound hx, fun hpp => ?_⟩
    rw [show t.inhibit = s.inhibit from congrArg Setting.inhibit h.setting]
    obtain ⟨_, _, _, _, heq, -⟩ := (h.sites i).same
    exact hp (by rw [heq] at hpp; exact hpp)

/-- A site record replaced by a sound one. -/
theorem setSite_records (i : SiteId) (x : Site) (h : (s.site i).sound → ((s.site i).powerPending = true → s.inhibit = true) →
    x.sound ∧ (x.powerPending = true → s.inhibit = true)) : RecordsKept s (s.setSite i x) :=
  .of_setting rfl fun hs k => by
    rw [State.setSite_site]
    split
    · exact h (hs i).1 (hs i).2
    · exact hs k

theorem siteReady_records (i : SiteId) (x : Site) (h : (s.site i).sound → ((s.site i).powerPending = true → s.inhibit = true) →
    x.sound ∧ (x.powerPending = true → s.inhibit = true)) : RecordsKept s (s.siteReady i x) :=
  (setSite_records i x h).trans ((raise_carried _ _).trans (callArbiter_carried _)).records

theorem siteAlert_records (i : SiteId) (x : Site) (h : (s.site i).sound → ((s.site i).powerPending = true → s.inhibit = true) →
    x.sound ∧ (x.powerPending = true → s.inhibit = true)) : RecordsKept s (s.siteAlert i x) :=
  (setSite_records i x h).trans ((raise_carried _ _).trans (callArbiterIf_carried _ _)).records

theorem setLane_records (s : State) (l : LaneId) (x : Lane) : RecordsKept s (s.setLane l x) := .of_eq rfl rfl
theorem updateJob_records (s : State) (n : Nat) (f : Job → Job) : RecordsKept s (s.updateJob n f) := .of_eq rfl rfl
theorem openConnection_records (s : State) (i : SiteId) : RecordsKept s (s.openConnection i) := .of_eq rfl rfl

theorem timer_state {x : Site} (h : x.sound) : (x.timer = .blanking → x.state = .ramp) ∧ (∀ n, x.timer = .warmUp n → x.state = .warming) ∧
    (x.timer = .checkGate → x.state = .checking) ∧ (x.timer = .retry → x.state = .retryWait) ∧
    (x.timer = .recheckWait → x.state = .noCarrier) ∧ (x.timer = .recheckGate → x.state = .noCarrier) := state_of_timer h.1

end

/-! ### The events of sites -/

theorem supplyInhibitExpiry_records (s : State) : RecordsKept s s.supplyInhibitExpiry := by
  unfold State.supplyInhibitExpiry
  split
  · refine ⟨fun hs i => ?_, id, id, id⟩
    obtain ⟨hx, -⟩ := hs i
    simp only [State.site, Fin.getElem_fin, Vector.getElem_map] at hx ⊢
    split
    · next hp =>
      obtain ⟨hoff, hc⟩ := hx.2.2.2.2.1 hp
      exact ⟨hx.unpend.enterRamp (.inl hoff) hc rfl, nofun⟩
    · next hp => exact ⟨hx, fun h => absurd h hp⟩
  · exact .refl s

theorem blankingExpiry_records (s : State) (i : SiteId) : RecordsKept s (s.blankingExpiry i) := by
  unfold State.blankingExpiry
  split
  · next ht =>
    refine setSite_records i _ fun h hp => ⟨h.enterWarming ((timer_state h).1 ht), ?_⟩
    unfold Site.enterWarming
    dsimp only
    split <;> exact hp
  · exact .refl s

theorem currentCrossing_records (s : State) (i : SiteId) (b : Bool) : RecordsKept s (s.currentCrossing i b) := by
  unfold State.currentCrossing
  dsimp only
  split
  · next hs => exact setSite_records i _ fun h hp => ⟨h.crossing hs b, hp⟩
  · exact .refl s

theorem overcurrent_records (s : State) (i : SiteId) : RecordsKept s (s.overcurrent i) := by
  unfold State.overcurrent
  split
  · next hs =>
    refine ((siteAlert_records i _ fun h hp => ⟨h.overcurrent (Bool.and_eq_true_iff.1 hs).1, ?_⟩).trans
      (openConnection_records _ _)).trans (endJobs_carried _ _ _).records
    unfold Site.overcurrent
    dsimp only
    split <;> exact hp
  · exact .refl s

theorem retryExpiry_records (s : State) (i : SiteId) : RecordsKept s (s.retryExpiry i) := by
  unfold State.retryExpiry
  split
  · next ht =>
    refine setSite_records i _ fun h hp => ?_
    have hst := (timer_state h).2.2.2.1 ht
    have hoff : (s.site i).state ≠ .off := by rw [hst]; nofun
    exact ⟨h.enterRamp (.inr hst) (h.configured_of_state hoff) (h.not_pending hoff), hp⟩
  · exact .refl s

theorem warmUpExpiry_records (s : State) (i : SiteId) : RecordsKept s (s.warmUpExpiry i) := by
  unfold State.warmUpExpiry
  split
  · next n ht => exact setSite_records i _ fun h hp => ⟨h.enterChecking ((timer_state h).2.1 n ht), hp⟩
  · exact .refl s

/-- A gate that found the carrier (R17, R22). -/
theorem gateFound_records {s : State} {i : SiteId} {c : CountRecord} {v : Rat} (hc : c.sound = true)
    (hs : (s.site i).sound → (s.site i).state = .checking ∨ (s.site i).state = .noCarrier)
    (hp : carrierPresent (s.site i) c v = true) : RecordsKept s (s.gateFound i c v) :=
  siteReady_records i _ fun h hpp => ⟨(h.withCount hc).enterReady (hs h) (classify_of_present hp), hpp⟩

theorem endWaiting_records (s : State) (i : SiteId) : RecordsKept s (s.endWaiting i) := (endJobs_carried _ _ _).records

theorem carrierCheckGateEnd_records (s : State) (i : SiteId) (f : Option Rat) (v : Rat) :
    RecordsKept s (s.carrierCheckGateEnd i f v) := by
  unfold State.carrierCheckGateEnd
  split
  · next ht =>
    have hs (h : (s.site i).sound) := (timer_state h).2.2.1 ht
    dsimp only
    split
    · next hp => exact gateFound_records (countAt_sound s i f) (fun h => .inl (hs h)) hp
    · exact (siteAlert_records i _ fun h hpp =>
        ⟨(h.withCount (countAt_sound s i f)).enterNoCarrier (.inl (hs h)), hpp⟩).trans (endWaiting_records _ _)
  · exact .refl s

theorem recheckExpiry_records (s : State) (i : SiteId) : RecordsKept s (s.recheckExpiry i) := by
  unfold State.recheckExpiry
  split
  · next ht => exact setSite_records i _ fun h hp => ⟨h.recheck ((timer_state h).2.2.2.2.1 ht) (.inr rfl), hp⟩
  · exact .refl s

theorem recheckGateEnd_records (s : State) (i : SiteId) (f : Option Rat) (v : Rat) : RecordsKept s (s.recheckGateEnd i f v) := by
  unfold State.recheckGateEnd
  split
  · next ht =>
    have hs (h : (s.site i).sound) := (timer_state h).2.2.2.2.2 ht
    dsimp only
    split
    · next hp => exact gateFound_records (countAt_sound s i f) (fun h => .inr (hs h)) hp
    · exact (setSite_records i _ fun h hpp =>
        ⟨(h.withCount (countAt_sound s i f)).recheck (hs h) (.inl rfl), hpp⟩).trans (endWaiting_records _ _)
  · exact .refl s

/-! ### Level readings (R19 to R21) -/

theorem readingOf_bounds (v : Rat) : -600 ≤ readingOf v ∧ readingOf v ≤ 250 := clampInt_bounds (by decide) _

/-- A reading that changes no class. -/
theorem read_none {x : Site} {r : Int} (h : (x.read r).2 = none) : ∃ q, (x.read r).1 = { x with levelReading := some r, qualifying := q } := by
  revert h
  unfold Site.read
  dsimp only
  split
  · exact fun _ => ⟨_, rfl⟩
  · split
    · exact fun _ => ⟨_, rfl⟩
    · split
      · nofun
      · exact fun _ => ⟨_, rfl⟩

/-- A reading that changes the class (R19). -/
theorem read_some {x : Site} {r : Int} {c : LevelClass} (h : (x.read r).2 = some c) :
    (x.read r).1 = { x with levelReading := some r, qualifying := none, settled := some c } ∧ x.settled ≠ none := by
  revert h
  unfold Site.read
  dsimp only
  split
  · nofun
  · next hst =>
    split
    · nofun
    · split
      · rintro h
        cases h
        exact ⟨rfl, by rw [hst]; nofun⟩
      · nofun

theorem setSite_setSite (s : State) (i : SiteId) (x y : Site) : (s.setSite i x).setSite i y = s.setSite i y := by
  simp [State.setSite]

theorem setSite_self_site (s : State) (i : SiteId) (x : Site) : (s.setSite i x).site i = x := by simp

/-- The record of a site with a reading that changes its settled class (R19). -/
def Site.reclassed (x : Site) (r : Int) (c : LevelClass) : Site := { x with levelReading := some r, qualifying := none, settled := some c }

theorem selectable_iff {st : SiteState} : st.selectable = true ↔ st = .ready ∨ st = .measuring := by cases st <;> simp [SiteState.selectable]

theorem siteAlert_setSite (s : State) (i : SiteId) (x y : Site) :
    (s.setSite i x).siteAlert i y = ((s.setSite i y).raise .siteAlert).callArbiterIf (x.state == .ready) := by
  rw [State.siteAlert, setSite_setSite, setSite_self_site]

/-! What a class-change event does, by the state of the site and the class (R20, R21). -/

theorem classChange_ready_absent {s : State} {i : SiteId} (h : (s.site i).state = .ready) : s.classChange i .absent =
    (s.siteAlert i ((s.site i).enterNoCarrier s.now)).endWaiting i := by
  unfold State.classChange
  dsimp only
  rw [h]

theorem classChange_measuring_absent {s : State} {i : SiteId} (h : (s.site i).state = .measuring) : s.classChange i .absent =
    ((s.siteAlert i ((s.site i).enterNoCarrier s.now)).openConnection i).endJobs .noCarrier (s.endableAt i) := by
  unfold State.classChange
  dsimp only
  rw [h]

theorem classChange_ready {s : State} {i : SiteId} {c : LevelClass} (h : (s.site i).state = .ready) (hc : c ≠ .absent) :
    s.classChange i c = s.setSite i { s.site i with levelFlag := c.flag } := by
  unfold State.classChange
  dsimp only
  cases c with
  | absent => exact absurd rfl hc
  | _ => simp [h]

theorem classChange_measuring {s : State} {i : SiteId} {c : LevelClass} (h : (s.site i).state = .measuring) (hc : c ≠ .absent) :
    s.classChange i c = if c = .within then s.setSite i { s.site i with levelFlag := c.flag } else
      (s.setSite i { s.site i with levelFlag := c.flag }).flagLevel i := by
  unfold State.classChange
  dsimp only
  cases c with
  | absent => exact absurd rfl hc
  | _ => simp [h]

theorem classChange_other {s : State} {i : SiteId} (h : (s.site i).state.selectable = false) (c : LevelClass) :
    s.classChange i c = s := by
  unfold State.classChange
  dsimp only
  split
  case h_6 => rfl
  all_goals simp_all [SiteState.selectable]

/-- A class change at a site with a reading: NO_CARRIER at ABSENT, and the flag of the class else (R20, R21). -/
theorem classChange_records (s : State) (i : SiteId) (c : LevelClass) {r : Int} (hr : -600 ≤ r ∧ r ≤ 250)
    (hset : (s.site i).settled ≠ none) : RecordsKept s ((s.setSite i ((s.site i).reclassed r c)).classChange i c) := by
  have hsite := setSite_self_site s i ((s.site i).reclassed r c)
  by_cases hsel : (s.site i).state.selectable = true
  swap
  · rw [classChange_other (by rw [hsite]; exact Bool.not_eq_true _ ▸ hsel)]
    refine setSite_records i _ fun h _ => absurd (h.no_class (by simpa using hsel)) ?_
    simp [hset]
  have hsup : (s.site i).state.supplied = true := by rcases selectable_iff.1 hsel with h | h <;> rw [h] <;> rfl
  have alert (b : Bool) : RecordsKept s
      (((s.setSite i (((s.site i).reclassed r c).enterNoCarrier s.now)).raise .siteAlert).callArbiterIf b) :=
    (setSite_records i _ fun h hp => ⟨(h.withReading hsup hr none).enterNoCarrier (.inr hsel), hp⟩).trans
      ((raise_carried _ _).trans (callArbiterIf_carried _ _)).records
  have flagged (hc : c ≠ .absent) : RecordsKept s (s.setSite i { (s.site i).reclassed r c with levelFlag := c.flag }) :=
    setSite_records i _ fun h hp => ⟨(h.withReading hsup hr none).withClass hsel hc, hp⟩
  by_cases hc : c = .absent
  · subst hc
    rcases selectable_iff.1 hsel with hst | hst
    · rw [classChange_ready_absent (by rw [hsite]; exact hst), siteAlert_setSite, hsite]
      exact (alert _).trans (endWaiting_records _ _)
    · rw [classChange_measuring_absent (by rw [hsite]; exact hst), siteAlert_setSite, hsite]
      exact ((alert _).trans (openConnection_records _ _)).trans (endJobs_carried _ _ _).records
  · rcases selectable_iff.1 hsel with hst | hst
    · rw [classChange_ready (by rw [hsite]; exact hst) hc, setSite_setSite, hsite]
      exact flagged hc
    · rw [classChange_measuring (by rw [hsite]; exact hst) hc, setSite_setSite, hsite]
      split
      · exact flagged hc
      · exact (flagged hc).trans (.of_eq rfl rfl)

theorem levelReading_records (s : State) (i : SiteId) (v : Rat) : RecordsKept s (s.levelReading i v) := by
  unfold State.levelReading
  split
  · next hs =>
    dsimp only
    split
    · next hc =>
      obtain ⟨q, hq⟩ := read_none hc
      rw [hq]
      exact setSite_records i _ fun h hp => ⟨h.withReading hs (readingOf_bounds v) q, hp⟩
    · next c hc =>
      obtain ⟨hq, hset⟩ := read_some hc
      rw [hq]
      exact classChange_records s i c (readingOf_bounds v) hset
  · exact .refl s

end Sys2Proof.Machine

/-! PROOFS. Every step keeps the site records, the timebase, the plan table and the coefficients sound: the events of lanes,
timebase and calibration unit, the requests, the resets and the tick. -/

namespace Sys2Proof.Machine

section
variable {s t u : State}

/-- An operation that writes none of the records of sites, timebase, plan table and calibration unit. -/
theorem RecordsKept.of_tables (hs : t.sites = s.sites) (hi : t.inhibit = s.inhibit) (ht : t.timebase = s.timebase)
    (hp : t.plans = s.plans) (hm : t.masks = s.masks) (hc : t.cal = s.cal) : RecordsKept s t :=
  ⟨sitesSound_of_eq hs hi, by rw [ht]; exact id, planTableSound_of_eq hp hm, by rw [hc]; exact id⟩

/-! ### The events of lanes -/

theorem recountGateEnd_records (s : State) (l : LaneId) (f : Option Rat) (v : Rat) : RecordsKept s (s.recountGateEnd l f v) := by
  unfold State.recountGateEnd
  split
  · next i id _ _ _ =>
    split
    · next hst =>
      unfold State.takeRecount
      dsimp only
      have hcount := countAt_sound s i f
      have hw : RecordsKept s (s.writeRecount i id (s.countAt i f)) :=
        (setSite_records i _ fun h hp => ⟨h.withCount hcount, hp⟩).trans (updateJob_records _ _ _)
      have hsite : (s.writeRecount i id (s.countAt i f)).site i = { s.site i with lastCount := some (s.countAt i f) } :=
        setSite_self_site s i _
      split
      · exact hw.trans (setLane_records _ _ _)
      · refine hw.trans (((siteAlert_records i _ fun h hp => ⟨h.enterNoCarrier (.inr ?_), hp⟩).trans
          (openConnection_records _ _)).trans (endJobs_carried _ _ _).records)
        rw [hsite]
        exact selectable_iff.2 (.inr hst)
    · exact .refl s
  · exact .refl s

theorem lockEvent_records (s : State) (l : LaneId) : RecordsKept s (s.lockEvent l) := by
  unfold State.lockEvent
  split
  · dsimp only
    split
    · exact (setLane_records _ _ _).trans (startAcquisition_carried _ _ _).records
    · exact .of_eq rfl rfl
  · exact .refl s

theorem tuneOutcome_records (s : State) (j : Job) : RecordsKept s (s.tuneOutcome j) := by
  unfold State.tuneOutcome
  split
  · exact .of_eq rfl rfl
  · exact (recordEnd_carried _ _ _ _).records

theorem releaseFailed_records (s : State) (l : LaneId) : RecordsKept s (s.releaseFailed l) := by
  unfold State.releaseFailed
  split
  · exact (releaseLane_carried _ _).records
  · have hr : RecordsKept s ((s.setLane l (s.lane l).withoutJob).raise .laneAlert) :=
      (setLane_records _ _ _).trans (raise_carried _ _).records
    dsimp only
    split
    · exact hr.trans (beginCalibration_carried _ _ _).records
    · exact hr.trans (.of_eq rfl rfl)

theorem lockTimerExpiry_records (s : State) (l : LaneId) : RecordsKept s (s.lockTimerExpiry l) := by
  unfold State.lockTimerExpiry
  split
  · exact ((((setLane_records _ _ _).trans (returnBuffer_carried _ _).records).trans (releaseSite_carried _ _).records).trans
      (tuneOutcome_records _ _)).trans (releaseFailed_records _ _)
  · exact .refl s

theorem followed_records (s : State) (l : LaneId) (x : Lane) (j : Job) (y : BandAcq) :
    RecordsKept s ((s.setLane l x).followCounts j y) := (setLane_records _ _ _).trans (updateJob_records _ _ _)

theorem bandCompletion_records (s : State) (l : LaneId) (b : BandId) (v : List BinSums) : RecordsKept s (s.bandCompletion l b v) := by
  unfold State.bandCompletion
  split
  · exact .refl s
  split
  · exact .refl s
  split
  · unfold State.completeBand
    dsimp only
    split
    · exact followed_records _ _ _ _ _
    split
    · exact (followed_records _ _ _ _ _).trans (endAcquisition_carried _ _ _ _ _ _).records
    · exact followed_records _ _ _ _ _
  · exact .refl s

theorem captureDisturbance_records (s : State) (l : LaneId) : RecordsKept s (s.captureDisturbance l) := by
  unfold State.captureDisturbance
  split
  · exact .refl s
  · exact setLane_records _ _ _

theorem snapshotTimerExpiry_records (s : State) (l : LaneId) : RecordsKept s (s.snapshotTimerExpiry l) := by
  unfold State.snapshotTimerExpiry
  split
  · exact .refl s
  split
  · unfold State.snapshot
    dsimp only
    split
    · exact updateJob_records _ _ _
    · exact (updateJob_records _ _ _).trans (raise_carried _ _).records
  · exact .refl s

theorem maxDurationExpiry_records (s : State) (l : LaneId) : RecordsKept s (s.maxDurationExpiry l) := by
  unfold State.maxDurationExpiry
  split
  · exact .refl s
  split
  · exact (endAcquisition_carried _ _ _ _ _ _).records
  · exact .refl s

theorem evaluationEnd_records (s : State) (l : LaneId) : RecordsKept s (s.evaluationEnd l) := by
  unfold State.evaluationEnd
  split
  · exact ((setFree_carried s _).trans ((recordEnd_carried _ _ _ _).trans (releaseLane_carried _ _))).records
  · exact .refl s

/-! ### The events of the calibration unit -/

theorem setCalRecord_records (s : State) (l : LaneId) (r : CalRecord) : RecordsKept s (s.setCalRecord l r) := .of_eq rfl rfl

theorem calChannelLock_records (s : State) (l : LaneId) (ch : ChanId) : RecordsKept s (s.calChannelLock l ch) := by
  unfold State.calChannelLock
  split
  · exact setLane_records _ _ _
  · exact .refl s

theorem calLockTimerExpiry_records (s : State) (l : LaneId) (ch : ChanId) : RecordsKept s (s.calLockTimerExpiry l ch) := by
  unfold State.calLockTimerExpiry
  split
  · dsimp only
    split
    · exact (setLane_records _ _ _).trans (setCalRecord_records _ _ _)
    · exact setLane_records _ _ _
  · exact .refl s

/-- An operation that writes the working set alone. -/
theorem working_records (s : State) {v : CoefSet} (h : s.cal.working.sound = true → v.sound = true) :
    RecordsKept s { s with cal := { s.cal with working := v } } :=
  ⟨sitesSound_of_eq rfl rfl, id, planTableSound_of_eq rfl rfl, fun ⟨hw, hs⟩ => ⟨h hw, hs⟩⟩

theorem measureChannel_records (s : State) (l : LaneId) (r : RangeId) (ch : ChanId) (g : Rat) :
    RecordsKept s (s.measureChannel l r ch g) := by
  unfold State.measureChannel
  dsimp only
  split
  · split
    · next hg =>
      exact (setCalRecord_records _ _ _).trans (working_records _ fun h =>
        CoefSet.writeGood_sound h l ch r _ hg)
    · exact setCalRecord_records _ _ _
  · exact setCalRecord_records _ _ _

theorem endCalibration_records (s : State) (l : LaneId) (o : CalStatus) : RecordsKept s (s.endCalibration l o) := by
  unfold State.endCalibration
  exact ((setCalRecord_records _ _ _).trans (setLane_records _ _ _)).trans ((raise_carried _ _).trans (callArbiter_carried _)).records

theorem measurementEvent_records (s : State) (l : LaneId) (a b : Rat) : RecordsKept s (s.measurementEvent l a b) := by
  unfold State.measurementEvent
  split
  · have hm (r : RangeId) : RecordsKept s ((s.measureChannel l r 0 a).measureChannel l r 1 b) :=
      (measureChannel_records _ _ _ _ _).trans (measureChannel_records _ _ _ _ _)
    dsimp only
    split
    · exact (hm _).trans (beginStep_carried _ _ _).records
    · exact (hm _).trans (endCalibration_records _ _ _)
  · exact .refl s

theorem storeCompletion_records (s : State) : RecordsKept s s.storeCompletion := by
  unfold State.storeCompletion
  split
  · exact .refl s
  · next c hc =>
    refine ⟨sitesSound_of_eq rfl rfl, id, planTableSound_of_eq rfl rfl, fun ⟨hw, _, hi, _⟩ => ⟨hw, ?_, rfl, fun h => absurd rfl h⟩⟩
    simpa [hc] using hi

/-! ### The events of the timebase unit -/

/-- An operation that writes the timebase record alone. -/
theorem timebase_records (s : State) {t : Timebase} (h : s.timebase.sound → t.sound) :
    RecordsKept s { s with timebase := t } :=
  ⟨sitesSound_of_eq rfl rfl, h, planTableSound_of_eq rfl rfl, id⟩

theorem report_records (s : State) {t : Timebase} (f : JobFlags → JobFlags) (h : s.timebase.sound → t.sound) :
    RecordsKept s (s.report t f) :=
  (timebase_records s h).trans (RecordsKept.trans (RecordsKept.of_eq (by rfl) (by rfl))
    ((raise_carried _ _).trans (callArbiterIf_carried _ _)).records)

/-- A presence status that changes where the state does not follow it (R28). -/
theorem Timebase.sound.withPresent {t : Timebase} {p : Bool} (h : t.sound)
    (hp : t.mode = .external → t.discipline = .free ∧ p = false ∨ t.discipline = .holdover ∧ p = false) : Timebase.sound { t with present := p } := by
  obtain ⟨hf, ho⟩ := h
  refine ⟨?_, ho⟩
  revert hf hp
  cases hd : t.discipline <;> cases hm : t.mode <;> simp +contextual [Timebase.fits, hd, hm]

theorem referencePresent_records (s : State) : RecordsKept s s.referencePresent := by
  unfold State.referencePresent
  split
  · exact .refl s
  next hn =>
  have hpres : s.timebase.present = false := by simp at hn; exact hn.1
  dsimp only
  split
  · next hm _ => exact report_records s _ fun h => .enterAcquiring h.2 hm rfl
  · next hm _ => exact report_records s _ fun h => .enterAcquiring h.2 hm rfl
  · next hm hh =>
    refine timebase_records s fun h => h.withPresent fun hmode => ?_
    obtain ⟨hf, -⟩ := h
    revert hf
    cases hd : s.timebase.discipline with
    | free => exact (hm hmode hd).elim
    | holdover => exact (hh hmode hd).elim
    | acquiring => simp [Timebase.fits, hd, hpres]
    | locked => simp [Timebase.fits, hd, hpres]

theorem referenceAbsent_records (s : State) : RecordsKept s s.referenceAbsent := by
  unfold State.referenceAbsent
  split
  · dsimp only
    split
    · exact report_records s _ fun h => ⟨by simp [Timebase.fits, Timebase.enterFree], h.2⟩
    · next hm _ => exact report_records s _ fun h => ⟨by simp [Timebase.fits, Timebase.enterHoldover, Config.holdoverMs, hm], h.2⟩
    · next hm hh =>
      refine timebase_records s fun h => h.withPresent fun hmode => ?_
      cases hd : s.timebase.discipline with
      | free => exact .inl ⟨rfl, rfl⟩
      | holdover => exact .inr ⟨rfl, rfl⟩
      | acquiring => exact (hm hmode hd).elim
      | locked => exact (hh hmode hd).elim
  · exact .refl s

theorem windowEnd_records (s : State) (o : Rat) : RecordsKept s (s.windowEnd o) := by
  unfold State.windowEnd
  dsimp only
  split
  · exact .refl s
  next hw =>
  have hend (h : s.timebase.sound) := h.endWindow hw o
  have hext (h : s.timebase.sound) := h.windowed hw
  split
  · next hd =>
    split
    · split
      · exact report_records s _ fun h => (hend h).enterLocked (hext h).1 (hext h).2
      · next hc =>
        refine timebase_records s fun h => ⟨?_, (hend h).2⟩
        have := (hend h).1
        simp only [Timebase.fits, hd, Bool.and_eq_true, decide_eq_true_eq] at this ⊢
        obtain ⟨⟨⟨⟨h1, h2⟩, h3⟩, h4⟩, h5⟩ := this
        exact ⟨⟨⟨⟨h1, h2⟩, by omega⟩, h4⟩, h5⟩
    · refine timebase_records s fun h => ⟨?_, (hend h).2⟩
      have := (hend h).1
      simp only [Timebase.fits, hd, Bool.and_eq_true, decide_eq_true_eq] at this ⊢
      obtain ⟨⟨⟨⟨h1, h2⟩, h3⟩, h4⟩, h5⟩ := this
      exact ⟨⟨⟨⟨h1, h2⟩, by omega⟩, h4⟩, h5⟩
  · split
    · exact timebase_records s hend
    · exact report_records s _ fun h => .enterAcquiring (hend h).2 (hext h).1 (hext h).2
  · exact .refl s
  · exact .refl s

theorem holdoverExpiry_records (s : State) : RecordsKept s s.holdoverExpiry := by
  unfold State.holdoverExpiry
  split
  · next hd =>
    refine report_records s _ fun h => h.enterFree fun _ => ?_
    have := h.1
    simp only [Timebase.fits, hd, Bool.and_eq_true] at this
    simpa using this.1.1.1.2
  · exact .refl s

theorem qualifyChange_records (s : State) (f : Option Rat) : RecordsKept s (s.qualifyChange f) := timebase_records s id

end

end Sys2Proof.Machine

/-! PROOFS. Every request and every step keeps the site records, the timebase, the plan table and the coefficients sound. -/

namespace Sys2Proof.Machine

section
variable {s t u : State}

/-! ### Requests -/

theorem siteSet_records (s : State) (f : SiteSetFields) : RecordsKept s (s.siteSet f).1 := by
  unfold State.siteSet
  split
  · next hc =>
    refine setSite_records _ _ fun h hp => ⟨h.configure hc, ?_⟩
    unfold Site.configure Site.warmUpChanged
    repeat' split
    all_goals exact hp
  · exact .refl s

theorem powerOn_records (s : State) (i : SiteId) : RecordsKept s (s.powerOn i).1 := by
  unfold State.powerOn
  dsimp only
  split
  · exact .refl s
  next hn =>
  split
  · next hoff =>
    have hc : (s.site i).configured = true := by simpa using (not_or.1 hn).1
    split
    · next hi => exact setSite_records i _ fun h _ => ⟨h.pend hoff hc, fun _ => hi⟩
    · next hi =>
      refine setSite_records i _ fun h hp => ⟨h.enterRamp (.inl hoff) hc ?_, hp⟩
      by_contra hpp
      exact hi (hp (by simpa using hpp))
  · exact .refl s

theorem powerOff_records (s : State) (i : SiteId) : RecordsKept s (s.powerOff i).1 := by
  unfold State.powerOff
  dsimp only
  split
  · exact .refl s
  · exact (setSite_records i _ fun h _ => ⟨h.unpend, nofun⟩).trans (endJobs_carried _ _ _).records
  · next hoff =>
    exact (((setSite_records i _ fun h hp => ⟨h.powerOff hoff, hp⟩).trans (openConnection_records _ _)).trans
      (endJobs_carried _ _ _).records).trans (callArbiterIf_carried _ _).records

theorem sitePower_records (s : State) (a b : Byte) : RecordsKept s (s.sitePower a b).1 := by
  unfold State.sitePower
  split
  · exact powerOn_records _ _
  · exact powerOff_records _ _
  · exact .refl s

theorem siteClear_records (s : State) (a : Byte) : RecordsKept s (s.siteClear a).1 := by
  unfold State.siteClear
  split
  · exact .refl s
  · dsimp only
    split
    · next hl => exact setSite_records _ _ fun h hp => ⟨h.clear hl, hp⟩
    · exact .refl s

theorem refSet_records (s : State) (a b c : Byte) : RecordsKept s (s.refSet a b c).1 := by
  unfold State.refSet
  split
  · show RecordsKept s (s.setReference _ _ _)
    unfold State.setReference
    dsimp only
    split
    · exact report_records s _ fun _ => Timebase.sound_change _ _ _ _
    · split
      · exact timebase_records s fun h => h.changeWindow _
      · exact .refl s
  · exact .refl s

/-- What a plan that passes the checks of R39 is: legal, and its mask is LOADED. -/
theorem checkPlan_ok {f : PlanFields} {p : Plan} (h : s.checkPlan f = .ok p) : p.sound ∧ ∀ m ∈ p.mask, s.masks[m] ≠ none := by
  unfold State.checkPlan at h
  split at h
  · cases h
  next x hx =>
  dsimp only at h
  split at h
  · cases h
  next hj =>
  split at h
  · cases h
  next hd =>
  split at h
  · cases h
  next hm =>
  cases h
  refine ⟨storedPlan_sound hx (by simpa using hj) (by simpa using hd), fun m hm' => ?_⟩
  rw [Option.mem_def.1 hm'] at hm
  simpa using hm

/-- An operation that writes the plan table alone. -/
theorem plans_records (s : State) {ps : Vector (Option Plan) 32} {ms : Vector (Option (List Vertex)) 8}
    (h : s.planTableSound → State.planTableSound { s with plans := ps, masks := ms }) :
    RecordsKept s { s with plans := ps, masks := ms } :=
  ⟨sitesSound_of_eq rfl rfl, id, h, id⟩

theorem planPut_records (s : State) (f : PlanFields) : RecordsKept s (s.planPut f).1 := by
  unfold State.planPut
  split
  · exact .refl s
  next i _ =>
  split
  · exact .refl s
  split
  · exact .refl s
  next p hp =>
  refine plans_records s fun ⟨hplans, hmasks⟩ => ⟨fun k q hq => ?_, hmasks⟩
  by_cases hik : i.val = k.val
  · obtain rfl : p = q := by simpa [hik] using hq
    exact checkPlan_ok hp
  · exact hplans k q (by simpa [Vector.getElem_set, hik] using hq)

theorem planDrop_records (s : State) (a : Byte) : RecordsKept s (s.planDrop a).1 := by
  unfold State.planDrop
  split
  · exact .refl s
  next i _ =>
  split
  · exact .refl s
  split
  · exact .refl s
  refine plans_records s fun ⟨hplans, hmasks⟩ => ⟨fun k q hq => ?_, hmasks⟩
  by_cases hik : i.val = k.val
  · simp [hik] at hq
  · exact hplans k q (by simpa [Vector.getElem_set, hik] using hq)

theorem maskPut_records (s : State) (f : MaskFields) : RecordsKept s (s.maskPut f).1 := by
  unfold State.maskPut
  split
  · exact .refl s
  next i _ =>
  split
  · exact .refl s
  split
  · next hl =>
    refine plans_records s fun ⟨hplans, hmasks⟩ => ⟨fun k q hq => ⟨(hplans k q hq).1, fun m hm => ?_⟩, fun m vs hvs => ?_⟩
    · by_cases him : i.val = m.val
      · simp [him]
      · simpa [Vector.getElem_set, him] using (hplans k q hq).2 m hm
    · by_cases him : i.val = m.val
      · obtain rfl : verticesOf f = vs := by simpa [him] using hvs
        exact verticesOf_sound hl
      · exact hmasks m vs (by simpa [Vector.getElem_set, him] using hvs)
  · exact .refl s

/-- A mask that no LOADED plan slot names (R49). -/
theorem not_referenced {m : MaskId} (h : ¬s.maskReferenced m = true) {k : PlanId} {q : Plan} (hq : q ∈ s.plans[k]) : q.mask ≠ some m := by
  intro hm
  refine h (List.any_eq_true.2 ⟨k, List.mem_finRange k, ?_⟩)
  rw [Option.mem_def.1 hq]
  simpa using hm

theorem maskDrop_records (s : State) (a : Byte) : RecordsKept s (s.maskDrop a).1 := by
  unfold State.maskDrop
  split
  · exact .refl s
  next i _ =>
  split
  · exact .refl s
  split
  · exact .refl s
  next hr =>
  refine plans_records s fun ⟨hplans, hmasks⟩ => ⟨fun k q hq => ⟨(hplans k q hq).1, fun m hm => ?_⟩, fun m vs hvs => ?_⟩
  · have him : i.val ≠ m.val := fun h => not_referenced hr hq (Fin.val_injective h ▸ hm)
    simpa [Vector.getElem_set, him] using (hplans k q hq).2 m hm
  · by_cases him : i.val = m.val
    · simp [him] at hvs
    · exact hmasks m vs (by simpa [Vector.getElem_set, him] using hvs)

theorem jobSubmit_records (s : State) (a b c d : Byte) : RecordsKept s (s.jobSubmit a b c d).1 := by
  unfold State.jobSubmit
  split
  · split
    · exact .refl s
    · unfold State.submit
      dsimp only
      have hadd (j : Job) : RecordsKept s (s.addJob j) := .of_tables rfl rfl rfl rfl rfl rfl
      split
      · exact (hadd _).trans (endTerminal_carried _ _ _).records
      · exact (hadd _).trans (callArbiterIf_carried _ _).records
  · exact .refl s

theorem abortWhere_records (s : State) (p : Job → Bool) : RecordsKept s (s.abortWhere p).1 := (endJobs_carried _ _ _).records

theorem jobAbort_records (s : State) (a : Byte) (v : Half) : RecordsKept s (s.jobAbort a v).1 := by
  unfold State.jobAbort State.abortJob
  dsimp only
  repeat' split
  case h_2.isTrue | isFalse.isTrue.isTrue | isFalse.isFalse.isTrue.isTrue | isFalse.isFalse.isFalse.isTrue =>
    exact abortWhere_records _ _
  all_goals exact .refl s

theorem groupRelease_records (s : State) (a : Byte) : RecordsKept s (s.groupRelease a).1 := by
  unfold State.groupRelease
  repeat' split
  all_goals exact .of_eq rfl rfl

theorem snapTake_records (s : State) (a : Byte) (v : Half) : RecordsKept s (s.snapTake a v).1 := by
  unfold State.snapTake
  repeat' split
  all_goals exact .of_eq rfl rfl

theorem dropJob_records (s : State) (j : Job) : RecordsKept s (s.dropJob j) := by
  unfold State.dropJob
  refine RecordsKept.trans ?_ (callArbiterIf_carried _ _).records
  exact .of_eq rfl rfl

theorem resultRelease_records (s : State) (v : Half) : RecordsKept s (s.resultRelease v).1 := by
  unfold State.resultRelease
  split
  · exact .refl s
  split
  · exact dropJob_records s _
  · exact .refl s

theorem calStart_records (s : State) (f : CalStartFields) : RecordsKept s (s.calStart f).1 := by
  unfold State.calStart
  split
  · split
    · exact .refl s
    · unfold State.claim
      dsimp only
      split
      · exact .refl s
      split
      · exact (setLane_records _ _ _).trans (setCalRecord_records _ _ _)
      · exact ((setCalRecord_carried _ _ _).trans ((beginCalibration_carried _ _ _).trans (callArbiterIf_carried _ _))).records
  · exact .refl s

theorem calCancel_records (s : State) (a : Byte) : RecordsKept s (s.calCancel a).1 := by
  unfold State.calCancel
  split
  · exact .refl s
  split
  · exact endCalibration_records _ _ _
  · exact ((setLane_records _ _ _).trans (setCalRecord_records _ _ _)).trans (raise_carried _ _).records
  all_goals exact .refl s

theorem calStore_records (s : State) : RecordsKept s s.calStore.1 := by
  unfold State.calStore
  split
  · exact .refl s
  · exact ⟨sitesSound_of_eq rfl rfl, id, planTableSound_of_eq rfl rfl, fun ⟨hw, hs, _, _⟩ => ⟨hw, hs, hw, fun _ => rfl⟩⟩

theorem calRevert_records (s : State) (a : Byte) : RecordsKept s (s.calRevert a).1 := by
  unfold State.calRevert
  split
  · exact working_records s fun _ => CoefSet.default_sound
  split
  · exact .refl s
  · exact working_records s fun h => CoefSet.revert_sound h _

/-- Carrying out a request keeps the records sound. -/
theorem carryOut_records (s : State) (r : Request) : RecordsKept s (s.carryOut r).1 := by
  by_cases hr : readsOnly r = true
  · rw [carryOut_readsOnly s hr]
    exact .refl s
  cases r with
  | ident | status | refRead | binmapGet | resultList | siteRead | planGet | maskGet | jobRead | snapRead | resultRead
  | calRead => exact absurd rfl hr
  | reset => exact .refl s
  | eventsMask m => exact .of_tables rfl rfl rfl rfl rfl rfl
  | eventsClear k => exact .of_tables rfl rfl rfl rfl rfl rfl
  | siteSet f => exact siteSet_records s f
  | sitePower a b => exact sitePower_records s a b
  | siteClear a => exact siteClear_records s a
  | refSet a b c => exact refSet_records s a b c
  | planPut f => exact planPut_records s f
  | planDrop a => exact planDrop_records s a
  | maskPut f => exact maskPut_records s f
  | maskDrop a => exact maskDrop_records s a
  | binmapPut v =>
    show RecordsKept s (s.binmapPut v).1
    unfold State.binmapPut
    split <;> exact .of_tables rfl rfl rfl rfl rfl rfl
  | jobSubmit a b c d => exact jobSubmit_records s a b c d
  | jobAbort a v => exact jobAbort_records s a v
  | groupRelease a => exact groupRelease_records s a
  | snapTake a v => exact snapTake_records s a v
  | snapHold a =>
    show RecordsKept s (s.snapHold a).1
    unfold State.snapHold
    split <;> exact .of_tables rfl rfl rfl rfl rfl rfl
  | resultRelease v => exact resultRelease_records s v
  | calStart f => exact calStart_records s f
  | calCancel a => exact calCancel_records s a
  | calStore => exact calStore_records s
  | calRevert a => exact calRevert_records s a

theorem take_records (s : State) (f : Frame) : RecordsKept s (s.take f) := by
  refine RecordsKept.trans (t := (s.answer f).1) ?_ (.of_tables rfl rfl rfl rfl rfl rfl)
  unfold State.answer
  cases decodeFrame f with
  | unknown => exact .refl s
  | malformed => exact .refl s
  | request r => exact carryOut_records s r

/-! ### Resets -/

theorem Site.reset_sound : Site.reset.sound := by decide

theorem sitesSound_at_reset (h : s.sites = State.reset.sites) : s.sitesSound := fun i => by
  have : s.site i = Site.reset := by simp [State.site, h, State.reset]
  rw [this]
  exact ⟨Site.reset_sound, nofun⟩

theorem softReset_records (s : State) : RecordsKept s s.softReset :=
  ⟨fun _ => sitesSound_at_reset rfl, Timebase.sound.softReset, planTableSound_of_eq rfl rfl, CalUnit.sound.atReset⟩

theorem powerOnReset_records (s : State) : RecordsKept s s.powerOnReset := by
  refine ⟨fun _ => sitesSound_at_reset rfl, fun _ => ⟨rfl, rfl⟩, fun _ => ⟨fun k q hq => ?_, fun m vs hvs => ?_⟩, CalUnit.sound.atReset⟩
  · simp [State.powerOnReset, State.reset] at hq
  · simp [State.powerOnReset, State.reset] at hvs

/-! ### Every event and every step -/

theorem effectOf_records (c : Instr) (s : State) : RecordsKept s (effectOf c s) := by
  cases hl : onLine c with
  | true =>
    have he := effectOf_lineEffect hl s
    generalize effectOf c s = u at he
    have hp (p : Port) : RecordsKept s (s.withPort p) := .of_tables rfl rfl rfl rfl rfl rfl
    cases he with
    | port p => exact hp p
    | reset p => exact (hp p).trans (softReset_records _)
    | take p f hf => exact (hp p).trans (take_records _ f)
  | false =>
    cases c with
    | powerOnReset => exact powerOnReset_records s
    | supplyInhibitExpiry => exact supplyInhibitExpiry_records s
    | blankingExpiry i => exact blankingExpiry_records s i
    | currentLimitCrossing i b => exact currentCrossing_records s i b
    | overcurrent i => exact overcurrent_records s i
    | retryExpiry i => exact retryExpiry_records s i
    | warmUpExpiry i => exact warmUpExpiry_records s i
    | carrierCheckGateEnd i f v => exact carrierCheckGateEnd_records s i f v
    | recheckExpiry i => exact recheckExpiry_records s i
    | recheckGateEnd i f v => exact recheckGateEnd_records s i f v
    | levelReading i v => exact levelReading_records s i v
    | referencePresentEvent => exact referencePresent_records s
    | referenceAbsentEvent => exact referenceAbsent_records s
    | windowEnd o => exact windowEnd_records s o
    | holdoverExpiry => exact holdoverExpiry_records s
    | recountGateEnd l f v => exact recountGateEnd_records s l f v
    | lockEvent l => exact lockEvent_records s l
    | lockTimerExpiry l => exact lockTimerExpiry_records s l
    | bandCompletion l b v => exact bandCompletion_records s l b v
    | captureDisturbance l _ => exact captureDisturbance_records s l
    | snapshotTimerExpiry l => exact snapshotTimerExpiry_records s l
    | maxDurationExpiry l => exact maxDurationExpiry_records s l
    | evaluationEnd l => exact evaluationEnd_records s l
    | calChannelLock l ch => exact calChannelLock_records s l ch
    | calLockTimerExpiry l ch => exact calLockTimerExpiry_records s l ch
    | measurementEvent l a b => exact measurementEvent_records s l a b
    | storeCompletion => exact storeCompletion_records s
    | referenceInputQualifyChange f => exact qualifyChange_records s f
    | _ => cases hl

theorem close_records (s s₀ : State) : RecordsKept s (s.close s₀) :=
  (finish_carried s).records.trans (.of_eq rfl rfl)

theorem tick_records (s : State) : RecordsKept s s.tick :=
  ⟨fun hs i => by
    have : s.tick.site i = (s.site i).tick := by simp [State.tick, State.site]
    rw [this]
    refine ⟨(hs i).1.tick, fun hp => (hs i).2 ?_⟩
    unfold Site.tick at hp
    split at hp <;> exact hp,
    Timebase.sound.tick, planTableSound_of_eq rfl rfl, id⟩

theorem step_records (h : step s = .next t) : RecordsKept s t := by
  unfold step at h
  split at h
  · cases h
    exact tick_records s
  · rw [exec_eq_close] at h
    cases h
    refine RecordsKept.trans ?_ ((effectOf_records _ _).trans (close_records _ _))
    exact .of_tables rfl rfl rfl rfl rfl rfl

end

/-- Settles O55: each step leaves every site as one of the site controller's operations does. -/
theorem stepKeepsSitesSound : Obligations.StepKeepsSitesSound := fun _ _ hs h => (step_records h).sites hs

/-- Settles O56: each step keeps the records of the timebase, the plan table and the calibration unit. -/
theorem stepKeepsTablesSound : Obligations.StepKeepsTablesSound := fun _ _ h =>
  ⟨(step_records h).timebase, (step_records h).tables, (step_records h).cal⟩

end Sys2Proof.Machine

/-! PROOFS. The frames of requests decode to their requests (R185, R186), and frames are assembled from their bytes and their
bits (R169, R170, R184). -/

namespace Sys2Proof

/-! ### Byte orders (R185) -/

theorem toNat_append_eq {n m : Nat} (a : BitVec n) (b : BitVec m) : (a ++ b).toNat = a.toNat * 2 ^ m + b.toNat := by
  rw [BitVec.toNat_append, Nat.shiftLeft_eq, Nat.mul_comm, ← Nat.two_pow_add_eq_or_of_lt b.isLt]

@[simp] theorem halfOf_halfBytes (x : Half) : halfOf (x.extractLsb' 0 8) (x.extractLsb' 8 8) = x := by
  apply BitVec.eq_of_toNat_eq
  simp only [halfOf, toNat_append_eq, BitVec.extractLsb'_toNat, Nat.shiftRight_eq_div_pow]
  omega

@[simp] theorem wordOf_wordBytes (x : Word) :
    wordOf (x.extractLsb' 0 8) (x.extractLsb' 8 8) (x.extractLsb' 16 8) (x.extractLsb' 24 8) = x := by
  apply BitVec.eq_of_toNat_eq
  simp only [wordOf, toNat_append_eq, BitVec.extractLsb'_toNat, Nat.shiftRight_eq_div_pow]
  omega

/-! ### Fields of a payload (R186) -/

theorem siteSetFieldsOf_bytes (f : SiteSetFields) : siteSetFieldsOf f.bytes = f := by
  simp [siteSetFieldsOf, SiteSetFields.bytes, wordBytes, byteAt, wordAt]

/-- A vector of four by its entries. -/
theorem four_entries {α : Type} (v : Vector α 4) : v = #v[v[0], v[1], v[2], v[3]] := by
  ext i hi
  interval_cases i <;> rfl

/-- A vector of six by its entries. -/
theorem six_entries {α : Type} (v : Vector α 6) : v = #v[v[0], v[1], v[2], v[3], v[4], v[5]] := by
  ext i hi
  interval_cases i <;> rfl

theorem byteAt_append_right (xs ys : List Byte) {n : Nat} (hn : xs.length = n) (i : Nat) :
    byteAt (xs ++ ys) (n + i) = byteAt ys i := by
  simp only [byteAt, List.getD_eq_getElem?_getD]
  rw [List.getElem?_append_right (by omega), hn, Nat.add_sub_cancel_left]

/-- The bytes of a row of chunks of one length, followed by more: those of the k-th chunk. -/
theorem byteAt_chunks {α : Type} {w : Nat} {g : α → List Byte} (hg : ∀ a, (g a).length = w) (rest : List Byte) :
    ∀ (xs : List α) (k : Nat) (hk : k < xs.length) (j : Nat), j < w →
      byteAt ((xs.map g).flatten ++ rest) (w * k + j) = byteAt (g xs[k]) j
  | x :: xs, 0, _, j, hj => by
    simp only [byteAt, List.map_cons, List.flatten_cons, List.append_assoc, Nat.mul_zero, Nat.zero_add, List.getElem_cons_zero,
      List.getD_eq_getElem?_getD]
    rw [List.getElem?_append_left (by rw [hg]; exact hj)]
  | x :: xs, k + 1, hk, j, hj => by
    have ih := byteAt_chunks hg rest xs k (by simpa using hk) j hj
    simp only [byteAt, List.map_cons, List.flatten_cons, List.append_assoc, List.getElem_cons_succ,
      List.getD_eq_getElem?_getD] at ih ⊢
    rw [List.getElem?_append_right (by rw [hg, Nat.mul_succ]; omega), hg, Nat.mul_succ,
      show w * k + w + j - w = w * k + j by omega, ih]

/-- The same for a row of chunks with bytes before it. -/
theorem byteAt_row {α : Type} {n w m : Nat} {g : α → List Byte} (hg : ∀ a, (g a).length = w) {front : List Byte} (hf : front.length = m)
    (rest : List Byte) (v : Vector α n) (k : Fin n) (j : Nat) (hj : j < w) :
    byteAt (front ++ ((v.toList.map g).flatten ++ rest)) (m + (w * k.val + j)) = byteAt (g v[k]) j := by
  rw [byteAt_append_right _ _ hf, byteAt_chunks hg rest v.toList k.val (by simp) j hj]
  simp

theorem wordAt_eq {p : List Byte} {i : Nat} {x : Word} (h : ∀ j, j < 4 → byteAt p (i + j) = byteAt (wordBytes x) j) : wordAt p i = x := by
  have h0 : byteAt p i = _ := h 0 (by decide)
  rw [wordAt, h0, h 1 (by decide), h 2 (by decide), h 3 (by decide)]
  exact wordOf_wordBytes x

theorem halfAt_eq {p : List Byte} {i : Nat} {x : Half} (h : ∀ j, j < 2 → byteAt p (i + j) = byteAt (halfBytes x) j) : halfAt p i = x := by
  have h0 : byteAt p i = _ := h 0 (by decide)
  rw [halfAt, h0, h 1 (by decide)]
  exact halfOf_halfBytes x

theorem maskFieldsOf_bytes (f : MaskFields) : maskFieldsOf f.bytes = f := by
  obtain ⟨slot, count, vertices⟩ := f
  refine congrArg (MaskFields.mk slot count) (Vector.ext fun i hi => ?_)
  have hrow (j : Nat) (hj : j < 6) : byteAt (MaskFields.bytes ⟨slot, count, vertices⟩) (2 + (6 * i + j)) =
      byteAt (wordBytes vertices[i].offset ++ halfBytes vertices[i].limit) j := by
    have h := byteAt_row (w := 6) (g := fun v : VertexFields => wordBytes v.offset ++ halfBytes v.limit) (fun _ => rfl)
      (front := [slot, count]) rfl [] vertices ⟨i, hi⟩ j hj
    rw [List.append_nil] at h
    exact h
  rw [Vector.getElem_ofFn, wordAt_eq (x := vertices[i].offset) fun j hj => ?offset,
    halfAt_eq (x := vertices[i].limit) fun j hj => ?limit]
  case offset =>
    rw [Nat.add_assoc, hrow j (by omega)]
    interval_cases j <;> rfl
  case limit =>
    rw [show 6 + 6 * i + j = 2 + (6 * i + (4 + j)) by omega, hrow (4 + j) (by omega)]
    interval_cases j <;> rfl

theorem planFieldsOf_bands (f : PlanFields) (i : Nat) (hi : i < 6) :
    halfAt f.bytes (3 + 4 * i) = f.bands[i].target ∧ halfAt f.bytes (5 + 4 * i) = f.bands[i].minimum := by
  have hrow (j : Nat) (hj : j < 4) : byteAt f.bytes (3 + (4 * i + j)) =
      byteAt (halfBytes f.bands[i].target ++ halfBytes f.bands[i].minimum) j := by
    have h := byteAt_row (m := 3) (w := 4) (g := fun b : BandFields => halfBytes b.target ++ halfBytes b.minimum) (fun _ => rfl)
      (front := [f.slot, f.startBand, f.stopBand]) rfl (wordBytes f.maxDuration ++
      [f.earlyStop] ++ halfBytes f.snapshot ++ halfBytes f.margin ++ [f.maskPresent, f.mask, f.jitterCount] ++
      (f.jitter.toList.map fun b => wordBytes b.fLo ++ wordBytes b.fHi ++ wordBytes b.limit).flatten ++ [f.spurPresent] ++
      halfBytes f.spurThreshold ++ halfBytes f.spurLimit ++ [f.spurReport, f.tolerancePresent] ++ wordBytes f.tolerance)
      f.bands ⟨i, hi⟩ j hj
    simp only [PlanFields.bytes, List.append_assoc] at h ⊢
    exact h
  refine ⟨halfAt_eq fun j hj => ?_, halfAt_eq fun j hj => ?_⟩
  · rw [Nat.add_assoc, hrow j (by omega)]
    interval_cases j <;> rfl
  · rw [show 5 + 4 * i + j = 3 + (4 * i + (2 + j)) by omega, hrow (2 + j) (by omega)]
    interval_cases j <;> rfl

theorem flatten_length {α : Type} {w : Nat} {g : α → List Byte} (hg : ∀ a, (g a).length = w) (xs : List α) :
    ((xs.map g).flatten).length = w * xs.length := by
  induction xs with
  | nil => rfl
  | cons x xs ih => rw [List.map_cons, List.flatten_cons, List.length_append, hg, ih, List.length_cons, Nat.mul_succ, Nat.add_comm]

theorem planFieldsOf_jitter (f : PlanFields) (i : Nat) (hi : i < 4) : wordAt f.bytes (39 + 12 * i) = f.jitter[i].fLo ∧
    wordAt f.bytes (43 + 12 * i) = f.jitter[i].fHi ∧ wordAt f.bytes (47 + 12 * i) = f.jitter[i].limit := by
  have hlen := flatten_length (w := 4) (g := fun b : BandFields => halfBytes b.target ++ halfBytes b.minimum) (fun _ => rfl)
    f.bands.toList
  have hrow (j : Nat) (hj : j < 12) : byteAt f.bytes (39 + (12 * i + j)) =
      byteAt (wordBytes f.jitter[i].fLo ++ wordBytes f.jitter[i].fHi ++ wordBytes f.jitter[i].limit) j := by
    have h := byteAt_row (m := 39) (w := 12) (g := fun b : JitterFields => wordBytes b.fLo ++ wordBytes b.fHi ++ wordBytes b.limit)
      (fun _ => rfl) (front := [f.slot, f.startBand, f.stopBand] ++
      (f.bands.toList.map fun b => halfBytes b.target ++ halfBytes b.minimum).flatten ++ wordBytes f.maxDuration ++
      [f.earlyStop] ++ halfBytes f.snapshot ++ halfBytes f.margin ++ [f.maskPresent, f.mask, f.jitterCount])
      (by simp only [List.length_append, hlen, Vector.length_toList]; rfl)
      ([f.spurPresent] ++ halfBytes f.spurThreshold ++ halfBytes f.spurLimit ++ [f.spurReport, f.tolerancePresent] ++
      wordBytes f.tolerance) f.jitter ⟨i, hi⟩ j hj
    simp only [PlanFields.bytes, List.append_assoc] at h ⊢
    exact h
  refine ⟨wordAt_eq fun j hj => ?_, wordAt_eq fun j hj => ?_, wordAt_eq fun j hj => ?_⟩
  · rw [Nat.add_assoc, hrow j (by omega)]
    interval_cases j <;> rfl
  · rw [show 43 + 12 * i + j = 39 + (12 * i + (4 + j)) by omega, hrow (4 + j) (by omega)]
    interval_cases j <;> rfl
  · rw [show 47 + 12 * i + j = 39 + (12 * i + (8 + j)) by omega, hrow (8 + j) (by omega)]
    interval_cases j <;> rfl

theorem planFieldsOf_bytes (f : PlanFields) : planFieldsOf f.bytes = f := by
  have hbands : (Vector.ofFn fun k : Fin 6 => BandFields.mk (halfAt f.bytes (3 + 4 * k.val)) (halfAt f.bytes (5 + 4 * k.val))) = f.bands :=
    Vector.ext fun i hi => by
      obtain ⟨h1, h2⟩ := planFieldsOf_bands f i hi
      rw [Vector.getElem_ofFn, h1, h2]
  have hjitter : (Vector.ofFn fun k : Fin 4 =>
      JitterFields.mk (wordAt f.bytes (39 + 12 * k.val)) (wordAt f.bytes (43 + 12 * k.val)) (wordAt f.bytes (47 + 12 * k.val))) = f.jitter :=
    Vector.ext fun i hi => by
      obtain ⟨h1, h2, h3⟩ := planFieldsOf_jitter f i hi
      rw [Vector.getElem_ofFn, h1, h2, h3]
  rw [planFieldsOf, hbands, hjitter]
  have h6 : f.bands.toList = [f.bands[0], f.bands[1], f.bands[2], f.bands[3], f.bands[4], f.bands[5]] := by
    conv_lhs => rw [six_entries f.bands]
    rfl
  have h4 : f.jitter.toList = [f.jitter[0], f.jitter[1], f.jitter[2], f.jitter[3]] := by
    conv_lhs => rw [four_entries f.jitter]
    rfl
  simp [PlanFields.bytes, wordBytes, halfBytes, byteAt, wordAt, halfAt, h6, h4]

theorem calStartFieldsOf_bytes (f : CalStartFields) : calStartFieldsOf ([f.lane, f.kind] ++ f.ranges.toList) = f := by
  refine congrArg (CalStartFields.mk f.lane f.kind) (Vector.ext fun i hi => ?_)
  rw [Vector.getElem_ofFn, byteAt_append_right (n := 2) _ _ rfl]
  simp [byteAt, hi]

theorem bins_bytes (v : Vector Byte 9) : (Vector.ofFn fun k : Fin 9 => byteAt v.toList k.val) = v :=
  Vector.ext fun i hi => by
    rw [Vector.getElem_ofFn]
    simp [byteAt, hi]

/-! ### Requests (R186) -/

theorem planFields_length (f : PlanFields) : f.bytes.length = 98 := by
  have hbands := flatten_length (w := 4) (g := fun b : BandFields => halfBytes b.target ++ halfBytes b.minimum) (fun _ => rfl)
    f.bands.toList
  have hjitter := flatten_length (w := 12) (g := fun b : JitterFields => wordBytes b.fLo ++ wordBytes b.fHi ++ wordBytes b.limit)
    (fun _ => rfl) f.jitter.toList
  simp only [PlanFields.bytes, List.length_append, hbands, hjitter, Vector.length_toList]
  rfl

theorem maskFields_length (f : MaskFields) : f.bytes.length = 98 := by
  have hrow := flatten_length (w := 6) (g := fun v : VertexFields => wordBytes v.offset ++ halfBytes v.limit) (fun _ => rfl)
    f.vertices.toList
  simp only [MaskFields.bytes, List.length_append, hrow, Vector.length_toList]
  rfl

/-- Every request has the payload length of its kind (R186). -/
theorem payloadLength_kind (r : Request) : payloadLength r.kind = some r.payload.length := by
  cases r with
  | planPut f => rw [show (Request.planPut f).payload = f.bytes from rfl, planFields_length]; rfl
  | maskPut f => rw [show (Request.maskPut f).payload = f.bytes from rfl, maskFields_length]; rfl
  | binmapPut v => rw [show (Request.binmapPut v).payload = v.toList from rfl, Vector.length_toList]; rfl
  | calStart f =>
    rw [show (Request.calStart f).payload = [f.lane, f.kind] ++ f.ranges.toList from rfl, List.length_append,
      Vector.length_toList]
    rfl
  | _ => rfl

/-- The payload of a request spells it (R186). -/
theorem requestOf_payload (r : Request) : requestOf r.kind r.payload = some r := by
  cases r with
  | siteSet f => exact congrArg (fun f => some (Request.siteSet f)) (siteSetFieldsOf_bytes f)
  | planPut f => exact congrArg (fun f => some (Request.planPut f)) (planFieldsOf_bytes f)
  | maskPut f => exact congrArg (fun f => some (Request.maskPut f)) (maskFieldsOf_bytes f)
  | binmapPut v => exact congrArg (fun v => some (Request.binmapPut v)) (bins_bytes v)
  | calStart f => exact congrArg (fun f => some (Request.calStart f)) (calStartFieldsOf_bytes f)
  | jobRead j => exact congrArg (fun j => some (Request.jobRead j)) (halfOf_halfBytes j)
  | jobAbort s v => exact congrArg (fun v => some (Request.jobAbort s v)) (halfOf_halfBytes v)
  | snapTake l j => exact congrArg (fun j => some (Request.snapTake l j)) (halfOf_halfBytes j)
  | snapRead l j b => exact congrArg (fun j => some (Request.snapRead l j b)) (halfOf_halfBytes j)
  | resultRead j p => exact congrArg (fun j => some (Request.resultRead j p)) (halfOf_halfBytes j)
  | resultRelease j => exact congrArg (fun j => some (Request.resultRelease j)) (halfOf_halfBytes j)
  | _ => rfl

/-- The frame that carries a request decodes to it (R174, R184, R186). -/
theorem decodeFrame_frame (r : Request) (tag : Byte) : decodeFrame (r.frame tag) = .request r := by
  unfold decodeFrame
  rw [show (r.frame tag).kind = r.kind from rfl, show (r.frame tag).payload = r.payload from rfl, payloadLength_kind]
  simp only [if_true, requestOf_payload]

theorem frame_wf (r : Request) (tag : Byte) : (r.frame tag).wf = true := by
  refine decide_eq_true ?_
  show r.payload.length ≤ 250
  cases r with
  | planPut f => exact (planFields_length f).trans_le (by decide)
  | maskPut f => exact (maskFields_length f).trans_le (by decide)
  | binmapPut v => exact (Vector.length_toList (xs := v)).trans_le (by decide)
  | calStart f => simp [Request.payload]
  | _ => exact Nat.le_of_ble_eq_true rfl

/-! ### Bytes and bits on the line (R169) -/

theorem bit_toNat (b : Byte) (k : Nat) : (if b.getLsbD k then 1 else 0) = b.toNat / 2 ^ k % 2 := by
  rw [BitVec.getLsbD, Nat.testBit_eq_decide_div_mod_eq]
  have := Nat.mod_two_eq_zero_or_one (b.toNat / 2 ^ k)
  split <;> simp_all

theorem receiveBits_byteBits (b : Byte) : receiveBits (byteBits b) = some (.byte b) := by
  have hn : numberOfBits ((List.range 8).map fun k => b.getLsbD k) = b.toNat := by
    have hb := b.isLt
    simp only [List.range_eq_range', List.range', List.map_cons, List.map_nil, numberOfBits, bit_toNat]
    omega
  show some (LineEvent.byte (BitVec.ofNat 8 (numberOfBits ((List.range 8).map fun k => b.getLsbD k)))) = _
  rw [hn, BitVec.ofNat_toNat, BitVec.setWidth_eq]

/-- Ten bits to a byte, the bits of a run of bytes reach the decoder as the bytes do. -/
theorem runBits_bits : ∀ (bs : List Byte) (d : Decoder), d.runBits (bs.map byteBits).flatten bs.length = d.run bs
  | [], _ => rfl
  | b :: bs, d => by
    have hlen : (byteBits b).length = 10 := by simp [byteBits]
    simp only [List.map_cons, List.flatten_cons, List.length_cons, Decoder.runBits, Decoder.run]
    rw [List.take_left' hlen, List.drop_left' hlen, receiveBits_byteBits]
    simp only [runBits_bits bs]

/-! ### The assembly of a frame (R170) -/

/-- The bytes of a frame after its sync, up to the last, leave the decoder assembling, and the last one completes it. -/
theorem run_assembling {len : Nat} (hlen : len ≤ 250) : ∀ (bs got : List Byte), bs ≠ [] → (byteAt (got ++ bs) 0).toNat = len →
    got.length + bs.length = len + 5 → checkFrame (got ++ bs) ≠ .nothing →
    (Decoder.assembling got).run bs = (.hunting, [checkFrame (got ++ bs)])
  | b :: bs, got, _, h0, hl, hc => by
    have happ : got ++ b :: bs = (got ++ [b]) ++ bs := by simp
    have hfirst : (byteAt (got ++ [b]) 0).toNat = len := by
      rw [← h0]
      cases got <;> rfl
    have hgot : (got ++ [b]).length = got.length + 1 := by simp
    simp only [List.length_cons] at hl
    rw [Decoder.run, Decoder.feed]
    dsimp only
    rw [hfirst, if_neg (by omega), hgot]
    by_cases hnil : bs = []
    · subst hnil
      rw [if_pos (by simpa using hl)]
      simp only [Decoder.run, if_neg hc]
    · have : bs.length ≠ 0 := by simpa using hnil
      rw [if_neg (by omega)]
      simp only [if_true]
      rw [run_assembling hlen bs (got ++ [b]) hnil (by rw [← happ]; exact h0) (by rw [hgot]; omega) (by rw [← happ]; exact hc),
        ← happ]

/-- A frame's check fits what it covers (R170, R184). -/
theorem checkFrame_covered {f : Frame} (h : f.payload.length ≤ 250) : checkFrame (f.covered ++ checkBytes f.covered) = .good f := by
  have hlen : (BitVec.ofNat 8 f.payload.length).toNat = f.payload.length := by rw [BitVec.toNat_ofNat]; omega
  simp only [Frame.covered, checkFrame, List.cons_append, hlen, List.drop_left, List.take_left, if_true]

/-- A frame's bytes leave a hunting decoder hunting, with that good frame (R170, R184). -/
theorem run_frame {f : Frame} (h : f.wf = true) : Decoder.run .hunting f.bytes = (.hunting, [.good f]) := by
  have hlen : f.payload.length ≤ 250 := of_decide_eq_true h
  have hc := checkFrame_covered hlen
  have hrun := run_assembling hlen (f.covered ++ checkBytes f.covered) [] (by simp [Frame.covered])
    (by show (BitVec.ofNat 8 f.payload.length).toNat = _; rw [BitVec.toNat_ofNat]; omega)
    (by simp [Frame.covered, checkBytes]) (by rw [List.nil_append, hc]; nofun)
  rw [List.nil_append, hc] at hrun
  rw [Frame.bytes, Decoder.run]
  simp only [Decoder.feed, if_true, hrun]

/-- Settles O3: payloads spell their requests, and the decoder takes a frame's bytes, and its bits ten to a byte. -/
theorem requestFramesDecode : Obligations.RequestFramesDecode := by
  refine ⟨fun r tag => ⟨frame_wf r tag, decodeFrame_frame r tag⟩, fun f h => ⟨run_frame h, ?_⟩, fun b => ⟨rfl,
    receiveBits_byteBits b, rfl⟩⟩
  rw [Frame.bits, runBits_bits, run_frame h]

end Sys2Proof

/-! PROOFS. The step, the request rows and the resets: O1, O4, O12 and O60. -/

namespace Sys2Proof.Machine

/-- Settles O1: the two branches of the step. -/
theorem stepRunsFrontCommand : Obligations.StepRunsFrontCommand := by
  refine ⟨fun c rest s h => by rw [step, h], fun s h => ⟨s.tick, by rw [step, h], rfl, fun i => ?_, rfl⟩⟩
  have hsite : s.tick.site i = (s.site i).tick := by simp [State.tick, State.site]
  exact hsite

/-- Settles O4: each row's meaning is the arrival of its frame. -/
theorem requestRowsAreGoodFrames : Obligations.RequestRowsAreGoodFrames := by
  intro c h r s hr
  cases c <;> cases hr <;> rfl

/-- Settles O12: power-on reset leaves what `State.powerOnReset` writes out. -/
theorem powerOnReset : Obligations.PowerOnReset := by
  intro s
  refine ⟨s.powerOnReset, rfl, fun i => ?_, rfl, rfl, rfl, rfl, rfl, rfl, rfl, rfl, rfl, fun l => ?_, rfl, rfl, rfl, rfl, rfl, rfl⟩
  · simp [State.site, State.powerOnReset, State.reset]
  · simp [State.lane, State.powerOnReset, State.reset]

/-- Settles O60: the reset state is a part at rest. -/
theorem resetIsSound : Obligations.ResetIsSound := by
  have hrest : State.reset.AtRest := powerOnReset_atRest State.reset
  have hmask (m : MaskId) : State.reset.masks[m] = none := by simp [State.reset]
  have hplan (p : PlanId) : State.reset.plans[p] = none := by simp [State.reset]
  refine ⟨⟨rfl, rfl, fun h => nomatch h⟩, ⟨Nat.zero_le _, Nat.zero_le _, fun _ => rfl, rfl, fun _ => ⟨rfl, rfl, rfl, fun h => absurd rfl h⟩,
    fun h => nomatch h⟩, sitesSound_at_reset rfl, ⟨rfl, rfl⟩, ⟨fun p q hq => ?_, fun m vs hvs => ?_⟩, ?_,
    (atRest_tabled (P := True) hrest).1, (atRest_tabled hrest).2 trivial, atRest_lanesSound hrest, atRest_matrixSound hrest,
    atRest_reservedSound hrest, ⟨rfl, fun j hj => absurd hj List.not_mem_nil, fun _ _ _ j hj => absurd hj List.not_mem_nil⟩⟩
  · rw [hplan] at hq
    cases hq
  · rw [hmask] at hvs
    cases hvs
  · exact ⟨CoefSet.default_sound, CoefSet.default_sound, rfl, fun h => absurd rfl h⟩

end Sys2Proof.Machine

/-! PROOFS. The link port: what the close of an event makes of it, and that every step keeps its record sound (R168 to R178). -/

namespace Sys2Proof.Machine

/-! ### What the close of an event leaves of the line -/

/-- From `s` to `t` the line stands, and a port in SEARCH gets no notice due (R177). -/
structure Silent (s t : State) : Prop where
  line : t.line = s.line
  notice : s.port.isLocked = false → t.port.noticeDue = s.port.noticeDue

section
variable {s t u : State}

theorem Silent.refl (s : State) : Silent s s := ⟨rfl, fun _ => rfl⟩

theorem Silent.trans (h : Silent s t) (g : Silent t u) : Silent s u :=
  ⟨g.line.trans h.line, fun hs => (g.notice ((isLocked_of_line h.line).trans hs)).trans (h.notice hs)⟩

theorem Touch.silent (h : Touch s t) : Silent s t := ⟨h.line, h.notice⟩

theorem Silent.of_port (hl : t.line = s.line) (hp : t.port = s.port) : Silent s t := ⟨hl, fun _ => by rw [hp]⟩

theorem foldl_port {α : Type} (f : State → α → State) (h : ∀ s a, (f s a).port = s.port) (xs : List α) (s : State) :
    (xs.foldl f s).port = s.port := by
  induction xs generalizing s with
  | nil => rfl
  | cons x xs ih => rw [List.foldl_cons, ih, h]

theorem assign_port (s : State) (c : List Job) : (s.assign c).port = s.port :=
  foldl_port (fun (s : State) (x : Job × LaneId) => s.assignOne x.1 x.2) (fun _ _ => rfl) _ s

theorem serveHead_silent (s : State) (c : List Job) : Silent s (s.serveHead c).1 := by
  unfold State.serveHead
  dsimp only
  split
  · split
    · exact .of_port (assign_line s c) (assign_port s c)
    · exact .of_port rfl rfl
  split
  · exact (Silent.of_port (s := s) (t := s.reserve) rfl rfl).trans (raise_touch _ _).silent
  split
  · exact (raise_touch _ _).silent
  · exact (Silent.of_port (s := s) (t := s.unreserve) rfl rfl).trans (raise_touch _ _).silent

theorem takeHead_silent (s : State) (c : List Job) : Silent s (s.takeHead c) := by
  unfold State.takeHead
  split
  · exact .refl s
  · exact .of_port rfl rfl

theorem reconsiderWith_silent (fuel : Nat) (s : State) : Silent s (State.reconsiderWith fuel s) := by
  induction fuel generalizing s with
  | zero => exact .refl s
  | succ fuel ih =>
    unfold State.reconsiderWith
    split
    · exact .of_port rfl rfl
    next c _ =>
    have ht := takeHead_silent s c
    dsimp only
    split
    · exact (ht.trans (endJobs_touch _ _ _).silent).trans (ih _)
    split
    · exact (ht.trans (serveHead_silent _ c)).trans (ih _)
    · exact ht.trans (serveHead_silent _ c)

theorem arbitrate_silent (s : State) : Silent s s.arbitrate := by
  unfold State.arbitrate
  split
  · exact (reconsiderWith_silent _ s).trans (.of_port rfl rfl)
  · exact .refl s

/-- What an event's close does before the transmitter goes on. -/
theorem finishing_silent (s : State) : Silent s s.startGangs.arbitrate := (startGangs_touch s).silent.trans (arbitrate_silent _)

theorem close_port (s s₀ : State) : (s.close s₀).port = s.startGangs.arbitrate.settlePort.port := rfl

/-- The transmitter after the close of an event that leaves a reply in hand in LOCKED (R176). -/
theorem close_transmitter {s : State} {rate : Rate} {h : InHand} (hl : s.port.link = .locked rate) (hh : s.port.inHand = some h)
    (s₀ : State) : (s.close s₀).port.transmitter =
      if s.port.transmitter = .idle then .reply rate h.frame else s.port.transmitter := by
  rw [close_port]
  have hline := (finishing_silent s).line
  have hl' := (congrArg Line.link hline).trans hl
  have hh' := (congrArg Line.inHand hline).trans hh
  have ht' : s.startGangs.arbitrate.port.transmitter = s.port.transmitter := congrArg Line.transmitter hline
  generalize s.startGangs.arbitrate = u at hl' hh' ht'
  unfold State.settlePort
  have hl' : u.port.link = .locked rate := hl'
  have hh' : u.port.inHand = some h := hh'
  rw [hl', ht']
  cases htr : s.port.transmitter with
  | idle => simp [State.beginFrame, hh']
  | reply r f => simp [ht', htr]
  | notice r f => simp [ht', htr]

/-! ### A sound port -/

/-- The port record in the middle of an event: as between events, but that the transmitter may have something to begin. -/
structure Port.underway (p : Port) : Prop where
  queue_le : p.queue.length ≤ 4
  badCount_le : p.badCount ≤ 7
  queue_nil : p.inHand = none → p.queue = []
  replies : p.replyMatches = true
  search : p.link = .search → p.badCount = 0 ∧ p.queue = [] ∧ p.noticeDue = false ∧ (p.inHand ≠ none → p.replying = true)

theorem Port.sound.underway {p : Port} (h : p.sound) : p.underway := by
  obtain ⟨h1, h2, h3, h4, h5, -⟩ := h
  exact ⟨h1, h2, h3, h4, h5⟩

theorem isLocked_eq_false {p : Port} : p.isLocked = false ↔ p.link = .search := by
  unfold Port.isLocked
  cases p.link <;> simp

theorem Silent.underway (h : Silent s t) (hs : s.port.underway) : t.port.underway := by
  have hl : t.port.link = s.port.link := congrArg Line.link h.line
  have hb : t.port.badCount = s.port.badCount := congrArg Line.badCount h.line
  have hq : t.port.queue = s.port.queue := congrArg Line.queue h.line
  have hi : t.port.inHand = s.port.inHand := congrArg Line.inHand h.line
  have ht : t.port.transmitter = s.port.transmitter := congrArg Line.transmitter h.line
  obtain ⟨h1, h2, h3, h4, h5⟩ := hs
  refine ⟨by rw [hq]; exact h1, by rw [hb]; exact h2, by rw [hi, hq]; exact h3, ?_, fun hsearch => ?_⟩
  · rw [Port.replyMatches, ht, hi]
    exact h4
  · rw [hl] at hsearch
    obtain ⟨g1, g2, g3, g4⟩ := h5 hsearch
    rw [hb, hq, h.notice (isLocked_eq_false.2 hsearch), hi, Port.replying, ht]
    exact ⟨g1, g2, g3, g4⟩

/-- The transmitter goes on to what waits, and the port is sound (R176, R178). -/
theorem settlePort_sound (h : s.port.underway) : s.settlePort.port.sound := by
  obtain ⟨h1, h2, h3, h4, h5⟩ := h
  unfold State.settlePort
  split
  · next rate hl ht =>
    unfold State.beginFrame
    split
    · next x hx =>
      exact ⟨h1, h2, h3, by simp [Port.replyMatches, hx], fun hs => by simp [hl] at hs, nofun⟩
    next hx =>
    split
    · dsimp only
      split
      · exact ⟨h1, h2, h3, by simp [Port.replyMatches, ht], fun hs => by simp [hl] at hs, fun _ _ => ⟨hx, rfl⟩⟩
      · exact ⟨h1, h2, h3, rfl, fun hs => by simp [hl] at hs, nofun⟩
    · next hn => exact ⟨h1, h2, h3, h4, h5, fun _ _ => ⟨hx, by simpa using hn⟩⟩
  · next hno =>
    refine ⟨h1, h2, h3, h4, h5, fun hl ht => ?_⟩
    cases hlink : s.port.link with
    | search => simp [Port.isLocked, hlink] at hl
    | locked rate => exact (hno rate hlink ht).elim

theorem close_portSound (h : s.port.underway) (s₀ : State) : (s.close s₀).port.sound :=
  settlePort_sound ((finishing_silent s).underway h)

/-! ### The events on the line keep the port sound -/

/-- A taken frame is in hand, and its reply waits for the transmitter (R174, R176). -/
theorem take_underway {f : Frame} (hq : s.port.queue.length ≤ 4) (hb : s.port.badCount ≤ 7) (hl : s.port.isLocked = true)
    (ht : s.port.replying = false) : (s.take f).port.underway where
  queue_le := by rw [take_eq]; show (s.answer f).1.port.queue.length ≤ 4; rw [answer_queue]; exact hq
  badCount_le := by rw [take_eq]; show (s.answer f).1.port.badCount ≤ 7; rw [answer_badCount]; exact hb
  queue_nil := nofun
  replies := by
    show Port.replyMatches { (s.answer f).1.port with inHand := _ } = true
    rw [Port.replying] at ht
    rw [Port.replyMatches, answer_transmitter]
    cases htr : s.port.transmitter <;> simp_all
  search h := by
    have : s.port.link = .search := by rw [take_eq] at h; rw [← answer_link s f]; exact h
    rw [isLocked_eq_false.2 this] at hl
    cases hl

/-- A transmitter that sends a reply has it in hand (R168). -/
theorem replying_inHand {p : Port} (h : p.replyMatches = true) (hi : p.inHand = none) : p.replying = false := by
  unfold Port.replyMatches at h
  unfold Port.replying
  cases ht : p.transmitter <;> simp_all

/-- The head of the queue is taken where no request is in hand (R174). -/
theorem takeNext_underway (hq : s.port.queue.length ≤ 4) (hb : s.port.badCount ≤ 7) (hr : s.port.replyMatches = true)
    (hs : s.port.link = .search → s.port.badCount = 0 ∧ s.port.queue = [] ∧ s.port.noticeDue = false ∧
      (s.port.inHand ≠ none → s.port.replying = true)) : s.takeNext.port.underway := by
  unfold State.takeNext
  split
  · next f rest hi hqe =>
    refine take_underway ?_ hb ?_ (replying_inHand hr hi)
    · rw [hqe, List.length_cons] at hq
      exact Nat.le_of_succ_le hq
    · cases hl : s.port.isLocked with
      | true => exact hl
      | false =>
        obtain ⟨-, hnil, -⟩ := hs (isLocked_eq_false.1 hl)
        rw [hqe] at hnil
        cases hnil
  · next hno =>
    refine ⟨hq, hb, fun hi => ?_, hr, hs⟩
    cases hqe : s.port.queue with
    | nil => rfl
    | cons f rest => exact (hno f rest hi hqe).elim

theorem joinQueue_length {q : List Frame} (h : q.length ≤ 4) (f : Frame) : (joinQueue q f).length ≤ 4 := by
  unfold joinQueue Config.queuePlaces
  split
  · rw [List.length_append]; simpa using by omega
  · exact h

theorem offer_underway {f : Frame} (h : s.port.underway) (hl : s.port.isLocked = true) : (s.offer f).port.underway :=
  takeNext_underway (s := { s with port := { s.port with badCount := 0, queue := joinQueue s.port.queue f } })
    (joinQueue_length h.queue_le f) (Nat.zero_le _) h.replies fun hs => by
      rw [isLocked_eq_false.2 (show s.port.link = .search from hs)] at hl; cases hl

theorem arrive_underway {rate : Rate} {f : Frame} (h : s.port.underway) : (s.arrive rate f).port.underway := by
  unfold State.arrive
  split
  · next hs =>
    obtain ⟨-, hq, -, hr⟩ := h.search hs
    exact offer_underway ⟨h.queue_le, Nat.zero_le _, h.queue_nil, h.replies, nofun⟩ rfl
  · next r hl =>
    split
    · exact offer_underway h (by rw [Port.isLocked, hl])
    · exact h

theorem softReset_underway (s : State) : s.softReset.port.underway :=
  ⟨Nat.zero_le _, Nat.zero_le _, fun _ => rfl, rfl, fun _ => ⟨rfl, rfl, rfl, fun h => absurd rfl h⟩⟩

theorem toSearch_underway {p : Port} (h : p.underway) : p.toSearch.underway where
  queue_le := Nat.zero_le _
  badCount_le := Nat.zero_le _
  queue_nil _ := rfl
  replies := by
    have := h.replies
    cases ht : p.transmitter <;> simp_all [Port.replyMatches, Port.toSearch, Port.replying]
  search _ := ⟨rfl, rfl, rfl, fun hi => by
    by_contra hr
    exact hi (if_neg hr)⟩

theorem brokenFrame_underway {rate : Rate} (h : s.port.underway) : (s.brokenFrame rate).port.underway := by
  unfold State.brokenFrame
  split
  · exact h
  next r hl =>
  split
  · split
    · exact ⟨h.queue_le, by show s.port.badCount + 1 ≤ 7; omega, h.queue_nil, h.replies, fun hs => by
        rw [show s.port.link = .search from hs] at hl; cases hl⟩
    · unfold State.returnToSearch
      dsimp only
      split
      · exact softReset_underway _
      · exact toSearch_underway h
  · exact h

theorem transmitEnd_underway (h : s.port.underway) : s.transmitEnd.port.underway := by
  unfold State.transmitEnd
  split
  · exact h
  · next ht =>
    refine ⟨h.queue_le, h.badCount_le, h.queue_nil, rfl, fun hs => ?_⟩
    obtain ⟨h1, h2, h3, h4⟩ := h.search hs
    refine ⟨h1, h2, h3, fun hi => ?_⟩
    have := h4 hi
    rw [Port.replying, ht] at this
    cases this
  · unfold State.replySent
    split
    · exact softReset_underway s
    · refine takeNext_underway h.queue_le h.badCount_le rfl fun hs => ?_
      obtain ⟨h1, h2, h3, -⟩ := h.search hs
      exact ⟨h1, h2, h3, fun hi => absurd rfl hi⟩

/-- What an event does to a sound port before its close. -/
theorem effectOf_underway (c : Instr) (h : s.port.underway) : (effectOf c s).port.underway := by
  by_cases hc : c = .powerOnReset
  · subst hc
    exact ⟨Nat.zero_le _, Nat.zero_le _, fun _ => rfl, rfl, fun _ => ⟨rfl, rfl, rfl, fun h => absurd rfl h⟩⟩
  cases hl : onLine c with
  | false => exact (effectOf_touch hl hc s).silent.underway h
  | true =>
    cases c with
    | badFrame rate x => exact brokenFrame_underway h
    | frameGapTimeout rate => exact brokenFrame_underway h
    | frameTransmitEnd => exact transmitEnd_underway h
    | goodFrame rate f => exact arrive_underway h
    | _ => first | exact arrive_underway h | cases hl

/-- Settles O54: each event leaves a port under way, and the close of the event lets the transmitter go on. -/
theorem stepKeepsPortSound : Obligations.StepKeepsPortSound := by
  intro s t hs h
  unfold step at h
  split at h
  · cases h
    exact hs
  next c rest _ =>
  rw [exec_eq_close] at h
  cases h
  exact close_portSound (effectOf_underway (s := { s with pending := rest }) c (Port.sound.underway hs)) _

end

end Sys2Proof.Machine

/-! PROOFS. The link port's obligations: good and broken frames, the end of a transmission, the event sets, RESET and the
requests that only read (R170 to R183). -/

namespace Sys2Proof.Machine

section
variable {s t u : State}

/-! ### A settled port -/

/-- A port that is locked but has nothing to begin leaves a settled state settled. -/
theorem settled_of_port (hs : s.settled) {p : Port} (hp : p.settled) : (s.withPort p).settled := ⟨hs.1, hs.2.1, hp⟩

theorem withPort_close (hs : s.settled) {p : Port} (hp : p.settled) (s₀ : State) (hr : s.results ⊆ s₀.results) :
    (s.withPort p).close s₀ = s.withPort p := close_settled (settled_of_port hs hp) hr

/-- Settled with a request in hand, the port is transmitting (R176). -/
theorem Port.settled.busy {p : Port} (h : p.settled) (hl : p.isLocked = true) (hi : p.inHand ≠ none) : p.transmitter ≠ .idle :=
  fun ht => hi (h hl ht).1

/-! ### O5: good frames that lock, wait or are dropped -/

theorem takeNext_link (s : State) : s.takeNext.port.link = s.port.link := by
  unfold State.takeNext
  split
  · rw [take_eq]
    exact answer_link _ _
  · rfl

theorem takeNext_badCount (s : State) : s.takeNext.port.badCount = s.port.badCount := by
  unfold State.takeNext
  split
  · rw [take_eq]
    exact answer_badCount _ _
  · rfl

theorem takeNext_of_inHand (h : s.port.inHand ≠ none) : s.takeNext = s := by
  unfold State.takeNext
  split
  · next hi _ => exact absurd hi h
  · rfl

/-- Settles O5: the three ways of a good frame that is not taken from a free port. -/
theorem goodFrameLocksWaitsOrIsDropped : Obligations.GoodFrameLocksWaitsOrIsDropped := by
  refine ⟨fun rate f s hs => ?_, fun rate other f s hs hl => ⟨fun hi => ?_, fun ho => ?_⟩⟩
  · have harrive : s.arrive rate f = (s.lock rate).offer f := by rw [State.arrive, hs]
    have hlocked : (s.lock rate).arrive rate f = (s.lock rate).offer f := by simp [State.arrive, State.lock]
    refine ⟨congrArg (fun u : State => Host.Outcome.next (u.close s)) (harrive.trans hlocked.symm),
      (s.arrive rate f).close s, rfl, ?_, ?_⟩
    · rw [close_link, harrive]
      exact takeNext_link _
    · rw [close_badCount, harrive]
      exact takeNext_badCount _
  · have harrive : s.arrive rate f =
        s.withPort { s.port with badCount := 0, queue := if s.port.queue.length < 4 then s.port.queue ++ [f] else s.port.queue } := by
      have : s.arrive rate f = s.offer f := by simp [State.arrive, hl]
      rw [this]
      exact takeNext_of_inHand (s := s.withPort { s.port with badCount := 0, queue := joinQueue s.port.queue f }) hi
    refine congrArg Host.Outcome.next (Eq.trans (congrArg (State.close · s) harrive) (withPort_close hs ?_ s (List.Subset.refl _)))
    exact hs.2.2
  · have harrive : s.arrive other f = s := by simp [State.arrive, hl, Ne.symm ho]
    exact congrArg Host.Outcome.next (Eq.trans (congrArg (State.close · s) harrive) (close_settled hs (List.Subset.refl _)))

/-! ### O6 and O7: frames that are taken at once -/

theorem status_code_le (st : Status) : st.code.toNat ≤ 7 := by cases st <;> decide

/-- The first byte of a reply is its status code (R174). -/
theorem payload_cons (r : Reply) (n : Nat) : ∃ rest, r.payload n = r.status.code :: rest := ⟨_, rfl⟩

/-- Settles O6: the frame is in hand with its answer, and an idle transmitter begins it. -/
theorem goodFrameIsTaken : Obligations.GoodFrameIsTaken := by
  intro rate f s hs hl
  have harrive := arrive_of_listens hl f
  obtain ⟨rest, hrest⟩ := payload_cons (s.cleared.answer f).2 s.replies
  obtain ⟨hlink, -, -⟩ := hl
  refine ⟨(s.arrive rate f).close s, (s.cleared.answer f).2.status.code, rest, rfl, status_code_le _, ?_, ?_, ?_, ?_, ?_, ?_⟩
  all_goals rw [harrive, take_eq]
  · rw [close_link]; exact (answer_link _ _).trans hlink
  · rw [close_badCount]; exact answer_badCount _ _
  · rw [close_queue]; exact answer_queue _ _
  · rw [close_inHand, holding_inHand, answer_replies, ← hrest]; rfl
  · rw [close_replies]; exact congrArg (· + 1) (answer_replies _ _)
  · have htr : ((s.cleared.answer f).1.holding f.kind f.tag (s.cleared.answer f).2).port.transmitter = s.port.transmitter :=
      answer_transmitter _ _
    rw [close_transmitter (s := (s.cleared.answer f).1.holding f.kind f.tag (s.cleared.answer f).2)
      ((answer_link _ _).trans hlink) (holding_inHand _ _ _ _), answer_replies, cleared_replies, hrest, htr]
    rfl

theorem payloadLength_unknown (kind : Byte) (h : 0x7F ≤ kind.toNat) : payloadLength kind = none := by
  unfold payloadLength
  split <;> try omega
  rfl

/-- A frame that no block takes up is answered with a status, and changes nothing behind the port (R174). -/
theorem frame_refused {rate : Rate} {f : Frame} {st : Status} (hs : s.settled) (hl : s.listens rate)
    (ha : s.cleared.answer f = refuseWith st s.cleared) : ∃ t, exec (.goodFrame rate f) s = .next t ∧
      t.answered f.kind f.tag (.refuse st) s.replies ∧ t.behindPort = s.behindPort := by
  refine ⟨(s.arrive rate f).close s, rfl, ?_, ?_⟩
  all_goals rw [arrive_of_listens hl, take_eq, ha]
  · rw [State.answered, close_inHand]
    rfl
  · exact close_behindPort (s := s.cleared.holding f.kind f.tag (.refuse st)) hs.1 hs.2.1 (List.Subset.refl _)

/-- Settles O7: the first two steps of R174. -/
theorem unknownAndMalformedFrames : Obligations.UnknownAndMalformedFrames := by
  refine ⟨payloadLength_unknown, fun rate f s hs hl => ⟨fun hk => frame_refused hs hl ?_, fun n hk hn => frame_refused hs hl ?_⟩⟩
  · have : decodeFrame f = .unknown := by rw [decodeFrame, hk]
    rw [State.answer, this]
  · have : decodeFrame f = .malformed := by rw [decodeFrame, hk]; exact if_neg hn
    rw [State.answer, this]

/-! ### O8: broken frames -/

/-- Settles O8: the branches of R171 and R172. -/
theorem brokenFramesCountToSearch : Obligations.BrokenFramesCountToSearch := by
  intro c rate s hc hs
  have hexec : exec c s = .next ((s.brokenFrame rate).close s) := by
    rcases hc with rfl | ⟨x, rfl⟩ <;> rfl
  rw [hexec]
  refine ⟨fun hl => ?_, fun hl hb => ?_, fun hl hb hr => ?_⟩
  · have : s.brokenFrame rate = s := by
      unfold State.brokenFrame
      split
      · rfl
      · next r hr => exact if_neg fun h => hl (by rw [hr, h])
    rw [this, close_settled hs (List.Subset.refl _)]
  · have : s.brokenFrame rate = s.withPort { s.port with badCount := s.port.badCount + 1 } := by
      simp [State.brokenFrame, hl, hb, State.withPort]
    rw [this]
    exact congrArg Host.Outcome.next
      (withPort_close (p := { s.port with badCount := s.port.badCount + 1 }) hs hs.2.2 s (List.Subset.refl _))
  · have hreset : (s.port.resetInHand && !s.port.replying) = false := by rcases hr with h | h <;> simp [h]
    have : s.brokenFrame rate = s.withPort s.port.toSearch := by
      simp [State.brokenFrame, hl, hb, State.returnToSearch, hreset, State.withPort]
    rw [this]
    exact congrArg Host.Outcome.next
      (withPort_close (p := s.port.toSearch) hs (fun h => by cases h) s (List.Subset.refl _))

/-! ### O9: the end of a transmission -/

theorem replying_iff {p : Port} : p.replying = true ↔ ∃ r f, p.transmitter = .reply r f := by
  unfold Port.replying
  cases p.transmitter <;> simp

/-- A transmitter that sends no reply and is not idle sends a notice (R168). -/
theorem transmitEnd_notice (ht : s.port.transmitter ≠ .idle) (hr : s.port.replying = false) :
    s.transmitEnd = s.withPort { s.port with transmitter := .idle } := by
  unfold State.transmitEnd
  split
  · next h => exact absurd h ht
  · rfl
  · next h => rw [Port.replying, h] at hr; cases hr

theorem transmitEnd_reply (hr : s.port.replying = true) : s.transmitEnd = s.replySent := by
  obtain ⟨r, f, h⟩ := replying_iff.1 hr
  rw [State.transmitEnd, h]

/-- What an idle transmitter makes of a port with no request in hand (R176, R178). -/
theorem beginFrame_free {rate : Rate} (hi : s.port.inHand = none) : s.beginFrame rate = s.withPort
    (if s.port.noticeDue = false then s.port
      else if s.events.pending &&& s.events.mask = 0 then { s.port with noticeDue := false }
      else { s.port with noticeDue := false, transmitter := .notice rate ⟨0x7F, 0, (s.events.pending &&& s.events.mask) ::
        wordBytes s.timebase.uptime⟩ }) := by
  unfold State.beginFrame
  rw [hi]
  by_cases hn : s.port.noticeDue = false
  · rw [if_pos hn]
    simp only [hn, Bool.false_eq_true, if_false]
    rfl
  · rw [if_neg hn]
    simp only [Bool.not_eq_false _ ▸ hn, if_true, Events.due]
    by_cases hd : s.events.pending &&& s.events.mask = 0
    · rw [if_pos hd]
      exact if_pos hd
    · rw [if_neg hd]
      exact if_neg hd

/-- A frame taken with an idle transmitter begins its reply at the close of the event (R174, R176). -/
theorem take_close {rate : Rate} (hl : u.port.link = .locked rate) (ht : u.port.transmitter = .idle) (g : Frame) (s₀ : State) :
    ∃ p, ((u.take g).close s₀).port.queue = u.port.queue ∧ ((u.take g).close s₀).port.inHand = some ⟨g.kind, g.tag, p⟩ ∧
      ((u.take g).close s₀).port.transmitter = .reply rate ⟨replyKind g.kind, g.tag, p⟩ := by
  refine ⟨_, (close_queue _ _).trans (answer_queue u g), close_inHand _ _, ?_⟩
  refine (close_transmitter (s := u.take g) ((answer_link u g).trans hl) rfl s₀).trans ?_
  exact if_pos ((answer_transmitter u g).trans ht)

/-- Settles O9: the transmitter is idle at the end of its frame, and goes on to what waits. -/
theorem transmissionEnds : Obligations.TransmissionEnds := by
  intro rate s hrec hgang hl ht hreset
  have hexec : exec .frameTransmitEnd s = .next (s.transmitEnd.close s) := rfl
  have sent (hr : s.port.replying = true) : s.transmitEnd = (s.withPort { s.port with inHand := none, transmitter := .idle }).takeNext := by
    rw [transmitEnd_reply hr, State.replySent, if_neg (by rw [hreset hr]; nofun)]
    rfl
  have idle {p : Port} (hpl : p.link = .locked rate) (hpt : p.transmitter = .idle) :
      (s.withPort p).close s = (s.withPort p).beginFrame rate := by
    rw [close_of_settled (s := s.withPort p) (s₀ := s) hrec hgang (List.Subset.refl _), State.settlePort]
    show (match p.link, p.transmitter with
      | .locked rate, .idle => (s.withPort p).beginFrame rate
      | _, _ => s.withPort p) = _
    rw [hpl, hpt]
  rw [hexec]
  refine ⟨fun g rest hr hq => ?_, fun h hr hi => ?_, fun hcase => ?_⟩
  · have htake : s.transmitEnd = (s.withPort { s.port with inHand := none, transmitter := .idle, queue := rest }).take g := by
      rw [sent hr]
      simp [State.takeNext, State.withPort, hq]
    obtain ⟨p, hp⟩ := take_close (u := s.withPort { s.port with inHand := none, transmitter := .idle, queue := rest }) hl rfl g s
    exact ⟨_, p, rfl, htake ▸ hp⟩
  · rw [transmitEnd_notice ht hr]
    refine congrArg Host.Outcome.next ((idle (p := { s.port with transmitter := .idle }) hl rfl).trans ?_)
    simp [State.beginFrame, State.withPort, hi, InHand.frame]
  · have hfree : s.transmitEnd = s.withPort { s.port with inHand := none, transmitter := .idle } := by
      rcases hcase with ⟨hr, hq⟩ | ⟨hr, hi⟩
      · rw [sent hr]
        simp [State.takeNext, State.withPort, hq]
      · rw [transmitEnd_notice ht hr, ← hi]
    rw [hfree]
    refine congrArg Host.Outcome.next ((idle (p := { s.port with inHand := none, transmitter := .idle }) hl rfl).trans ?_)
    exact beginFrame_free (s := s.withPort { s.port with inHand := none, transmitter := .idle }) rfl

end

end Sys2Proof.Machine

/-! PROOFS. The event sets, RESET, and the requests that only read (R177 to R183). -/

namespace Sys2Proof.Machine

section
variable {s t u : State}

/-! ### Notice due over a request -/

theorem settlePort_noticeDue (h : s.port.inHand ≠ none) : s.settlePort.port.noticeDue = s.port.noticeDue := by
  unfold State.settlePort
  split
  · unfold State.beginFrame
    split
    · rfl
    · next hn => exact absurd hn h
  · rfl

/-- A request carried out quietly in a settled state leaves notice due to its own effect: its reply goes first (R176, R178). -/
theorem request_noticeDue {h : Header} {r : Request} {reply : Reply} (hs : s.settled) (hl : s.listens h.rate)
    (hc : s.cleared.carryOut r = (u.cleared, reply)) (hq : State.Quiet s u) :
    (s.request h r).port.noticeDue = u.port.noticeDue := by
  obtain ⟨hrec, hgang, -⟩ := hs
  rw [request_of_listens (decodeFrame_frame r h.tag) hl, hc]
  have hclose := close_of_settled (s := u.cleared.holding r.kind h.tag reply) (s₀ := s) (hq.reconsider.trans hrec)
    (hq.startingMembers.trans hgang) hq.results
  exact (congrArg (fun x => x.port.noticeDue) hclose).trans (settlePort_noticeDue (Option.some_ne_none _))

/-! ### O10: the event sets -/

/-- Settles O10: the raise of a kind, and the two requests on the sets. -/
theorem eventSetsChange : Obligations.EventSetsChange := by
  refine ⟨fun k s => ⟨fun hp => if_pos hp, fun hp => if_neg (not_not.2 hp)⟩, fun h kinds s hs hl => ⟨?_, ?_⟩⟩
  · let u : State := { s with
      events := { s.events with mask := kinds }
      port := { s.port with
        noticeDue := s.port.noticeDue || decide (s.events.pending &&& kinds &&& ~~~s.events.mask ≠ 0) } }
    have hq : State.Quiet s u := ⟨rfl, rfl, List.Subset.refl _⟩
    have hc : s.cleared.carryOut (.eventsMask kinds) = (u.cleared, .ok [some kinds, some s.events.pending]) := rfl
    obtain ⟨hans, hbehind⟩ := request_of_quiet hs hl (decodeFrame_frame _ h.tag) hc hq
    exact ⟨_, rfl, hans, request_noticeDue (u := u) hs hl hc hq, hbehind⟩
  · let u : State := { s with events := { s.events with pending := s.events.pending &&& ~~~kinds } }
    have hq : State.Quiet s u := ⟨rfl, rfl, List.Subset.refl _⟩
    have hc : s.cleared.carryOut (.eventsClear kinds) = (u.cleared, .ok [some (s.events.pending &&& ~~~kinds)]) := rfl
    obtain ⟨hans, hbehind⟩ := request_of_quiet hs hl (decodeFrame_frame _ h.tag) hc hq
    exact ⟨_, rfl, hans, request_noticeDue (u := u) hs hl hc hq, hbehind⟩

/-! ### O11: RESET -/

/-- The request in hand is RESET's, answered OK (R183). -/
theorem resetInHand_of {p : Port} {tag : Byte} (h : p.inHand = some ⟨0x05, tag, [0]⟩) : p.resetInHand = true := by
  rw [Port.resetInHand, h]
  rfl

/-- Settles O11: at the end of the reply, and at the return to SEARCH that discards it. -/
theorem resetTakesEffectAfterReply : Obligations.ResetTakesEffectAfterReply := by
  refine ⟨fun h s hs hl => ?_, fun s tag hi hr => ?_, fun s tag rate cause hi hr hl hb => ?_⟩
  · exact ⟨_, rfl, request_of_quiet hs hl (decodeFrame_frame .reset h.tag) rfl (.refl s)⟩
  · have hsent : s.transmitEnd = s.softReset := by rw [transmitEnd_reply hr, State.replySent, if_pos (resetInHand_of hi)]
    exact congrArg Host.Outcome.next ((congrArg (State.close · s) hsent).trans (softReset_close s s))
  · have hback : s.brokenFrame rate = (s.withPort s.port.toSearch).softReset := by
      simp [State.brokenFrame, hl, hb, State.returnToSearch, resetInHand_of hi, hr, State.withPort]
    have hclose := (congrArg (State.close · s) hback).trans (softReset_close _ s)
    exact ⟨congrArg Host.Outcome.next hclose, congrArg Host.Outcome.next hclose⟩

/-! ### O13: requests that only read -/

/-- Where the port stands when a request is carried out, and the count of replies, do not change what it answers. -/
theorem carryOut_cleared (s : State) {r : Request} (h : readsOnly r = true) : (s.cleared.carryOut r).2 = (s.carryOut r).2 := by
  cases r with
  | ident | status | refRead | binmapGet | resultList => rfl
  | siteRead a =>
    show (s.cleared.siteRead a).2 = (s.siteRead a).2
    unfold State.siteRead
    split <;> rfl
  | planGet a =>
    show (s.cleared.planGet a).2 = (s.planGet a).2
    dsimp only [State.planGet, State.cleared]
    repeat' split
    all_goals rfl
  | maskGet a =>
    show (s.cleared.maskGet a).2 = (s.maskGet a).2
    dsimp only [State.maskGet, State.cleared]
    repeat' split
    all_goals rfl
  | jobRead v =>
    show (s.cleared.jobRead v).2 = (s.jobRead v).2
    dsimp only [State.jobRead, State.job?, State.cleared]
    split <;> rfl
  | snapRead a v b =>
    show (s.cleared.snapRead a v b).2 = (s.snapRead a v b).2
    have ht : s.cleared.snapTarget = s.snapTarget := rfl
    unfold State.snapRead
    rw [ht]
    repeat' split
    all_goals rfl
  | resultRead v b =>
    show (s.cleared.resultRead v b).2 = (s.resultRead v b).2
    have hj : s.cleared.job? = s.job? := rfl
    unfold State.resultRead
    rw [hj]
    repeat' split
    all_goals rfl
  | calRead a =>
    show (s.cleared.calRead a).2 = (s.calRead a).2
    unfold State.calRead
    split <;> rfl
  | _ => cases h

/-- Each row carries its request (R186). -/
theorem exec_row {c : Instr} {h : Header} {r : Request} (hr : requestOfRow c = some (h, r)) (s : State) :
    exec c s = .next (s.request h r) := requestRowsAreGoodFrames c h r s hr

/-- Settles O13: a request that only reads leaves the state, and the close of the event sends its reply. -/
theorem readRequestsChangeNothing : Obligations.ReadRequestsChangeNothing := by
  intro c h r s hr hread hs hl
  have hc : s.cleared.carryOut r = (s.cleared, (s.carryOut r).2) :=
    Prod.ext (carryOut_readsOnly _ hread) (carryOut_cleared s hread)
  obtain ⟨hans, hbehind⟩ := request_of_quiet hs hl (decodeFrame_frame r h.tag) hc (.refl s)
  exact ⟨_, exec_row hr s, hans, request_noticeDue hs hl hc (.refl s), hbehind⟩

end

end Sys2Proof.Machine

/-! PROOFS. The lengths of replies, and bytes of them at their offsets (R181, R185, R187 to R189). -/

namespace Sys2Proof.Machine

/-! ### Lengths of fields (R185) -/

@[simp] theorem one_length (b : Byte) : (one b).length = 1 := rfl
@[simp] theorem u8_length (n : Nat) : (u8 n).length = 1 := rfl
@[simp] theorem flag_length (b : Bool) : (flag b).length = 1 := rfl
@[simp] theorem u16_length (n : Nat) : (u16 n).length = 2 := rfl
@[simp] theorem u32_length (n : Nat) : (u32 n).length = 4 := rfl
@[simp] theorem word32_length (w : Word) : (word32 w).length = 4 := rfl
@[simp] theorem s16_length (x : Int) : (s16 x).length = 2 := rfl
@[simp] theorem s32_length (x : Int) : (s32 x).length = 4 := rfl
@[simp] theorem undefinedBytes_length (n : Nat) : (undefinedBytes n).length = n := List.length_replicate

/-- An optional field takes a presence flag and its length (R185). -/
theorem optField_length {α : Type} {n : Nat} {f : α → Fields} (h : ∀ x, (f x).length = n) (x : Option α) :
    (optField n f x).length = n + 1 := by
  cases x with
  | none => simp [optField, Nat.add_comm]
  | some a => simp [optField, h, Nat.add_comm]

theorem orUndefined_length {α : Type} {n : Nat} {f : α → Fields} (h : ∀ x, (f x).length = n) (x : Option α) :
    (orUndefined n f x).length = n := by
  cases x with
  | none => simp [orUndefined]
  | some a => exact h a

theorem chunks_length {α : Type} {w : Nat} {g : α → Fields} (hg : ∀ a, (g a).length = w) (xs : List α) :
    ((xs.map g).flatten).length = w * xs.length := by
  induction xs with
  | nil => rfl
  | cons x xs ih => rw [List.map_cons, List.flatten_cons, List.length_append, hg, ih, List.length_cons, Nat.mul_succ, Nat.add_comm]

@[simp] theorem payload_length (r : Reply) (n : Nat) : (r.payload n).length = r.fields.length + 1 := by
  simp [Reply.payload, Nat.add_comm]

/-! ### Lengths of replies (R187 to R189) -/

theorem countRecord_length (c : CountRecord) : c.fields.length = 10 := by
  have herror := optField_length (n := 4) s32_length c.error
  simp only [CountRecord.fields, List.length_append, herror, word32_length, one_length]

theorem supplyConfig_length (c : SupplyConfig) : c.fields.length = 8 := by simp [SupplyConfig.fields]

theorem site_length (i : SiteId) (x : Site) : (x.fields i).length = 49 := by
  have hstaged := optField_length (n := 9) (f := fun c : SupplyConfig => SupplyConfig.fields c ++ u8 c.retryLimit)
    (fun c => by simp [supplyConfig_length]) x.staged
  have hcount := optField_length countRecord_length x.lastCount
  have hreading := optField_length (n := 2) s16_length x.levelReading
  have hflag := optField_length (n := 1) (f := fun f => one (LevelFlag.code f)) (fun _ => rfl) x.levelFlag
  simp only [Site.fields, List.length_append, supplyConfig_length, hstaged, hcount, hreading, hflag, u8_length, flag_length,
    u32_length, one_length, word32_length]

theorem timebase_length (t : Timebase) : t.fields.length = 25 := by
  have hoffset := optField_length (n := 4) s32_length t.lastOffset
  have hholdover := optField_length (n := 4) u32_length t.holdover
  simp only [Timebase.fields, List.length_append, hoffset, hholdover, word32_length, one_length, u8_length, flag_length]

theorem recountBlock_length (j : Job) : j.recountBlock.length = 11 := optField_length countRecord_length _

theorem latchedBlock_length (j : Job) : j.latchedBlock.length = 11 := optField_length (fun _ => by simp [Coef.fields]) _

theorem countsBlock_length (j : Job) : j.countsBlock.length = 25 :=
  optField_length (fun v => by
    rw [chunks_length (w := 4) (fun b => by simp), Vector.length_toList]) _

theorem sharedBlocks_length (j : Job) : j.sharedBlocks.length = 47 := by
  simp [Job.sharedBlocks, recountBlock_length, latchedBlock_length, countsBlock_length]

theorem gangFields_length (g : Option (List Nat)) : (gangFields g).length = 9 := by
  rw [gangFields, List.length_append, chunks_length (w := 2) (fun _ => rfl)]
  rfl

theorem job_length (j : Job) : j.fields.length = 81 := by
  have hlane := optField_length (n := 1) (f := fun l : LaneId => u8 l.val) (fun _ => rfl) j.lane
  have hduration := optField_length (n := 4) u32_length j.duration
  have hreason := optField_length (n := 1) (f := fun r => one (EndReason.code r)) (fun _ => rfl) j.reason
  have hresult := optField_length (n := 2) (f := fun r : Result => one (Verdict.code r.verdict) ++ u8 r.bin.val) (fun _ => rfl) j.result
  simp only [Job.fields, List.length_append, gangFields_length, sharedBlocks_length, hlane, hduration, hreason, hresult,
    u16_length, u8_length, one_length, u32_length]

theorem summary_length (j : Job) (r : Result) : (j.summaryFields r).length = 77 := by
  have hcause := optField_length (n := 1) (f := fun c => one (Cause.code c)) (fun _ => rfl) r.cause
  have hduration := optField_length (n := 4) u32_length j.duration
  have hcriteria := optField_length (n := 4) (f := Criteria.outcomeFields) (fun _ => rfl) r.criteria
  have htally := orUndefined_length (n := 4) (f := fun c : Criteria => MaskTally.fields c.tally) (fun _ => rfl) r.criteria
  have hreason : j.reasonFields.length = 1 := orUndefined_length (n := 1) (f := fun r => one (EndReason.code r)) (fun _ => rfl) _
  simp only [Job.summaryFields, List.length_append, sharedBlocks_length, hcause, hduration, hcriteria, htally, hreason,
    u16_length, u8_length, one_length, flag_length]

theorem coefs_length (v : Vector Coef 8) : (coefFields v).length = 24 := by
  rw [coefFields, chunks_length (w := 3) (fun _ => rfl), Vector.length_toList]

theorem calRecord_length (x : CalRecord) : x.fields.length = 40 := by
  have hkind := orUndefined_length (n := 1) (f := fun k => one (CalKind.code k)) (fun _ => rfl) x.kind
  have hranges := orUndefined_length (n := 1) (f := fun _ : CalKind => one (rangeBits x.ranges)) (fun _ => rfl) x.kind
  have hservice := orUndefined_length (n := 1) (f := flag) (fun _ => rfl) x.outOfService
  have hstep := optField_length (n := 1) (f := fun r : RangeId => u8 (r.val + 1)) (fun _ => rfl) x.step
  have hstart := optField_length (n := 4) word32_length x.started
  have hend := optField_length (n := 4) word32_length x.ended
  have hresults := orUndefined_length (n := 8) (f := fun _ : CalKind => x.results.toList.map fun k => some (StepResult.code k))
    (fun _ => by simp) x.kind
  have hmeasured := chunks_length (w := 2) (g := orUndefined 2 s16) (orUndefined_length s16_length) x.measured.toList
  simp only [CalRecord.fields, List.length_append, hkind, hranges, hservice, hstep, hstart, hend, hresults, hmeasured,
    one_length, Vector.length_toList]

theorem rateFields_length (l : Link) : l.rateFields.length = 1 := by cases l <;> rfl

theorem lanesStatus_length (s : State) : ((s.lanes.toList.map fun x => one x.state.code ++ flag x.calPending).flatten).length = 8 := by
  rw [chunks_length (w := 2) (fun _ => rfl), Vector.length_toList]

theorem status_length (s : State) : s.status.2.fields.length = 42 := by
  simp only [State.status, Reply.ok, List.length_append, lanesStatus_length, rateFields_length, one_length, u8_length,
    flag_length, word32_length, List.length_map, Vector.length_toList]

theorem vertex_length (vs : List Vertex) (k : Nat) : (vertexFields vs k).length = 6 := by
  unfold vertexFields
  split <;> rfl

/-! A block's OK reply is one of its branches; the others are refused with another status. -/

theorem siteRead_length {s : State} {a : Byte} (h : (s.siteRead a).2.status = .ok) : (s.siteRead a).2.fields.length = 49 := by
  unfold State.siteRead at h ⊢
  split at h <;> simp_all [refuseWith, Reply.refuse, Reply.ok, site_length]

theorem planGet_length {s : State} {a : Byte} (h : (s.planGet a).2.status = .ok) : (s.planGet a).2.fields.length = 99 := by
  unfold State.planGet at h ⊢
  split
  · simp_all [refuseWith, Reply.refuse]
  split
  · simp_all [refuseWith, Reply.refuse]
  · simp [Reply.ok, planFields_length]

theorem maskGet_length {s : State} {a : Byte} (h : (s.maskGet a).2.status = .ok) : (s.maskGet a).2.fields.length = 99 := by
  unfold State.maskGet at h ⊢
  split
  · simp_all [refuseWith, Reply.refuse]
  split
  · simp_all [refuseWith, Reply.refuse]
  · next vs _ =>
    have := chunks_length (w := 6) (g := vertexFields vs) (vertex_length vs) (List.range 16)
    simp only [Reply.ok, List.length_append, this, List.length_range, u8_length, flag_length]

theorem jobRead_length {s : State} {v : Half} (h : (s.jobRead v).2.status = .ok) : (s.jobRead v).2.fields.length = 81 := by
  unfold State.jobRead at h ⊢
  split at h <;> simp_all [refuseWith, Reply.refuse, Reply.ok, job_length]

theorem resultRead_length {s : State} {v : Half} (h : (s.resultRead v 0).2.status = .ok) : (s.resultRead v 0).2.fields.length = 77 := by
  have hpart : resultPartOf 0 = some .summary := rfl
  unfold State.resultRead at h ⊢
  rw [hpart] at h ⊢
  dsimp only at h ⊢
  split
  · simp_all [refuseWith, Reply.refuse]
  split
  · simp_all [refuseWith, Reply.refuse]
  · next r _ => exact summary_length _ r

theorem calRead_length {s : State} {a : Byte} (h : (s.calRead a).2.status = .ok) : (s.calRead a).2.fields.length = 94 := by
  unfold State.calRead at h ⊢
  split
  · simp_all [refuseWith, Reply.refuse]
  · next l _ =>
    have hstored := optField_length (n := 24) (f := coefFields) coefs_length (if s.cal.valid then some s.cal.stored[l] else none)
    simp only [Reply.ok, List.length_append, hstored, calRecord_length, coefs_length, one_length, u8_length, flag_length]

/-! ### Bytes at their offsets -/

theorem getElem?_append_at {α : Type} (xs ys : List α) {n : Nat} (hn : xs.length = n) (k : Nat) : (xs ++ ys)[n + k]? = ys[k]? := by
  rw [List.getElem?_append_right (by omega), hn, Nat.add_sub_cancel_left]

/-- A field byte of a reply stands one place on, after the status byte (R187). -/
theorem payload_at {r : Reply} {k : Nat} {b : Byte} (h : r.fields[k]? = some (some b)) (n : Nat) : (r.payload n)[k + 1]? = some b := by
  simp [Reply.payload, one, h]

/-- The bytes of STATUS before the sites, the sites, the lanes, and what follows them (R182, R189). -/
theorem status_fields (s : State) : s.status.2.fields = one s.timebase.mode.code ++ one s.timebase.discipline.code ++
    ((s.sites.toList.map fun x => some x.state.code) ++
      ((s.lanes.toList.map fun x => one x.state.code ++ flag x.calPending).flatten ++
        (u8 (s.jobsIn .held) ++ u8 (s.jobsIn .queued) ++ u8 (s.jobsIn .tuning) ++ u8 (s.jobsIn .gangWait) ++
          u8 (s.jobsIn .acquiring) ++ u8 (s.jobsIn .evaluating) ++ u8 (s.jobsIn .done) ++ u8 s.freeSegments ++
          one s.events.pending ++ one s.events.mask ++ s.port.link.rateFields ++ flag s.inhibit ++ word32 s.now))) := by
  simp only [State.status, Reply.ok, List.append_assoc]

theorem status_site (s : State) (i : SiteId) : s.status.2.fields[2 + i.val]? = some (some (s.site i).state.code) := by
  rw [status_fields, getElem?_append_at (n := 2) _ _ (by simp), List.getElem?_append_left (by simp)]
  simp [State.site]

theorem status_lane (s : State) (l : LaneId) : s.status.2.fields[18 + 2 * l.val]? = some (some (s.lane l).state.code) ∧
    s.status.2.fields[19 + 2 * l.val]? = some (some (if (s.lane l).calPending then 1 else 0)) := by
  have hlanes : s.lanes.toList = [s.lanes[0], s.lanes[1], s.lanes[2], s.lanes[3]] := by
    conv_lhs => rw [four_entries s.lanes]
    rfl
  have skip (k : Nat) (hk : k < 8) : s.status.2.fields[18 + k]? =
      ((s.lanes.toList.map fun x => one x.state.code ++ flag x.calPending).flatten)[k]? := by
    rw [status_fields, show 18 + k = 2 + (16 + k) by omega, getElem?_append_at (n := 2) _ _ (by simp), getElem?_append_at (n := 16) _ _ (by simp),
      List.getElem?_append_left (by rw [lanesStatus_length]; exact hk)]
  rw [show 19 + 2 * l.val = 18 + (2 * l.val + 1) by omega, skip _ (by omega), skip _ (by omega), hlanes]
  fin_cases l <;> exact ⟨rfl, rfl⟩

theorem status_rest (s : State) (k : Nat) : s.status.2.fields[26 + k]? =
    (u8 (s.jobsIn .held) ++ u8 (s.jobsIn .queued) ++ u8 (s.jobsIn .tuning) ++ u8 (s.jobsIn .gangWait) ++
      u8 (s.jobsIn .acquiring) ++ u8 (s.jobsIn .evaluating) ++ u8 (s.jobsIn .done) ++ u8 s.freeSegments ++
      one s.events.pending ++ one s.events.mask ++ s.port.link.rateFields ++ flag s.inhibit ++ word32 s.now)[k]? := by
  rw [status_fields, show 26 + k = 2 + (16 + (8 + k)) by omega, getElem?_append_at (n := 2) _ _ (by simp), getElem?_append_at (n := 16) _ _ (by simp),
    getElem?_append_at _ _ (lanesStatus_length s)]

theorem status_head (s : State) : s.status.2.fields[0]? = some (some s.timebase.mode.code) ∧
    s.status.2.fields[1]? = some (some s.timebase.discipline.code) := by
  rw [status_fields]
  exact ⟨rfl, rfl⟩

/-- The counts, sets, rate and inhibit of a STATUS answered in LOCKED (R182, R189). -/
theorem status_tail {s : State} {rate : Rate} (hl : s.port.link = .locked rate) :
    s.status.2.fields[26]? = some (some (BitVec.ofNat 8 (s.jobsIn .held))) ∧
    s.status.2.fields[32]? = some (some (BitVec.ofNat 8 (s.jobsIn .done))) ∧
    s.status.2.fields[33]? = some (some (BitVec.ofNat 8 s.freeSegments)) ∧
    s.status.2.fields[34]? = some (some s.events.pending) ∧ s.status.2.fields[35]? = some (some s.events.mask) ∧
    s.status.2.fields[36]? = some (some (Rate.code rate)) ∧
    s.status.2.fields[37]? = some (some (if s.inhibit then 1 else 0)) := by
  have hrest := status_rest s
  rw [hl] at hrest
  exact ⟨hrest 0, hrest 6, hrest 7, hrest 8, hrest 9, hrest 10, hrest 11⟩

/-- The bytes of SITE_READ before the state, the state and its entry, and what follows them (R189). -/
theorem site_fields (i : SiteId) (x : Site) : ∃ front back, x.fields i = u8 i.val ++ front ++
    (one x.state.code ++ word32 x.entered ++ flag x.powerPending ++ u8 x.faultCount ++ back) ∧ front.length = 25 := by
  have hstaged := optField_length (n := 9) (f := fun c : SupplyConfig => SupplyConfig.fields c ++ u8 c.retryLimit)
    (fun c => by simp [supplyConfig_length]) x.staged
  refine ⟨flag x.configured ++ x.applied.supply.fields ++ u32 x.applied.warmUp ++ u8 x.applied.supply.retryLimit ++
    u8 x.applied.levelRange.val ++ optField 9 (fun c => SupplyConfig.fields c ++ u8 c.retryLimit) x.staged,
    optField 2 s16 x.levelReading ++ optField 1 (fun f => one (LevelFlag.code f)) x.levelFlag ++
      optField 10 CountRecord.fields x.lastCount, by simp only [Site.fields, List.append_assoc], ?_⟩
  simp only [List.length_append, hstaged, supplyConfig_length, flag_length, u32_length, u8_length]

theorem status_at (r : Reply) (n : Nat) : (r.payload n)[0]? = some r.status.code := by simp [Reply.payload, one]

/-- Settles O14: lengths reply by reply, and the named bytes behind what precedes them. -/
theorem replyLengthsAndBytes : Obligations.ReplyLengthsAndBytes := by
  refine ⟨fun s r n m hok hn => ?_, fun s m => ?_, fun s m rate hl => ?_, fun s m i => ?_⟩
  · rw [payload_length]
    cases r with
    | ident => cases hn; rfl
    | status => cases hn; exact congrArg (· + 1) (status_length s)
    | siteRead a => cases hn; exact congrArg (· + 1) (siteRead_length hok)
    | refRead => cases hn; exact congrArg (· + 1) (timebase_length s.timebase)
    | planGet a => cases hn; exact congrArg (· + 1) (planGet_length hok)
    | maskGet a => cases hn; exact congrArg (· + 1) (maskGet_length hok)
    | binmapGet =>
      cases hn
      show (s.binMap.toList.map _).length + 1 = 10
      rw [List.length_map, Vector.length_toList]
    | jobRead v => cases hn; exact congrArg (· + 1) (jobRead_length hok)
    | resultRead v part =>
      dsimp only at hn
      split at hn
      · next h0 =>
        cases hn
        subst h0
        exact congrArg (· + 1) (resultRead_length hok)
      · cases hn
    | calRead a => cases hn; exact congrArg (· + 1) (calRead_length hok)
    | _ => cases hn
  · have hrev := Config.revision.isLt
    have hletter : (BitVec.ofNat 8 (65 + Config.revision.val)).toNat = 65 + Config.revision.val := by
      rw [BitVec.toNat_ofNat]
      omega
    refine ⟨BitVec.ofNat 8 (65 + Config.revision.val), by omega, by omega, ?_⟩
    have hvalid : s.cal.valid = (s.cal.checkMatches && s.cal.image.isNone) := by
      unfold CalUnit.valid CalUnit.busy
      cases s.cal.image <;> rfl
    rw [← hvalid]
    rfl
  · intro p
    obtain ⟨hmode, hdiscipline⟩ := status_head s
    obtain ⟨hheld, hdone, hfree, hpending, hmask, hrate, hinhibit⟩ := status_tail hl
    have at_ {k : Nat} {b : Byte} (h : s.status.2.fields[k]? = some (some b)) : p[k + 1]? = some b := payload_at h m
    refine ⟨at_ hmode, at_ hdiscipline, fun i => ?_, fun l => ⟨?_, ?_⟩, at_ hheld, at_ hdone, at_ hfree, at_ hpending, at_ hmask,
      at_ hrate, at_ hinhibit⟩
    · rw [show 3 + i.val = 2 + i.val + 1 by omega]
      exact payload_at (status_site s i) m
    · rw [show 19 + 2 * l.val = 18 + 2 * l.val + 1 by omega]
      exact payload_at (status_lane s l).1 m
    · rw [show 20 + 2 * l.val = 19 + 2 * l.val + 1 by omega]
      exact payload_at (status_lane s l).2 m
  · intro p
    have hread : (s.carryOut (.siteRead (BitVec.ofNat 8 i.val))).2 = Reply.ok ((s.site i).fields i) := by
      show (s.siteRead _).2 = _
      rw [State.siteRead, codeBelow_site]
    obtain ⟨front, back, hfields, hfront⟩ := site_fields i (s.site i)
    have behind {k : Nat} {b : Byte} (h : (one (s.site i).state.code ++ word32 (s.site i).entered ++ flag (s.site i).powerPending ++
        u8 (s.site i).faultCount ++ back)[k]? = some (some b)) : p[26 + k + 1]? = some b := by
      refine payload_at (r := (s.carryOut (.siteRead (BitVec.ofNat 8 i.val))).2) ?_ m
      rw [hread]
      show ((s.site i).fields i)[26 + k]? = _
      rw [hfields, getElem?_append_at _ _ (by simp [hfront]), h]
    refine ⟨?_, ?_, behind (k := 0) rfl, behind (k := 5) rfl, behind (k := 6) rfl⟩
    · exact (status_at _ m).trans (by rw [hread]; rfl)
    · refine payload_at (r := (s.carryOut (.siteRead (BitVec.ofNat 8 i.val))).2) (k := 0) ?_ m
      rw [hread]
      rfl

end Sys2Proof.Machine

/-! PROOFS. The site requests that call nothing at the close of their event (SITE_SET, SITE_CLEAR; R3, R4, R15), and the timers
of a site channel (R8 to R22). -/

namespace Sys2Proof.Machine

section
variable {s t u : State}

/-! ### Rows that call nothing -/

/-- A request row whose request is carried out quietly in a settled state with a listening port (R174). -/
theorem row_of_quiet {c : Instr} {h : Header} {r : Request} {reply : Reply} (hr : requestOfRow c = some (h, r))
    (hs : s.settled) (hl : s.listens h.rate) (hc : s.cleared.carryOut r = (u.cleared, reply)) (hq : State.Quiet s u) :
    ∃ t, exec c s = .next t ∧ t.answered r.kind h.tag reply s.replies ∧ t.behindPort = u.behindPort :=
  ⟨_, exec_row hr s, request_of_quiet hs hl (decodeFrame_frame r h.tag) hc hq⟩

theorem row_of_refused {c : Instr} {h : Header} {r : Request} {st : Status} (hr : requestOfRow c = some (h, r))
    (hs : s.settled) (hl : s.listens h.rate) (hc : s.cleared.carryOut r = refuseWith st s.cleared) :
    ∃ t, exec c s = .next t ∧ t.answered r.kind h.tag (.refuse st) s.replies ∧ t.behindPort = s.behindPort :=
  row_of_quiet hr hs hl hc (.refl s)

/-- An event whose effect is a settled state without a new result: the close of the event leaves it. -/
theorem exec_of_settled {c : Instr} (he : effectOf c s = u) (hu : u.settled) (hr : u.results ⊆ s.results) :
    exec c s = .next u := by
  rw [exec_eq_close, he, close_settled hu hr]

theorem exec_of_setSite {c : Instr} {i : SiteId} {x : Site} (hs : s.settled) (he : effectOf c s = s.setSite i x) :
    exec c s = .next (s.setSite i x) := exec_of_settled he hs (List.Subset.refl _)

theorem exec_of_self {c : Instr} (hs : s.settled) (he : effectOf c s = s) : exec c s = .next s :=
  exec_of_settled he hs (List.Subset.refl _)

/-! ### O18: SITE_CLEAR -/

theorem codeBelow_none {n : Nat} {b : Byte} (h : n ≤ b.toNat) : codeBelow n b = none := codeBelow_eq_none_iff.2 h

theorem siteClear_latched {i : SiteId} (h : (s.site i).state = .faultLatched) : s.siteClear (BitVec.ofNat 8 i.val) =
    accept (s.setSite i { s.site i with state := .off, entered := s.now, faultCount := 0 }) := by
  rw [State.siteClear, codeBelow_site]
  exact if_pos h

theorem siteClear_wrong_state {i : SiteId} (h : (s.site i).state ≠ .faultLatched) :
    s.siteClear (BitVec.ofNat 8 i.val) = refuseWith .wrongState s := by
  rw [State.siteClear, codeBelow_site]
  exact if_neg h

theorem siteClear_out_of_range {b : Byte} (h : 15 < b.toNat) : s.siteClear b = refuseWith .outOfRange s := by
  rw [State.siteClear, codeBelow_none h]

theorem sitePower_out_of_range {b : Byte} (h : 15 < b.toNat) (code : Byte) :
    s.sitePower b code = refuseWith .outOfRange s := by
  rw [State.sitePower, codeBelow_none h]

/-- Settles O18: SITE_CLEAR at a latched site, at another site, and the numbers above 15. -/
theorem siteClearUnlatches : Obligations.SiteClearUnlatches := by
  intro h s hs hl
  refine ⟨fun i hi => ?_, fun i hi => ?_, fun b hb => ⟨?_, ?_, ?_⟩⟩
  · exact row_of_quiet (c := .siteClear h _) rfl hs hl (siteClear_latched (s := s.cleared) hi) (.setSite s i _)
  · exact row_of_refused (c := .siteClear h _) rfl hs hl (siteClear_wrong_state (s := s.cleared) hi)
  · exact row_of_refused (c := .siteClear h b) rfl hs hl (siteClear_out_of_range hb)
  · exact row_of_refused (c := .sitePowerOn h b) rfl hs hl (sitePower_out_of_range hb 1)
  · exact row_of_refused (c := .sitePowerOff h b) rfl hs hl (sitePower_out_of_range hb 0)

/-! ### O19: the timers of a site channel -/

theorem enterWarming_eq (x : Site) (now : Word) : x.enterWarming now = { x with
    state := if x.applied.warmUp = 0 then .checking else .warming
    entered := now
    timer := if x.applied.warmUp = 0 then .checkGate else .warmUp 0
    monitor := ⟨true, x.monitor.above, x.monitor.above⟩ } := by
  by_cases h : x.applied.warmUp = 0
  · simp only [Site.enterWarming, if_pos h, Site.enterChecking]
  · simp only [Site.enterWarming, if_neg h]

/-- Settles O19, timer by timer: each runs, has its effect, and leaves the rest. -/
theorem siteTimersExpire : Obligations.SiteTimersExpire := by
  intro s hs ramp
  refine ⟨fun hi => exec_of_settled (if_pos hi) hs (List.Subset.refl _), fun i => ?_⟩
  intro x
  refine ⟨fun ht => ?_, fun n ht => ?_, fun ht => ?_, fun ht => ?_⟩
  · rw [← enterWarming_eq]
    exact exec_of_setSite hs (if_pos ht)
  · exact exec_of_setSite hs (by show s.warmUpExpiry i = _; rw [State.warmUpExpiry, ht]; rfl)
  · exact exec_of_setSite hs (if_pos ht)
  · exact exec_of_setSite hs (if_pos ht)

/-! ### O15: SITE_SET -/

/-- The fields that R3 does not refuse are those that hold a configuration. -/
theorem siteConfigOf_legal {f : SiteSetFields} {c : SupplyConfig} {range : Fin 3} (hf : siteSetLegal f)
    (hcar : c.carrier = f.carrier.toNat) (hv : c.voltage.val = f.voltage.toNat) (hc : c.current.val = f.current.toNat)
    (hb : c.blanking.val = f.blanking.toNat) (hd : c.deglitch.val = f.deglitch.toNat)
    (hr : c.retryLimit = clampRetry f.retryLimit.toNat) (hl : range.val = f.levelRange.toNat) :
    siteConfigOf f = some ⟨c, clampWarmUp f.warmUp.toNat, range⟩ := by
  obtain ⟨-, hlow, hhigh, -⟩ := hf
  cases c
  subst hcar hr
  simp [siteConfigOf, codeBelow_of_val_eq hv, codeBelow_of_val_eq hc, codeBelow_of_val_eq hb, codeBelow_of_val_eq hd,
    codeBelow_of_val_eq hl, hlow, hhigh]

theorem siteSet_legal {f : SiteSetFields} {i : SiteId} {c : SiteConfig} (hi : i.val = f.site.toNat)
    (hc : siteConfigOf f = some c) :
    s.siteSet f = (s.setSite i ((s.site i).configure c s.now), Reply.ok (clampReport (siteClamps f))) := by
  rw [State.siteSet, codeBelow_of_val_eq hi, hc]

/-- A field that R3 refuses leaves no configuration or no site. -/
theorem siteSet_illegal {f : SiteSetFields} (hf : ¬siteSetLegal f) : s.siteSet f = refuseWith .outOfRange s := by
  unfold State.siteSet
  split
  · next i c hi hc =>
    refine absurd ?_ hf
    have below {n : Nat} {b : Byte} {k : Fin n} (h : codeBelow n b = some k) : b.toNat < n := by
      by_contra hn
      rw [codeBelow_none (Nat.not_lt.1 hn)] at h
      cases h
    simp only [siteConfigOf, Option.bind_eq_bind, Option.bind_eq_some_iff, Option.ite_none_right_eq_some] at hc
    obtain ⟨_, hv, _, hcur, _, hb, _, hd, _, hl, ⟨hlow, hhigh⟩, -⟩ := hc
    exact ⟨Nat.lt_succ_iff.1 (below hi), hlow, hhigh, Nat.lt_succ_iff.1 (below hv), Nat.lt_succ_iff.1 (below hcur),
      Nat.lt_succ_iff.1 (below hb), Nat.lt_succ_iff.1 (below hd), Nat.lt_succ_iff.1 (below hl)⟩
  · rfl

theorem appliesAtOnce_iff {st : SiteState} : st.appliesAtOnce = true ↔ st = .off ∨ st = .faultLatched := by
  cases st <;> simp [SiteState.appliesAtOnce]

theorem configure_atOnce {x : Site} (h : x.state = .off ∨ x.state = .faultLatched) (c : SiteConfig) (now : Word) :
    x.configure c now = { x with configured := true, applied := c, staged := none } := if_pos (appliesAtOnce_iff.2 h)

/-- A site that takes no configuration at once, with the configuration it holds until its next RAMP (R4, R19). -/
def Site.staging (x : Site) (c : SiteConfig) : Site := { x with
  applied := { x.applied with warmUp := c.warmUp, levelRange := c.levelRange }
  staged := some c.supply
  qualifying := if c.levelRange = x.applied.levelRange then x.qualifying else none }

theorem configure_staged {x : Site} (h : ¬(x.state = .off ∨ x.state = .faultLatched)) (c : SiteConfig) (now : Word) :
    x.configure c now = match x.timer with
      | .warmUp spent =>
        if c.warmUp ≠ x.applied.warmUp ∧ c.warmUp ≤ spent then
          { x.staging c with state := .checking, entered := now, timer := .checkGate }
        else x.staging c
      | _ => x.staging c := by
  rw [Site.configure, if_neg (mt appliesAtOnce_iff.1 h)]
  rfl

/-- The clamp report of SITE_SET as bytes (R3, R175). -/
theorem clampReport_siteClamps (f : SiteSetFields) :
    let ids : List Byte := (if clampWarmUp f.warmUp.toNat = f.warmUp.toNat then [] else [0x01]) ++
      (if clampRetry f.retryLimit.toNat = f.retryLimit.toNat then [] else [0x02])
    clampReport (siteClamps f) = some (BitVec.ofNat 8 ids.length) :: ids.map some := by
  unfold siteClamps
  by_cases hw : clampWarmUp f.warmUp.toNat = f.warmUp.toNat <;>
    by_cases hr : clampRetry f.retryLimit.toNat = f.retryLimit.toNat <;>
      simp only [hw, hr, if_true, if_false] <;> rfl

/-- Settles O15: the refusal, and the configuration stored at once or in part. -/
theorem siteSetAppliesOrStages : Obligations.SiteSetAppliesOrStages := by
  intro h f s hs hl
  refine ⟨fun hf => row_of_refused (c := .siteSet h f) rfl hs hl (siteSet_illegal hf), ?_⟩
  intro hf i c range warm hi hcar hv hcur hb hd hr hrange hwarm ids x atOnce later
  subst hwarm
  have hc := siteConfigOf_legal hf hcar hv hcur hb hd hr hrange
  have hids : clampReport (siteClamps f) = some (BitVec.ofNat 8 ids.length) :: ids.map some := by
    simp only [clampReport_siteClamps, ids, hr]
    rfl
  rw [← hids]
  refine row_of_quiet (c := .siteSet h f) (u := s.setSite i _) rfl hs hl ?_ (.setSite s i _)
  refine (siteSet_legal (s := s.cleared) hi hc).trans ?_
  refine congrArg (fun y => ((s.setSite i y).cleared, Reply.ok (clampReport (siteClamps f)))) ?_
  show x.configure _ s.now = _
  by_cases ho : x.state = .off ∨ x.state = .faultLatched
  · exact (configure_atOnce ho _ _).trans (if_pos ho).symm
  · exact (configure_staged ho _ _).trans (if_neg ho).symm

end

end Sys2Proof.Machine

/-! PROOFS. A site that is neither READY nor MEASURING gets no lane: no job end and no close of an event connects one to it
(R23, R62). -/

namespace Sys2Proof.Machine

section
variable {s t : State} {i : SiteId}

/-- A site between its visits to READY, with no lane connected to it. -/
def State.unlinked (s : State) (i : SiteId) : Prop :=
  (s.site i).state.selectable = false ∧ ∀ l : LaneId, (s.lane l).connected ≠ some i

/-- What carries a state and connects no lane to a site keeps the site unlinked. -/
theorem Carried.unlinked (h : Carried s t)
    (hl : ∀ l, (t.lane l).connected = some i → (s.lane l).connected = some i) (hs : s.unlinked i) : t.unlinked i :=
  ⟨by rw [(h.sites i).other hs.1]; exact hs.1, fun l hc => hs.2 l (hl l hc)⟩

theorem setLane_unlinked {l : LaneId} {x : Lane} (hx : x.connected = (s.lane l).connected) (hs : s.unlinked i) :
    (s.setLane l x).unlinked i := by
  refine ⟨hs.1, fun m => ?_⟩
  rw [State.setLane_lane]
  split
  · next h => subst h; rw [hx]; exact hs.2 _
  · exact hs.2 m

theorem moveLanes_unlinked (p q : LaneState) (hs : s.unlinked i) : (s.moveLanes p q).unlinked i := by
  refine (moveLanes_carried s p q).unlinked (fun l hl => ?_) hs
  simp only [State.lane, State.moveLanes, Fin.getElem_fin, Vector.getElem_map] at hl ⊢
  split at hl <;> exact hl

theorem raise_unlinked (k : EventKind) (hs : s.unlinked i) : (s.raise k).unlinked i :=
  (raise_carried s k).unlinked (fun l hl => by rwa [raise_lane] at hl) hs

theorem startGangs_unlinked (hs : s.unlinked i) : s.startGangs.unlinked i := by
  unfold State.startGangs
  generalize s.startingMembers = js
  induction js generalizing s with
  | nil => exact hs
  | cons j js ih =>
    refine ih ?_
    dsimp only
    split
    · exact setLane_unlinked rfl hs
    · exact hs

theorem releaseLane_unlinked (l : LaneId) (hs : s.unlinked i) : (s.releaseLane l).unlinked i := by
  have h := releaseLane_freed s l
  refine (releaseLane_carried s l).unlinked (fun m hm => ?_) hs
  by_cases hml : m = l
  · subst hml; rw [← h.connected]; exact hm
  · rw [← h.lane m hml]; exact hm

theorem releaseSite_unlinked (l : LaneId) (hs : s.unlinked i) : (s.releaseSite l).unlinked i := by
  refine (releaseSite_carried s l).unlinked (fun m hm => ?_) hs
  rw [releaseSite_lane] at hm
  split at hm
  · cases hm
  · exact hm

theorem endRecord_unlinked (e : EndReason) (j : Job) (hs : s.unlinked i) : (s.endRecord e j).unlinked i :=
  (endRecord_carried s e j).unlinked (fun m hm => by rwa [endRecord_lane] at hm) hs

theorem endTerminal_unlinked (e : EndReason) (n : Nat) (hs : s.unlinked i) : (s.endTerminal e n).unlinked i := by
  rcases endTerminal_cases e s n with h | ⟨j, -, -, -, ⟨-, h⟩ | ⟨l, -, -, h⟩⟩ <;> rw [h]
  · exact hs
  · exact endRecord_unlinked e j hs
  · exact releaseLane_unlinked l (endRecord_unlinked e j (releaseSite_unlinked l hs))

theorem endJobs_unlinked (e : EndReason) (js : List Job) (hs : s.unlinked i) : (s.endJobs e js).unlinked i := by
  unfold State.endJobs
  generalize (s.oldestFirst js).map Job.id = ns
  induction ns generalizing s with
  | nil => exact hs
  | cons n ns ih => exact ih (endTerminal_unlinked e n hs)

/-- An assignment connects lanes to its members' sites alone. -/
theorem assignOne_unlinked {j : Job} (l : LaneId) (hj : j.site ≠ i) (hs : s.unlinked i) : (s.assignOne j l).unlinked i := by
  have hsite : (s.assignOne j l).site i = s.site i := by
    show (s.setSite j.site _).site i = _
    rw [State.setSite_site, if_neg hj]
  refine ⟨by rw [hsite]; exact hs.1, fun m => ?_⟩
  by_cases hm : l = m
  · subst hm
    show ((State.setLane _ l _).lane l).connected ≠ some i
    rw [State.setLane_lane_self]
    exact fun h => hj (Option.some.inj h)
  · rw [assignOne_lane s j hm]
    exact hs.2 m

theorem assign_unlinked {c : List Job} (hc : ∀ j ∈ c, j.site ≠ i) (hs : s.unlinked i) : (s.assign c).unlinked i := by
  have key : ∀ (xs : List (Job × LaneId)) (u : State), (∀ x ∈ xs, x.1.site ≠ i) → u.unlinked i →
      (xs.foldl (fun s x => s.assignOne x.1 x.2) u).unlinked i := by
    intro xs
    induction xs with
    | nil => exact fun u _ hu => hu
    | cons x xs ih =>
      exact fun u hx hu => ih _ (fun y hy => hx y (List.mem_cons_of_mem _ hy))
        (assignOne_unlinked x.2 (hx x (List.mem_cons_self ..)) hu)
  exact moveLanes_unlinked _ _ (key _ s (fun x hx => hc _ (mem_bySite (List.of_mem_zip hx).1)) hs)

theorem serveHead_unlinked {c : List Job} (hc : ∀ j ∈ c, j.site ≠ i) (hs : s.unlinked i) : (s.serveHead c).1.unlinked i := by
  unfold State.serveHead
  dsimp only
  split
  · split
    · exact assign_unlinked hc hs
    · exact moveLanes_unlinked _ _ hs
  split
  · exact raise_unlinked _ (moveLanes_unlinked _ _ hs)
  split
  · exact raise_unlinked _ hs
  · exact raise_unlinked _ (moveLanes_unlinked _ _ hs)

theorem takeHead_unlinked (c : List Job) (hs : s.unlinked i) : (s.takeHead c).unlinked i := by
  unfold State.takeHead
  split
  · exact hs
  · exact moveLanes_unlinked _ _ hs

/-- The members of a head stand at READY sites, so at others than an unlinked one. -/
theorem findHead_site_ne {c : List Job} (h : s.findHead = some c) (hs : s.unlinked i) : ∀ j ∈ c, j.site ≠ i := by
  rintro j hj rfl
  have hsel := hs.1
  rw [findHead_sites h j hj] at hsel
  cases hsel

theorem reconsiderWith_unlinked (fuel : Nat) (hs : s.unlinked i) : (State.reconsiderWith fuel s).unlinked i := by
  induction fuel generalizing s with
  | zero => exact hs
  | succ fuel ih =>
    unfold State.reconsiderWith
    split
    · exact moveLanes_unlinked _ _ hs
    · next c hc =>
      have hserve := serveHead_unlinked (findHead_site_ne hc hs) (takeHead_unlinked c hs)
      dsimp only
      split
      · exact ih (endJobs_unlinked _ c (takeHead_unlinked c hs))
      split
      · exact ih hserve
      · exact hserve

theorem arbitrate_unlinked (hs : s.unlinked i) : s.arbitrate.unlinked i := by
  unfold State.arbitrate
  split
  · exact reconsiderWith_unlinked _ hs
  · exact hs

/-- The close of an event connects no lane to a site that is neither READY nor MEASURING (R65, R69). -/
theorem close_unlinked (hs : s.unlinked i) (s₀ : State) : (s.close s₀).unlinked i := by
  refine (settlePort_carried _).unlinked (fun l hl => ?_) (arbitrate_unlinked (startGangs_unlinked hs))
  rwa [settlePort_lane] at hl

/-- The opening of a site's connection leaves no lane connected to it (R62). -/
theorem openConnection_unlinked (h : (s.site i).state.selectable = false) : (s.openConnection i).unlinked i := by
  refine ⟨h, fun l => ?_⟩
  rw [openConnection_lane]
  split
  · exact nofun
  · next hc => exact hc

end

end Sys2Proof.Machine

/-! PROOFS. The loss of a site: SITE_POWER off (R10) and the overcurrent event (R12, R13), with the jobs they end (R76, R77). -/

namespace Sys2Proof.Machine

section
variable {s u v : State} {i : SiteId}

/-! ### What a loss leaves -/

theorem setSite_site (s : State) (i : SiteId) : s.setSite i (s.site i) = s := by
  simp [State.setSite, State.site]

theorem raise_pending (s : State) (k : EventKind) : (s.raise k).events.pending &&& k.bit ≠ 0 := by
  unfold State.raise
  split
  · next h => exact h
  · show (s.events.pending ||| k.bit) &&& k.bit ≠ 0
    intro h
    have hbit : (s.events.pending ||| k.bit) &&& k.bit = k.bit := by
      ext n hn
      simp
      tauto
    rw [hbit] at h
    cases k <;> cases h

/-- What carries a state keeps its pending kinds (R177). -/
theorem Carried.pending {t : State} (h : Carried s t) {k : Byte} (hk : s.events.pending &&& k ≠ 0) :
    t.events.pending &&& k ≠ 0 := by
  intro ht
  rw [← h.events, BitVec.and_assoc, ht] at hk
  exact hk (by simp)

theorem endable_of {j : Job} (h : (j.state.running || j.state.waiting) = true) : j.state ≠ .evaluating ∧ j.state ≠ .done := by
  constructor <;> intro hj <;> rw [hj] at h <;> cases h

theorem mem_endableAt_iff {j : Job} : j ∈ s.endableAt i ↔
    j ∈ s.jobs ∧ j.site = i ∧ (j.state.running || j.state.waiting) = true := by
  simp only [State.endableAt, List.mem_filter, Bool.and_eq_true, beq_iff_eq]

/-- The jobs of a list that can end are ended where the job table stood before (R79). -/
theorem endJobs_all_ended (hd : s.distinct) (hj : u.jobs = s.jobs) {js : List Job} (e : EndReason)
    (hjs : ∀ j ∈ js, j ∈ s.jobs ∧ j.state ≠ .evaluating ∧ j.state ≠ .done) :
    ∀ j ∈ js, (u.endJobs e js).ended j.id e (terminalVerdict e) := by
  have hu : u.distinct := by rw [State.distinct, hj]; exact hd
  exact fun j hm => endJobs_ended hu e (fun k hk => by rw [hj]; exact hjs k hk) hm

theorem ended_of_jobs {n : Nat} {e : EndReason} {w : Verdict} (h : u.ended n e w) (hc : Carried u v) (hj : v.jobs = u.jobs) :
    v.ended n e w := h.of_reaches (X := fun _ => False) (.of_jobs hj) hc not_false

theorem openConnection_carried (s : State) (i : SiteId) : Carried s (s.openConnection i) := by
  refine .of_eq rfl rfl rfl rfl rfl fun l => ?_
  rw [openConnection_lane]
  split <;> rfl

/-! ### O17: SITE_POWER off -/

/-- The site that SITE_POWER off leaves (R7, R10). -/
def Site.poweredOff (x : Site) (now : Word) : Site :=
  if x.state = .faultLatched then x
  else if x.state = .off then { x with powerPending := false }
  else { x with
    state := .off, entered := now, faultCount := 0, timer := .stopped, monitor := ⟨false, false, false⟩,
    levelReading := none, levelFlag := none, settled := none, qualifying := none }

theorem powerOff_latched (h : (s.site i).state = .faultLatched) : s.powerOff i = accept s := by
  simp only [State.powerOff, h]

theorem powerOff_off (h : (s.site i).state = .off) : s.powerOff i =
    accept ((s.setSite i ((s.site i).poweredOff s.now)).endJobs .siteOff (s.endableAt i)) := by
  simp only [State.powerOff, h, Site.poweredOff]
  rfl

theorem powerOff_on (h : (s.site i).state ≠ .faultLatched) (ho : (s.site i).state ≠ .off) : s.powerOff i =
    accept ((((s.setSite i ((s.site i).poweredOff s.now)).openConnection i).endJobs .siteOff (s.endableAt i)).callArbiterIf
      ((s.site i).state == .ready)) := by
  rw [Site.poweredOff, if_neg h, if_neg ho]
  unfold State.powerOff
  dsimp only
  split
  · next hx => exact absurd hx h
  · next hx => exact absurd hx ho
  · rfl

theorem poweredOff_selectable (x : Site) (now : Word) : (x.poweredOff now).state.selectable = false := by
  unfold Site.poweredOff
  split
  · next h => rw [h]; rfl
  split
  · next h => show x.state.selectable = false; rw [h]; rfl
  · rfl

/-- What SITE_POWER off leaves of a state, but for the close of its event (R10, R76, R77). -/
structure PoweredOff (s : State) (i : SiteId) (v : State) : Prop where
  carried : Carried (s.setSite i ((s.site i).poweredOff s.now)) v
  ended : ∀ j ∈ s.jobs, j.site = i → (j.state.running || j.state.waiting) = true → v.ended j.id .siteOff .aborted
  unlinked : (s.site i).state ≠ .off → v.unlinked i

theorem powerOff_poweredOff (hd : s.distinct) (h : (s.site i).state ≠ .faultLatched) :
    ∃ v, s.powerOff i = accept v ∧ PoweredOff s i v := by
  let off := s.setSite i ((s.site i).poweredOff s.now)
  have hoff : (off.site i).state.selectable = false := by
    rw [State.setSite_site_self]
    exact poweredOff_selectable _ _
  have ended {u : State} (hu : u.jobs = s.jobs) : ∀ j ∈ s.jobs, j.site = i → (j.state.running || j.state.waiting) = true →
      (u.endJobs .siteOff (s.endableAt i)).ended j.id .siteOff .aborted := fun j hj hi he =>
    endJobs_all_ended hd hu .siteOff (fun k hk => ⟨(mem_endableAt_iff.1 hk).1, endable_of (mem_endableAt_iff.1 hk).2.2⟩) j
      (mem_endableAt_iff.2 ⟨hj, hi, he⟩)
  by_cases ho : (s.site i).state = .off
  · exact ⟨_, powerOff_off ho, endJobs_carried _ _ _, ended (u := off) rfl, fun hn => absurd ho hn⟩
  · refine ⟨_, powerOff_on h ho, ?_, fun j hj hi he => ?_, fun _ => ?_⟩
    · exact ((openConnection_carried off i).trans (endJobs_carried _ _ _)).trans (callArbiterIf_carried _ _)
    · exact ended_of_jobs (ended (u := off.openConnection i) rfl j hj hi he) (callArbiterIf_carried _ _) (callArbiterIf_jobs _ _)
    · refine (callArbiterIf_carried _ _).unlinked (fun l hl => ?_) (endJobs_unlinked _ _ (openConnection_unlinked hoff))
      cases hb : (s.site i).state == .ready <;> rw [hb] at hl <;> exact hl

theorem sitePower_zero (s : State) (i : SiteId) : s.sitePower (BitVec.ofNat 8 i.val) 0 = s.powerOff i := by
  rw [State.sitePower, codeBelow_site]
  rfl

/-- A request whose own effect is carried from a state with the same results as before it (R65, R76). -/
theorem row_of_carried {c : Instr} {h : Header} {r : Request} {reply : Reply} (hr : requestOfRow c = some (h, r))
    (hl : s.listens h.rate) (hc : s.cleared.carryOut r = (v, reply)) (hu : Carried u.cleared v) (hres : u.results ⊆ s.results) :
    exec c s = .next ((v.holding r.kind h.tag reply).close s) ∧
      ((v.holding r.kind h.tag reply).close s).answered r.kind h.tag reply s.replies ∧
      Carried u.behindPort ((v.holding r.kind h.tag reply).close s).behindPort := by
  have hd := decodeFrame_frame r h.tag
  have hans := request_answered (u := u.cleared) hd hl (by rw [hc]; exact hu) hres
  rw [exec_row hr, request_of_listens hd hl, hc] at *
  exact ⟨rfl, hans⟩

/-- Settles O17: the latched site, the site in OFF, and the others. -/
theorem sitePowerOffEndsJobs : Obligations.SitePowerOffEndsJobs := by
  intro h i s hs hl hd x y
  by_cases hx : x.state = .faultLatched
  · have hc : s.cleared.carryOut (.sitePower (BitVec.ofNat 8 i.val) 0) = (s.cleared, .ok []) :=
      (sitePower_zero s.cleared i).trans (powerOff_latched hx)
    obtain ⟨t, ht, hans, hbehind⟩ := row_of_quiet (c := .sitePowerOff h _) rfl hs hl hc (.refl s)
    have hy : y = x := if_pos hx
    have hsite : t.site i = x := by
      show t.behindPort.site i = s.behindPort.site i
      rw [hbehind]
    refine ⟨t, ht, hans, hsite.trans hy.symm, ?_, fun _ => hbehind, fun hn => absurd hx hn, fun hn => absurd hx hn⟩
    rw [hbehind, hy, setSite_site]
    exact .refl _
  · obtain ⟨v, hv, hoff⟩ := powerOff_poweredOff (s := s.cleared) (i := i) hd hx
    have hc : s.cleared.carryOut (.sitePower (BitVec.ofNat 8 i.val) 0) = (v, .ok []) := (sitePower_zero s.cleared i).trans hv
    obtain ⟨hexec, hans, hcar⟩ := row_of_carried (c := .sitePowerOff h _) (u := s.setSite i y) rfl hl hc hoff.carried
      (List.Subset.refl _)
    have hsite : v.site i = y := by
      rw [(hoff.carried.sites i).other] <;> rw [State.setSite_site_self]
      · rfl
      · exact poweredOff_selectable _ _
    have hdv : v.distinct := hoff.carried.distinct hd
    refine ⟨_, hexec, hans, ?_, hcar, fun hn => absurd hn hx, fun _ j hj hi he => ?_, fun _ ho => ?_⟩
    · rw [close_site]
      · exact hsite
      · show (v.site i).state.selectable = false
        rw [hsite]
        exact poweredOff_selectable x s.now
    · exact State.ended.close (s := v.holding _ _ _) (hoff.ended j hj hi he) hdv s
    · exact (close_unlinked (s := v.holding _ _ _) (hoff.unlinked ho) s).2

/-! ### An alert -/

theorem siteAlert_setSite_carried (s : State) (i : SiteId) (x : Site) : Carried (s.setSite i x) (s.siteAlert i x) :=
  (raise_carried _ _).trans (callArbiterIf_carried _ _)

/-- The site alert is pending after it is raised. -/
theorem siteAlert_pending (s : State) (i : SiteId) (x : Site) :
    (s.siteAlert i x).events.pending &&& EventKind.siteAlert.bit ≠ 0 :=
  (callArbiterIf_carried _ _).pending (raise_pending _ _)

/-- A site that is lost with an alert stands at the close of the event, its alert is pending, and the jobs given have ended
(R24, R76, R79). -/
theorem alert_close {w : State} {y : Site} {js : List Job} (hd : s.distinct) (hw : Carried (s.siteAlert i y) w)
    (hj : w.jobs = s.jobs) (hy : y.state.selectable = false) (e : EndReason)
    (hjs : ∀ j ∈ js, j ∈ s.jobs ∧ j.state ≠ .evaluating ∧ j.state ≠ .done) :
    ((w.endJobs e js).close s).site i = y ∧ Carried (s.setSite i y) ((w.endJobs e js).close s) ∧
      ((w.endJobs e js).close s).events.pending &&& EventKind.siteAlert.bit ≠ 0 ∧
      ∀ j ∈ js, ((w.endJobs e js).close s).ended j.id e (terminalVerdict e) := by
  have hlost : Carried (s.siteAlert i y) (w.endJobs e js) := hw.trans (endJobs_carried _ _ _)
  have hset : Carried (s.setSite i y) (w.endJobs e js) := (siteAlert_setSite_carried s i y).trans hlost
  have hdone : Carried (s.setSite i y) ((w.endJobs e js).close s) := hset.close (List.Subset.refl s.results)
  have hsite : ((s.setSite i y).site i).state.selectable = false := by rw [State.setSite_site_self]; exact hy
  refine ⟨?_, hdone, ?_, fun j hm => ?_⟩
  · rw [(hdone.sites i).other hsite, State.setSite_site_self]
  · have hfin := (finish_carried (w.endJobs e js)).pending (hlost.pending (siteAlert_pending s i y))
    exact hfin
  · exact (endJobs_all_ended hd hj e hjs j hm).close (hset.distinct hd) s

/-! ### O20: the current monitor -/

theorem overcurrent_eq (x : Site) (now : Word) : x.overcurrent now = { x with
    state := if decide (x.applied.supply.retryLimit < x.faultCount + 1) then .faultLatched else .retryWait
    entered := now
    faultCount := x.faultCount + 1
    timer := if decide (x.applied.supply.retryLimit < x.faultCount + 1) then .stopped else .retry
    monitor := ⟨false, false, false⟩
    levelReading := none
    levelFlag := none
    settled := none
    qualifying := none } := by
  unfold Site.overcurrent
  by_cases h : x.faultCount + 1 ≤ x.applied.supply.retryLimit
  · rw [if_pos h, decide_eq_false (Nat.not_lt.2 h)]
    rfl
  · rw [if_neg h, decide_eq_true (Nat.not_le.1 h)]
    rfl

theorem mem_faultedJobs {st : SiteState} {j : Job} : j ∈ s.faultedJobs i st ↔
    j ∈ s.jobs ∧ j.site = i ∧ (j.state.running || (j.state.waiting && st == .faultLatched)) = true := by
  simp only [State.faultedJobs, List.mem_filter, Bool.and_eq_true, beq_iff_eq]

theorem faulted_of {j : Job} {b : Bool} (h : (j.state.running || (j.state.waiting && b)) = true) :
    j.state ≠ .evaluating ∧ j.state ≠ .done := by
  constructor <;> intro hj <;> rw [hj] at h <;> cases h

/-- Settles O20: the crossing, the event that is not taken, and the event that switches the site off. -/
theorem currentMonitorSwitchesOff : Obligations.CurrentMonitorSwitchesOff := by
  intro i s hs hd x latched y
  refine ⟨fun above => ?_, fun hno => ?_, fun hm hg => ?_⟩
  · have he : effectOf (.currentLimitCrossing i above) s = s.currentCrossing i above := rfl
    by_cases hx : x.state.supplied = true
    · rw [if_pos hx]
      exact exec_of_setSite hs (he.trans (if_pos hx))
    · rw [if_neg hx]
      exact exec_of_self hs (he.trans (if_neg hx))
  · refine exec_of_self hs (if_neg ?_)
    rcases hno with h | h <;> simp [x] at h <;> simp [h]
  · have hy : (s.site i).overcurrent s.now = y := overcurrent_eq _ _
    have he : effectOf (.overcurrent i) s =
        ((s.siteAlert i y).openConnection i).endJobs .siteFault (s.faultedJobs i y.state) := by
      rw [← hy]
      exact if_pos (by rw [Bool.and_eq_true]; exact ⟨hm, hg⟩)
    have hlatched : (y.state == .faultLatched) = latched := by
      show ((if latched then SiteState.faultLatched else .retryWait) == .faultLatched) = latched
      cases latched <;> rfl
    have hsel : y.state.selectable = false := by
      show (if latched then SiteState.faultLatched else .retryWait).selectable = false
      cases latched <;> rfl
    have hopen : ((s.siteAlert i y).site i).state.selectable = false := by rw [siteAlert_site, if_pos rfl]; exact hsel
    obtain ⟨hsite, hcar, halert, hend⟩ := alert_close hd (openConnection_carried (s.siteAlert i y) i) (siteAlert_jobs s i y)
      hsel .siteFault (js := s.faultedJobs i y.state) fun j hj =>
        ⟨(mem_faultedJobs.1 hj).1, faulted_of (mem_faultedJobs.1 hj).2.2⟩
    refine ⟨_, exec_eq_close _ s, ?_⟩
    rw [he]
    exact ⟨hsite, hcar.behindPort, halert, (close_unlinked (endJobs_unlinked _ _ (openConnection_unlinked hopen)) s).2,
      fun j hj hi hr => hend j (mem_faultedJobs.2 ⟨hj, hi, hlatched ▸ hr⟩)⟩

end

end Sys2Proof.Machine

/-! PROOFS. The carrier gates of a site (R17, R18, R22) and its level monitor (R19 to R21). -/

namespace Sys2Proof.Machine

section
variable {s u v : State} {i : SiteId}

/-! ### A site that reaches READY or NO_CARRIER -/

/-- A record at its entry to READY is at most MEASURING after a close at the same uptime (R23, R69). -/
theorem kept_of_ready {now : Word} {y z : Site} (h : Site.Kept now y z) (hy : y.state = .ready) (he : y.entered = now)
    (ht : y.timer = .stopped) (hf : y.faultCount = 0) : z = y ∨ z = { y with state := .measuring } := by
  obtain ⟨st, e, tm, fc, rfl, hst, htm, hfc⟩ := h.same
  have hsel := h.selectable (by rw [hy]; rfl)
  obtain rfl : e = y.entered := hst.elim id (·.trans he.symm)
  obtain rfl : tm = y.timer := htm.elim id (·.trans ht.symm)
  obtain rfl : fc = y.faultCount := hfc.elim id (·.trans hf.symm)
  rcases selectable_iff.1 hsel with h | h
  · refine .inl ?_
    dsimp only at h
    rw [h, ← hy]
  · refine .inr ?_
    dsimp only at h
    rw [h]

/-- A site that enters READY stands there or is MEASURING at the close of the event, with SITE_READY pending (R24, R65). -/
theorem ready_close {y : Site} (hy : y.state = .ready) (he : y.entered = s.now) (ht : y.timer = .stopped)
    (hf : y.faultCount = 0) :
    (((s.siteReady i y).close s).site i = y ∨ ((s.siteReady i y).close s).site i = { y with state := .measuring }) ∧
      Carried (s.setSite i y) ((s.siteReady i y).close s) ∧
      ((s.siteReady i y).close s).events.pending &&& EventKind.siteReady.bit ≠ 0 := by
  have hset : Carried (s.setSite i y) (s.siteReady i y) := (raise_carried _ _).trans (callArbiter_carried _)
  have hdone : Carried (s.setSite i y) ((s.siteReady i y).close s) := hset.close (List.Subset.refl s.results)
  have hraised : (s.siteReady i y).events.pending &&& EventKind.siteReady.bit ≠ 0 := raise_pending _ _
  refine ⟨?_, hdone, (finish_carried (s.siteReady i y)).pending hraised⟩
  have hk := hdone.sites i
  rw [State.setSite_site_self] at hk
  exact kept_of_ready hk hy he ht hf

theorem waiting_not_ended {j : Job} (h : j.state.waiting = true) : j.state ≠ .evaluating ∧ j.state ≠ .done := by
  constructor <;> intro hj <;> rw [hj] at h <;> cases h

theorem mem_waitingAt {j : Job} : j ∈ s.waitingAt i ↔ j ∈ s.jobs ∧ j.site = i ∧ j.state.waiting = true := by
  simp only [State.waitingAt, List.mem_filter, Bool.and_eq_true, beq_iff_eq]

theorem waitingAt_of_jobs (h : u.jobs = s.jobs) : u.waitingAt i = s.waitingAt i := by rw [State.waitingAt, h]; rfl

/-- The waiting jobs of a site can end. -/
theorem waitingAt_endable : ∀ j ∈ s.waitingAt i, j ∈ s.jobs ∧ j.state ≠ .evaluating ∧ j.state ≠ .done := fun _ hj =>
  ⟨(mem_waitingAt.1 hj).1, waiting_not_ended (mem_waitingAt.1 hj).2.2⟩

/-- The waiting jobs of a site without a carrier have ended at the close of the event, and the site stands (R76). -/
theorem endWaiting_close {y : Site} (hd : s.distinct) (hy : y.state.selectable = false) :
    (((s.setSite i y).endWaiting i).close s).site i = y ∧
      Carried (s.setSite i y) (((s.setSite i y).endWaiting i).close s) ∧
      ∀ j ∈ s.jobs, j.site = i → j.state.waiting = true →
        (((s.setSite i y).endWaiting i).close s).ended j.id .noCarrier .noCarrier := by
  have hend : Carried (s.setSite i y) ((s.setSite i y).endWaiting i) := endJobs_carried _ _ _
  have hdone := hend.close (s₀ := s) (List.Subset.refl s.results)
  have hsite : ((s.setSite i y).site i).state.selectable = false := by rw [State.setSite_site_self]; exact hy
  refine ⟨by rw [(hdone.sites i).other hsite, State.setSite_site_self], hdone, fun j hj hi hw => ?_⟩
  exact (endJobs_all_ended hd (u := s.setSite i y) rfl .noCarrier waitingAt_endable j (mem_waitingAt.2 ⟨hj, hi, hw⟩)).close
    (hend.distinct hd) s

/-! ### O21: the gates -/

theorem carrierPresent_eq_true {x : Site} {c : CountRecord} {level : Rat} : carrierPresent x c level = true ↔
    (windowMin x.applied.levelRange : Rat) - 100 ≤ 10 * level ∧ c.error ≠ none := by
  rw [carrierPresent, Bool.and_eq_true, decide_eq_true_iff, Option.isSome_iff_ne_none, presenceThreshold]
  push_cast
  rfl

theorem carrierPresent_eq_false {x : Site} {c : CountRecord} {level : Rat}
    (h : c.error = none ∨ 10 * level < (windowMin x.applied.levelRange : Rat) - 100) : carrierPresent x c level = false := by
  rw [← Bool.not_eq_true, carrierPresent_eq_true]
  rintro ⟨hl, he⟩
  exact h.elim he fun h => absurd hl (not_le.2 h)

/-- Settles O21: the two gates, each with the carrier and without it. -/
theorem gateEndDecidesPresence : Obligations.GateEndDecidesPresence := by
  intro c i f level s hs hd x first count cls hc
  have heffect : effectOf c s = if carrierPresent x count level then s.gateFound i count level
      else if first then (s.siteAlert i ({ x with lastCount := some count }.enterNoCarrier s.now)).endWaiting i
      else (s.setSite i { x with lastCount := some count, timer := .recheckWait }).endWaiting i := by
    rcases hc with ⟨ht, rfl⟩ | ⟨ht, rfl⟩
    · rw [show first = true from decide_eq_true ht]
      exact if_pos ht
    · rw [show first = false from decide_eq_false (by rw [ht]; nofun)]
      exact if_pos ht
  refine ⟨fun he hlevel => ?_, fun habsent => ?_⟩
  · intro y
    obtain ⟨hsite, hcar, hpend⟩ := ready_close (s := s) (i := i) (y := y) rfl rfl rfl rfl
    refine ⟨(s.siteReady i y).close s, ?_, hsite, hcar.behindPort, hpend⟩
    rw [exec_eq_close, heffect, if_pos (carrierPresent_eq_true.2 ⟨hlevel, he⟩)]
    rfl
  · intro y hst
    rw [if_neg (Bool.eq_false_iff.1 (carrierPresent_eq_false habsent))] at heffect
    cases hfirst : first with
    | true =>
      rw [if_pos hfirst] at heffect
      have hy : y = { x with lastCount := some count }.enterNoCarrier s.now := if_pos hfirst
      have hw : (s.siteAlert i y).waitingAt i = s.waitingAt i := waitingAt_of_jobs (siteAlert_jobs s i y)
      obtain ⟨hsite, hcar, hpend, hend⟩ := alert_close hd (.refl _) (siteAlert_jobs s i y) (by rw [hy]; rfl) .noCarrier
        (js := s.waitingAt i) waitingAt_endable
      refine ⟨_, exec_eq_close c s, ?_⟩
      rw [heffect, ← hy, State.endWaiting, hw]
      exact ⟨hsite, hcar.behindPort, fun _ => hpend, fun j hj hi hwait => hend j (mem_waitingAt.2 ⟨hj, hi, hwait⟩)⟩
    | false =>
      rw [if_neg (Bool.eq_false_iff.1 hfirst)] at heffect
      have hy : y = { x with lastCount := some count, timer := .recheckWait } := if_neg (Bool.eq_false_iff.1 hfirst)
      obtain ⟨hsite, hcar, hend⟩ := endWaiting_close (s := s) (i := i) (y := y) hd (by
        rw [hy]
        show x.state.selectable = false
        rw [hst hfirst]
        rfl)
      refine ⟨_, exec_eq_close c s, ?_⟩
      rw [heffect, ← hy]
      exact ⟨hsite, hcar.behindPort, nofun, hend⟩

/-! ### Job records with other flags -/

/-- What the start of gangs reads of a job record (R73). -/
structure Job.SameStart (f : Job → Job) : Prop where
  id : ∀ j : Job, (f j).id = j.id
  state : ∀ j : Job, (f j).state = j.state
  gang : ∀ j : Job, (f j).gang = j.gang

theorem gangOf_map {f : Job → Job} (hf : Job.SameStart f) (hj : u.jobs = s.jobs.map f) (j : Job) :
    u.gangOf (f j) = (s.gangOf j).map f := by
  unfold State.gangOf
  rw [hf.gang, hj]
  cases j.gang with
  | none => rfl
  | some ids =>
    show (s.jobs.map f).filter _ = _
    rw [List.filter_map]
    simp only [Function.comp_def, hf.id]

/-- A job table whose records keep id, state and gang has the same members to start (R73). -/
theorem startingMembers_map {f : Job → Job} (hf : Job.SameStart f) (hj : u.jobs = s.jobs.map f)
    (hs : s.startingMembers = []) : u.startingMembers = [] := by
  have : u.startingMembers = s.startingMembers.map f := by
    rw [State.startingMembers, State.startingMembers, hj, List.filter_map]
    simp only [Function.comp_def, gangOf_map hf hj, hf.state, List.all_map]
  rw [this, hs]
  rfl

theorem sameStart_ite {p : Job → Prop} [DecidablePred p] {g : Job → JobFlags} :
    Job.SameStart fun j => if p j then { j with flags := g j } else j := by
  constructor <;> intro j <;> split <;> rfl

/-! ### O23: level readings -/

theorem read_unchanged {x : Site} {r : Int} (h : x.settled = none ∨ x.settled = some (classify x.applied.levelRange r)) :
    x.read r = ({ x with levelReading := some r, qualifying := none }, none) := by
  rcases h with h | h <;> simp [Site.read, h]

theorem read_first {x : Site} {r : Int} {old : LevelClass} (h : x.settled = some old)
    (ho : old ≠ classify x.applied.levelRange r) (hq : x.qualifying ≠ some (classify x.applied.levelRange r)) :
    x.read r = ({ x with levelReading := some r, qualifying := some (classify x.applied.levelRange r) }, none) := by
  simp [Site.read, h, Ne.symm ho, hq]

theorem read_second {x : Site} {r : Int} {old : LevelClass} (h : x.settled = some old)
    (ho : old ≠ classify x.applied.levelRange r) (hq : x.qualifying = some (classify x.applied.levelRange r)) :
    x.read r = (x.reclassed r (classify x.applied.levelRange r), some (classify x.applied.levelRange r)) := by
  simp [Site.read, h, Ne.symm ho, hq, Site.reclassed]

theorem levelReading_none {v : Rat} {y : Site} (hx : (s.site i).state.supplied = true)
    (hr : (s.site i).read (readingOf v) = (y, none)) : s.levelReading i v = s.setSite i y := by
  simp only [State.levelReading, hx, hr, if_true]

theorem levelReading_some {v : Rat} {y : Site} {c : LevelClass} (hx : (s.site i).state.supplied = true)
    (hr : (s.site i).read (readingOf v) = (y, some c)) : s.levelReading i v = (s.setSite i y).classChange i c := by
  simp only [State.levelReading, hx, hr, if_true]

theorem siteAlert_of_state {y z : Site} (h : y.state = (s.site i).state) : (s.setSite i y).siteAlert i z = s.siteAlert i z := by
  rw [siteAlert_setSite, h]
  rfl

/-- A settled class that has become ABSENT takes a READY or MEASURING site to NO_CARRIER, and ends its jobs (R21, R76). -/
theorem classChange_absent_close {y : Site} (hd : s.distinct) (hy : y.state = (s.site i).state)
    (hsel : (s.site i).state.selectable = true) :
    let t := ((s.setSite i y).classChange i .absent).close s
    t.site i = y.enterNoCarrier s.now ∧ Carried (s.setSite i (y.enterNoCarrier s.now)) t ∧
      t.events.pending &&& EventKind.siteAlert.bit ≠ 0 ∧
      ((s.site i).state = .measuring → ∀ l : LaneId, (t.lane l).connected ≠ some i) ∧
      ∀ j ∈ s.jobs, j.site = i → (j.state.waiting || (j.state.running && decide ((s.site i).state = .measuring))) = true →
        t.ended j.id .noCarrier .noCarrier := by
  intro t
  have hsite : ((s.setSite i y).site i) = y := setSite_self_site s i y
  have hnow : (s.setSite i y).now = s.now := rfl
  rcases selectable_iff.1 hsel with hst | hst
  · have hw : (s.siteAlert i (y.enterNoCarrier s.now)).waitingAt i = s.waitingAt i := waitingAt_of_jobs (siteAlert_jobs s i _)
    obtain ⟨h1, h2, h3, h4⟩ := alert_close (i := i) (y := y.enterNoCarrier s.now) hd (.refl _) (siteAlert_jobs s i _) rfl
      .noCarrier (js := s.waitingAt i) waitingAt_endable
    have ht : t = ((s.siteAlert i (y.enterNoCarrier s.now)).endJobs .noCarrier (s.waitingAt i)).close s := by
      show State.close _ s = _
      rw [classChange_ready_absent (by rw [hsite, hy, hst]), siteAlert_of_state (by rw [hy]), hsite, hnow, State.endWaiting, hw]
    rw [ht]
    refine ⟨h1, h2, h3, fun h => ?_, fun j hj hi he => h4 j (mem_waitingAt.2 ⟨hj, hi, ?_⟩)⟩
    · rw [hst] at h; cases h
    · simpa [hst] using he
  · obtain ⟨h1, h2, h3, h4⟩ := alert_close (i := i) (y := y.enterNoCarrier s.now) hd (openConnection_carried _ i)
      (siteAlert_jobs s i _) rfl .noCarrier (js := s.endableAt i) fun j hj =>
        ⟨(mem_endableAt_iff.1 hj).1, endable_of (mem_endableAt_iff.1 hj).2.2⟩
    have ht : t = (((s.siteAlert i (y.enterNoCarrier s.now)).openConnection i).endJobs .noCarrier (s.endableAt i)).close s := by
      show State.close _ s = _
      rw [classChange_measuring_absent (by rw [hsite, hy, hst]), siteAlert_of_state (by rw [hy]), hsite, hnow]
      rfl
    have hopen : ((s.siteAlert i (y.enterNoCarrier s.now)).site i).state.selectable = false := by
      rw [siteAlert_site, if_pos rfl]; rfl
    rw [ht]
    refine ⟨h1, h2, h3, fun _ => (close_unlinked (endJobs_unlinked _ _ (openConnection_unlinked hopen)) s).2,
      fun j hj hi he => h4 j (mem_endableAt_iff.2 ⟨hj, hi, ?_⟩)⟩
    rw [hst, decide_eq_true rfl, Bool.and_true, Bool.or_comm] at he
    exact he

/-- Settles O23: no supply, no change, the first reading of a new class, and the second. -/
theorem levelReadingClasses : Obligations.LevelReadingClasses := by
  intro i level s hs hd x r c acts
  have hr : r = readingOf level := rfl
  refine ⟨fun hx => ?_, fun hx hu => ?_, fun hx old ho hne hq => ?_, fun hx old ho hne hq => ?_⟩
  · exact exec_of_self hs (if_neg (by simpa [x] using hx))
  · exact exec_of_setSite hs (levelReading_none hx (read_unchanged hu))
  · exact exec_of_setSite hs (levelReading_none hx (read_first ho hne hq))
  · intro y
    have he : effectOf (.levelReading i level) s = (s.setSite i y).classChange i c :=
      levelReading_some hx (read_second ho hne hq)
    have hsite : (s.setSite i y).site i = y := setSite_self_site s i y
    refine ⟨fun ha => ?_, fun ha hc => ?_, fun ha hc => ?_⟩
    · refine exec_of_setSite hs (he.trans (classChange_other ?_ c))
      rw [hsite, ← Bool.not_eq_true, selectable_iff]
      exact of_decide_eq_false ha
    · rcases of_decide_eq_true ha with hst | hst
      · rw [if_neg fun h => by rw [hst] at h; cases h.1]
        refine exec_of_setSite hs (he.trans ?_)
        rw [classChange_ready (by rw [hsite]; exact hst) hc, setSite_setSite, hsite]
      · rw [classChange_measuring (by rw [hsite]; exact hst) hc, setSite_setSite, hsite] at he
        by_cases hw : c = .within
        · rw [if_neg fun h => h.2 hw]
          rw [if_pos hw] at he
          exact exec_of_setSite hs he
        · rw [if_pos ⟨hst, hw⟩]
          rw [if_neg hw] at he
          have hset : ((s.setSite i { y with levelFlag := c.flag }).flagLevel i).settled :=
            ⟨hs.1, startingMembers_map (s := s) sameStart_ite rfl hs.2.1, hs.2.2⟩
          exact exec_of_settled he hset (List.Subset.refl s.results)
    · have := classChange_absent_close (s := s) (i := i) (y := y) hd rfl (selectable_iff.2 (of_decide_eq_true ha))
      rw [exec_eq_close, he, hc]
      exact ⟨_, rfl, this.1, this.2.1.behindPort, this.2.2⟩

end

end Sys2Proof.Machine

/-! PROOFS. The timebase unit: REF_SET (R26, R27), the reference detector and holdover (R28 to R31), and window ends (R29, R30). -/

namespace Sys2Proof.Machine

section
variable {s u v : State}

/-! ### Reports (R32, R33) -/

theorem flagRunning_id (s : State) : s.flagRunning id = s := by
  have h : (s.jobs.map fun j => if j.state.running then { j with flags := id j.flags } else j) = s.jobs := by
    refine (List.map_congr_left fun j _ => ?_).trans (List.map_id _)
    split <;> rfl
  rw [State.flagRunning, h]

theorem report_carried (s : State) (b : Timebase) (f : JobFlags → JobFlags) :
    Carried ({ s with timebase := b }.flagRunning f) (s.report b f) :=
  (raise_carried _ _).trans (callArbiterIf_carried _ _)

theorem report_pending (s : State) (b : Timebase) (f : JobFlags → JobFlags) :
    (s.report b f).events.pending &&& EventKind.reference.bit ≠ 0 :=
  (callArbiterIf_carried _ _).pending (raise_pending _ _)

@[simp] theorem report_timebase (s : State) (b : Timebase) (f : JobFlags → JobFlags) : (s.report b f).timebase = b :=
  congrArg Setting.timebase (report_carried s b f).setting

/-- An event whose effect is a report: REFERENCE is pending, the record is replaced and the running jobs are flagged. -/
theorem exec_report {c : Instr} {b : Timebase} {f : JobFlags → JobFlags} (he : effectOf c s = s.report b f) :
    ∃ t, exec c s = .next t ∧ Carried ({ s with timebase := b }.flagRunning f) t ∧
      t.events.pending &&& EventKind.reference.bit ≠ 0 := by
  refine ⟨_, exec_eq_close c s, ?_, ?_⟩ <;> rw [he]
  · exact (report_carried s b f).close (List.Subset.refl s.results)
  · exact (finish_carried (s.report b f)).pending (report_pending s b f)

theorem exec_report_id {c : Instr} {b : Timebase} (he : effectOf c s = s.report b id) :
    ∃ t, exec c s = .next t ∧ Carried { s with timebase := b } t ∧ t.events.pending &&& EventKind.reference.bit ≠ 0 := by
  have h := exec_report he
  rwa [flagRunning_id] at h

/-- An event that replaces the timebase record alone. -/
theorem exec_of_timebase {c : Instr} {b : Timebase} (hs : s.settled) (he : effectOf c s = { s with timebase := b }) :
    exec c s = .next { s with timebase := b } := exec_of_settled he hs (List.Subset.refl s.results)

/-! ### O24: REF_SET -/

@[simp] theorem modeOf_code (m : RefMode) : modeOf m.code = some m := by cases m <;> rfl
@[simp] theorem frequencyOf_code (f : RefFreq) : frequencyOf f.code = some f := by cases f <;> rfl
@[simp] theorem windowOf_code (w : RefWindow) : windowOf w.code = some w := by cases w <;> rfl

theorem byte_ne {b k : Byte} {n : Nat} (h : n < b.toNat) (hk : k.toNat ≤ n) : b ≠ k := by
  rintro rfl
  omega

theorem modeOf_eq_none {b : Byte} (h : 1 < b.toNat) : modeOf b = none := by
  rw [modeOf, if_neg (byte_ne h (by decide)), if_neg (byte_ne h (by decide))]

theorem frequencyOf_eq_none {b : Byte} (h : 1 < b.toNat) : frequencyOf b = none := by
  rw [frequencyOf, if_neg (byte_ne h (by decide)), if_neg (byte_ne h (by decide))]

theorem windowOf_eq_none {b : Byte} (h : 2 < b.toNat) : windowOf b = none := by
  rw [windowOf, if_neg (byte_ne h (by decide)), if_neg (byte_ne h (by decide)), if_neg (byte_ne h (by decide))]

theorem refSet_out_of_range {m f w : Byte} (h : 1 < m.toNat ∨ 1 < f.toNat ∨ 2 < w.toNat) :
    s.refSet m f w = refuseWith .outOfRange s := by
  unfold State.refSet
  split
  · next hm hf hw =>
    rcases h with h | h | h
    · rw [modeOf_eq_none h] at hm; cases hm
    · rw [frequencyOf_eq_none h] at hf; cases hf
    · rw [windowOf_eq_none h] at hw; cases hw
  · rfl

theorem refSet_codes (m : RefMode) (f : RefFreq) (w : RefWindow) : s.refSet m.code f.code w.code =
    (s.setReference m f w, .ok [some (s.setReference m f w).timebase.discipline.code]) := by
  simp only [State.refSet, modeOf_code, frequencyOf_code, windowOf_code]
  rfl

theorem changeWindow_eq (b : Timebase) (w : RefWindow) : b.changeWindow w = { b with
    window := w
    goodCount := if b.discipline = Discipline.acquiring then 0 else b.goodCount
    windowStart := if b.discipline = Discipline.acquiring ∨ b.discipline = Discipline.locked then some b.uptime
      else b.windowStart } := by
  cases h : b.discipline <;> simp [Timebase.changeWindow, h]

/-- The record of a reference change (R27). -/
theorem change_eq (b : Timebase) (m : RefMode) (f : RefFreq) (w : RefWindow) :
    let present := b.present && decide (b.frequency = f)
    let goes := decide (m = .external) && present
    b.change m f w = { b with
      mode := m, frequency := f, window := w
      discipline := if goes then .acquiring else .free
      entered := b.uptime, goodCount := 0, windowStart := if goes then some b.uptime else none
      lastOffset := none, holdover := none, present := present } := by
  intro present goes
  have hp : (b.present && (b.frequency == f)) = present := by rw [beq_eq_decide]
  have hg : (m = .external ∧ present = true) ↔ goes = true := by simp [goes]
  unfold Timebase.change
  dsimp only
  rw [hp]
  by_cases h : goes = true
  · rw [if_pos h, if_pos h]
    exact if_pos (hg.2 h)
  · rw [if_neg h, if_neg h]
    exact if_neg (mt hg.1 h)

theorem setReference_changed {m : RefMode} {f : RefFreq} {w : RefWindow} (h : s.timebase.mode ≠ m ∨ s.timebase.frequency ≠ f) :
    s.setReference m f w = s.report (s.timebase.change m f w) JobFlags.lost := if_pos h

theorem setReference_same {m : RefMode} {f : RefFreq} {w : RefWindow} (hm : s.timebase.mode = m) (hf : s.timebase.frequency = f) :
    s.setReference m f w =
      { s with timebase := if s.timebase.window = w then s.timebase else s.timebase.changeWindow w } := by
  rw [State.setReference, if_neg (not_or.2 ⟨not_not.2 hm, not_not.2 hf⟩)]
  by_cases hw : s.timebase.window = w
  · rw [if_neg (not_not.2 hw), if_pos hw]
  · rw [if_pos hw, if_neg hw]

/-- Settles O24: the refusal, the window, and the reference change. -/
theorem refSetChangesReference : Obligations.RefSetChangesReference := by
  intro h s hs hl
  refine ⟨fun m f w hbad => row_of_refused (c := .refSet h m f w) rfl hs hl (refSet_out_of_range hbad), ?_⟩
  intro m f w b present goes
  have hcarry := refSet_codes (s := s.cleared) m f w
  refine ⟨fun hm hf => ?_, fun hne => ?_⟩
  · rw [setReference_same (s := s.cleared) hm hf] at hcarry
    refine row_of_quiet (c := .refSet h _ _ _) (u := { s with timebase := _ }) rfl hs hl (hcarry.trans ?_)
      ⟨rfl, rfl, List.Subset.refl _⟩
    rw [changeWindow_eq]
    by_cases hw : b.window = w
    · rw [if_pos (show s.cleared.timebase.window = w from hw), if_pos hw]
      rfl
    · rw [if_neg (show ¬s.cleared.timebase.window = w from hw), if_neg hw]
      rfl
  · rw [setReference_changed (s := s.cleared) hne] at hcarry
    have hreport := report_carried s.cleared (b.change m f w) JobFlags.lost
    let u : State := { s with timebase := b.change m f w }.flagRunning JobFlags.lost
    obtain ⟨hexec, hans, hcar⟩ := row_of_carried (c := .refSet h _ _ _) (u := u) rfl hl hcarry hreport (List.Subset.refl _)
    have hcode : (s.cleared.report (b.change m f w) JobFlags.lost).timebase.discipline.code = if goes then 1 else 0 := by
      rw [report_timebase, change_eq]
      show (if goes then Discipline.acquiring else .free).code = _
      cases goes <;> rfl
    refine ⟨_, hexec, ?_, (finish_carried _).pending (report_pending s.cleared _ _), ?_⟩
    · rw [← hcode]
      exact hans
    · rw [show u = { s with timebase := b.change m f w }.flagRunning JobFlags.lost from rfl, change_eq] at hcar
      exact hcar

/-! ### O25: the reference detector -/

/-- The input qualifies within ±100,000 ppb of the external frequency (R28). -/
theorem qualifies_iff (b : Timebase) : b.qualifies = true ↔
    ∃ f, b.input = some f ∧
      |f - (if b.frequency = RefFreq.mhz10 then 10000000 else 100000000 : Rat)| ≤
        (if b.frequency = RefFreq.mhz10 then 10000000 else 100000000 : Rat) / 10000 := by
  have hz : ((b.frequency.hz : Nat) : Rat) = if b.frequency = RefFreq.mhz10 then 10000000 else 100000000 := by
    cases b.frequency <;> simp [RefFreq.hz]
  unfold Timebase.qualifies
  dsimp only
  rw [hz]
  generalize (if b.frequency = RefFreq.mhz10 then 10000000 else 100000000 : Rat) = z
  rw [Option.any_eq_true]
  refine exists_congr fun f => and_congr_right fun _ => ?_
  rw [Bool.and_eq_true, decide_eq_true_iff, decide_eq_true_iff, abs_le]
  constructor <;> rintro ⟨h1, h2⟩ <;> constructor <;> linarith

theorem referencePresent_taken (hp : s.timebase.present = false) (hq : s.timebase.qualifies = true) :
    s.referencePresent = match s.timebase.mode, s.timebase.discipline with
      | .external, .free => s.report { s.timebase with present := true }.enterAcquiring id
      | .external, .holdover => s.report { s.timebase with present := true }.enterAcquiring JobFlags.lost
      | _, _ => { s with timebase := { s.timebase with present := true } } := by
  rw [State.referencePresent, hp, hq]
  rfl

theorem referenceAbsent_taken (hp : s.timebase.present = true) (hq : s.timebase.qualifies = false) :
    s.referenceAbsent = match s.timebase.mode, s.timebase.discipline with
      | .external, .acquiring => s.report { s.timebase with present := false }.enterFree id
      | .external, .locked => s.report { s.timebase with present := false }.enterHoldover JobFlags.heldOver
      | _, _ => { s with timebase := { s.timebase with present := false } } := by
  rw [State.referenceAbsent, hp, hq]
  rfl

section
variable (hp : s.timebase.present = false) (hq : s.timebase.qualifies = true) (hm : s.timebase.mode = .external)
include hp hq hm

theorem referencePresent_free (hd : s.timebase.discipline = .free) :
    s.referencePresent = s.report { s.timebase with present := true }.enterAcquiring id := by
  rw [referencePresent_taken hp hq, hm, hd]

theorem referencePresent_holdover (hd : s.timebase.discipline = .holdover) :
    s.referencePresent = s.report { s.timebase with present := true }.enterAcquiring JobFlags.lost := by
  rw [referencePresent_taken hp hq, hm, hd]

end

section
variable (hp : s.timebase.present = true) (hq : s.timebase.qualifies = false) (hm : s.timebase.mode = .external)
include hp hq hm

theorem referenceAbsent_acquiring (hd : s.timebase.discipline = .acquiring) :
    s.referenceAbsent = s.report { s.timebase with present := false }.enterFree id := by
  rw [referenceAbsent_taken hp hq, hm, hd]

theorem referenceAbsent_locked (hd : s.timebase.discipline = .locked) :
    s.referenceAbsent = s.report { s.timebase with present := false }.enterHoldover JobFlags.heldOver := by
  rw [referenceAbsent_taken hp hq, hm, hd]

end

theorem referencePresent_status (hp : s.timebase.present = false) (hq : s.timebase.qualifies = true)
    (h : s.timebase.mode = .internal ∨ s.timebase.discipline = .acquiring ∨ s.timebase.discipline = .locked) :
    s.referencePresent = { s with timebase := { s.timebase with present := true } } := by
  rw [referencePresent_taken hp hq]
  split
  · next hm hd => simp [hm, hd] at h
  · next hm hd => simp [hm, hd] at h
  · rfl

theorem referenceAbsent_status (hp : s.timebase.present = true) (hq : s.timebase.qualifies = false)
    (h : s.timebase.mode = .internal ∨ s.timebase.discipline = .free ∨ s.timebase.discipline = .holdover) :
    s.referenceAbsent = { s with timebase := { s.timebase with present := false } } := by
  rw [referenceAbsent_taken hp hq]
  split
  · next hm hd => simp [hm, hd] at h
  · next hm hd => simp [hm, hd] at h
  · rfl

/-- Settles O25, clause by clause: what is raised, and what it does in each mode and state. -/
theorem referenceDetectorEvents : Obligations.ReferenceDetectorEvents := by
  intro s hs b hz fits acquiring flagged reports
  have hfits : fits ↔ b.qualifies = true := (qualifies_iff b).symm
  have hnot : ¬fits ↔ b.qualifies = false := by rw [hfits, Bool.not_eq_true]
  refine ⟨fun h => ?_, fun h => ?_, fun hp hf h => ?_, fun hp hf h => ?_, fun hp hf hm hd => ?_, fun hp hf hm hd => ?_,
    fun hp hf hm hd => ?_, fun hp hf hm hd => ?_, fun hd => ?_, fun hd => ?_, fun f => exec_of_timebase hs rfl⟩
  · refine exec_of_self hs (if_pos ?_)
    rcases h with h | h
    · simp [show s.timebase.present = true from h]
    · simp [show s.timebase.qualifies = false from hnot.1 h]
  · refine exec_of_self hs (if_neg ?_)
    rcases h with h | h
    · simp [show s.timebase.present = false from h]
    · simp [show s.timebase.qualifies = true from hfits.1 h]
  · exact exec_of_timebase hs (referencePresent_status hp (hfits.1 hf) h)
  · exact exec_of_timebase hs (referenceAbsent_status hp (hnot.1 hf) h)
  · exact exec_report_id (c := .referencePresentEvent) (referencePresent_free hp (hfits.1 hf) hm hd)
  · exact exec_report (c := .referencePresentEvent) (referencePresent_holdover hp (hfits.1 hf) hm hd)
  · exact exec_report_id (c := .referenceAbsentEvent) (referenceAbsent_acquiring hp (hnot.1 hf) hm hd)
  · exact exec_report (c := .referenceAbsentEvent) (referenceAbsent_locked hp (hnot.1 hf) hm hd)
  · exact exec_of_self hs (if_neg hd)
  · exact exec_report (c := .holdoverExpiry) (s := s) (if_pos hd)

/-! ### O26: window ends -/

section
variable {offset : Rat} (hw : s.timebase.windowStart ≠ none)
include hw

theorem windowEnd_acquiring (hd : s.timebase.discipline = .acquiring) : s.windowEnd offset =
    if (windowOffset offset).natAbs ≤ 50 then
      if s.timebase.goodCount + 1 = 3 then s.report (s.timebase.endWindow (windowOffset offset)).enterLocked id
      else { s with timebase :=
        { s.timebase.endWindow (windowOffset offset) with goodCount := s.timebase.goodCount + 1 } }
    else { s with timebase := { s.timebase.endWindow (windowOffset offset) with goodCount := 0 } } := by
  have hd' : (s.timebase.endWindow (windowOffset offset)).discipline = .acquiring := hd
  unfold State.windowEnd
  dsimp only
  rw [if_neg hw, hd']
  rfl

theorem windowEnd_locked (hd : s.timebase.discipline = .locked) : s.windowEnd offset =
    if (windowOffset offset).natAbs ≤ 200 then { s with timebase := s.timebase.endWindow (windowOffset offset) }
    else s.report (s.timebase.endWindow (windowOffset offset)).enterAcquiring JobFlags.lost := by
  have hd' : (s.timebase.endWindow (windowOffset offset)).discipline = .locked := hd
  unfold State.windowEnd
  dsimp only
  rw [if_neg hw, hd']

end

theorem windowEnd_idle {offset : Rat} (h : s.timebase.windowStart = none ∨ s.timebase.discipline = .free ∨
    s.timebase.discipline = .holdover) : s.windowEnd offset = s := by
  unfold State.windowEnd
  dsimp only
  split
  · rfl
  · next hw =>
    split
    · next hd => rcases h with h | h | h <;> [exact absurd h hw; exact nomatch h.symm.trans hd; exact nomatch h.symm.trans hd]
    · next hd => rcases h with h | h | h <;> [exact absurd h hw; exact nomatch h.symm.trans hd; exact nomatch h.symm.trans hd]
    · rfl
    · rfl

/-- Settles O26: no window, the count in ACQUIRING, and the watch in LOCKED. -/
theorem windowEndsDiscipline : Obligations.WindowEndsDiscipline := by
  intro offset s hs b o w
  refine ⟨fun h => exec_of_self hs (windowEnd_idle h), fun hw hd h => ?_, fun hw hd hsmall hc => ?_, fun hw hd hsmall => ?_,
    fun hw hd hlarge => ?_⟩
  · refine exec_of_timebase hs ((windowEnd_acquiring hw hd).trans ?_)
    by_cases hsmall : o.natAbs ≤ 50
    · have hc : s.timebase.goodCount + 1 ≠ 3 := fun hc => (h.resolve_left (Nat.not_lt.2 hsmall)) (Nat.succ_injective hc)
      rw [if_pos (show (windowOffset offset).natAbs ≤ 50 from hsmall), if_neg hc, if_pos hsmall]
      rfl
    · rw [if_neg (show ¬(windowOffset offset).natAbs ≤ 50 from hsmall), if_neg hsmall]
      rfl
  · obtain ⟨t, he, hcar, hpend⟩ := exec_report_id (c := .windowEnd offset) ((windowEnd_acquiring hw hd).trans
      ((if_pos hsmall).trans (if_pos (congrArg (· + 1) hc))))
    exact ⟨t, he, hpend, hcar⟩
  · exact exec_of_timebase hs ((windowEnd_locked hw hd).trans (if_pos hsmall))
  · obtain ⟨t, he, hcar, hpend⟩ := exec_report (c := .windowEnd offset) ((windowEnd_locked hw hd).trans
      (if_neg (Nat.not_le.2 hlarge)))
    exact ⟨t, he, hpend, hcar⟩

end

end Sys2Proof.Machine

/-! PROOFS. The requests of the plan table but for the clamps: PLAN_PUT's checks (R39), PLAN_DROP and MASK_DROP (R46, R49),
MASK_PUT and BINMAP_PUT (R48, R53). -/

namespace Sys2Proof.Machine

section
variable {s u v : State}

/-! ### O27: PLAN_PUT -/

theorem planPut_of_slot {f : PlanFields} {i : PlanId} (hi : i.val = f.slot.toNat) : s.planPut f =
    if s.useCount i ≠ 0 then refuseWith .inUse s
    else match s.checkPlan f with
      | .error st => refuseWith st s
      | .ok p => ({ s with plans := s.plans.set i (some p) }, Reply.ok (clampReport (planClamps f p))) := by
  rw [State.planPut, codeBelow_of_val_eq hi] <;> rfl

theorem planPut_refused {f : PlanFields} {i : PlanId} {st : Status} (hi : i.val = f.slot.toNat) (hu : s.useCount i = 0)
    (hc : s.checkPlan f = .error st) : s.planPut f = refuseWith st s := by
  rw [planPut_of_slot hi, if_neg (not_not.2 hu), hc]

theorem planPut_stored {f : PlanFields} {i : PlanId} {p : Plan} (hi : i.val = f.slot.toNat) (hu : s.useCount i = 0)
    (hc : s.checkPlan f = .ok p) :
    s.planPut f = ({ s with plans := s.plans.set i (some p) }, Reply.ok (clampReport (planClamps f p))) := by
  rw [planPut_of_slot hi, if_neg (not_not.2 hu), hc]

theorem checkPlan_no_shape {f : PlanFields} (h : planShapeOf f = none) : s.checkPlan f = .error .outOfRange := by
  rw [State.checkPlan, h]

section
variable {f : PlanFields} {x : PlanShape} (hx : planShapeOf f = some x)
include hx

theorem checkPlan_illegal (h : (jitterBandsOf f x.jitterCount).all (jitterBandLegal x) = false ∨
    durationSuffices (storedPlan f x) = false) : s.checkPlan f = .error .outOfRange := by
  simp only [State.checkPlan, hx]
  rcases h with h | h
  · rw [if_pos (by rw [h]; rfl)]
  · rw [h]
    split <;> rfl

theorem checkPlan_legal (hj : (jitterBandsOf f x.jitterCount).all (jitterBandLegal x) = true)
    (hd : durationSuffices (storedPlan f x) = true) : s.checkPlan f =
      if (storedPlan f x).mask.any fun m => (s.masks[m]).isNone then .error .noSuch else .ok (storedPlan f x) := by
  simp only [State.checkPlan, hx]
  rw [if_neg (by rw [hj]; nofun), if_neg (by rw [hd]; nofun)]

end

/-- Settles O27, check by check. -/
theorem planPutChecksInOrder : Obligations.PlanPutChecksInOrder := by
  intro h f s hs hl refused
  have refused_of {st : Status} (hp : s.cleared.planPut f = refuseWith st s.cleared) : refused st :=
    row_of_refused (c := .planPut h f) rfl hs hl hp
  refine ⟨fun hb => refused_of ?_, fun i hi => ⟨fun hu => refused_of ?_, fun hu hx => ?_, fun hu x hx => ?_⟩⟩
  · rw [State.planPut, codeBelow_none hb]
  · rw [planPut_of_slot hi]
    exact if_pos hu
  · exact refused_of (planPut_refused (s := s.cleared) hi hu (checkPlan_no_shape hx))
  intro p bands
  refine ⟨fun hbad => ?_, fun hj hd hm => ?_, fun hj hd hm => ?_⟩
  · exact refused_of (planPut_refused (s := s.cleared) hi hu (checkPlan_illegal hx hbad))
  · obtain ⟨m, hpm, hno⟩ := hm
    refine refused_of (planPut_refused (s := s.cleared) hi hu ((checkPlan_legal hx hj hd).trans (if_pos ?_)))
    rw [show (storedPlan f x).mask = some m from hpm]
    exact Option.isNone_iff_eq_none.2 hno
  · refine row_of_quiet (c := .planPut h f) (u := { s with plans := s.plans.set i (some p) }) rfl hs hl
      (planPut_stored (s := s.cleared) hi hu ((checkPlan_legal hx hj hd).trans (if_neg ?_))) ⟨rfl, rfl, List.Subset.refl _⟩
    rw [Bool.not_eq_true, Option.any_eq_false]
    exact fun m hpm => Bool.eq_false_iff.2 fun hn => hm m hpm (Option.isNone_iff_eq_none.1 hn)

/-! ### O30: PLAN_DROP and MASK_DROP -/

theorem codeBelow_ofNat {n : Nat} (hn : n ≤ 256) (i : Fin n) : codeBelow n (BitVec.ofNat 8 i.val) = some i :=
  codeBelow_of_val_eq (by rw [BitVec.toNat_ofNat]; omega)

theorem planDrop_of_slot (i : PlanId) : s.planDrop (BitVec.ofNat 8 i.val) =
    (if s.useCount i = 0 then { s with plans := s.plans.set i none } else s,
      if s.plans[i] = none then .refuse .noSuch else if s.useCount i ≠ 0 then .refuse .inUse else .ok []) := by
  rw [State.planDrop, codeBelow_ofNat (by decide)]
  cases hp : s.plans[i] with
  | none =>
    have hset : s.plans.set i none = s.plans := by rw [← hp]; simp
    simp [hset, hp, refuseWith]
  | some p =>
    by_cases hu : s.useCount i = 0
    · simp [hp, hu, accept]
    · simp [hp, hu, refuseWith]

theorem maskDrop_of_slot (m : MaskId) : s.maskDrop (BitVec.ofNat 8 m.val) =
    (if s.maskReferenced m then s else { s with masks := s.masks.set m none },
      if s.masks[m] = none then .refuse .noSuch else if s.maskReferenced m then .refuse .inUse else .ok []) := by
  rw [State.maskDrop, codeBelow_ofNat (by decide)]
  cases hp : s.masks[m] with
  | none =>
    have hset : s.masks.set m none = s.masks := by rw [← hp]; simp
    simp [hset, hp, refuseWith]
  | some p =>
    by_cases hu : s.maskReferenced m = true
    · simp [hp, hu, refuseWith]
    · simp [hp, hu, accept]

/-- Settles O30, by the two tables. -/
theorem dropsByTable : Obligations.DropsByTable := by
  intro h s hs hl
  refine ⟨fun b => ⟨fun hb => ?_, fun hb => ?_⟩, fun i => ?_, fun m => ?_⟩
  · exact row_of_refused (c := .planDrop h b) rfl hs hl (by show s.cleared.planDrop b = _; rw [State.planDrop, codeBelow_none hb])
  · exact row_of_refused (c := .maskDrop h b) rfl hs hl (by show s.cleared.maskDrop b = _; rw [State.maskDrop, codeBelow_none hb])
  · have hc := planDrop_of_slot (s := s.cleared) i
    by_cases hu : s.useCount i = 0
    · rw [if_pos hu]
      rw [if_pos (show s.cleared.useCount i = 0 from hu)] at hc
      exact row_of_quiet (c := .planDrop h _) (u := { s with plans := s.plans.set i none }) rfl hs hl hc ⟨rfl, rfl, List.Subset.refl _⟩
    · rw [if_neg hu]
      rw [if_neg (show ¬s.cleared.useCount i = 0 from hu)] at hc
      exact row_of_quiet (c := .planDrop h _) rfl hs hl hc (.refl s)
  · have hc := maskDrop_of_slot (s := s.cleared) m
    by_cases hu : s.maskReferenced m = true
    · rw [if_pos hu, if_pos hu]
      rw [if_pos (show s.cleared.maskReferenced m = true from hu), if_pos (show s.cleared.maskReferenced m = true from hu)] at hc
      exact row_of_quiet (c := .maskDrop h _) rfl hs hl hc (.refl s)
    · rw [if_neg hu, if_neg hu]
      rw [if_neg (show ¬s.cleared.maskReferenced m = true from hu), if_neg (show ¬s.cleared.maskReferenced m = true from hu)] at hc
      exact row_of_quiet (c := .maskDrop h _) (u := { s with masks := s.masks.set m none }) rfl hs hl hc ⟨rfl, rfl, List.Subset.refl _⟩

/-! ### O31: MASK_PUT and BINMAP_PUT -/

theorem useCount_pos {p : PlanId} : 0 < s.useCount p ↔ ∃ j ∈ s.jobs, j.plan = p ∧ j.state ≠ .done := by
  simp [State.useCount, List.countP_pos_iff]

/-- A mask is busy exactly where a used slot names it (R47, R49). -/
theorem maskBusy_iff {m : MaskId} : s.maskBusy m = true ↔ ∃ (p : PlanId) (x : Plan), s.plans[p] = some x ∧ x.mask = some m ∧
    ∃ j ∈ s.jobs, j.plan = p ∧ j.state ≠ .done := by
  simp only [State.maskBusy, List.any_eq_true, List.mem_finRange, true_and, Bool.and_eq_true, Option.any_eq_true,
    beq_iff_eq, decide_eq_true_iff, useCount_pos]
  exact ⟨fun ⟨p, ⟨x, hp, hm⟩, hj⟩ => ⟨p, x, hp, hm, hj⟩, fun ⟨p, x, hp, hm, hj⟩ => ⟨p, ⟨x, hp, hm⟩, hj⟩⟩

theorem verticesOf_length (f : MaskFields) : (verticesOf f).length = min f.count.toNat 16 := by simp [verticesOf]

theorem verticesOf_getElem (f : MaskFields) (k : Fin 16) (h : k.val < (verticesOf f).length) :
    (verticesOf f)[k.val] = ⟨f.vertices[k].offset.toNat, f.vertices[k].limit.toInt⟩ := by simp [verticesOf]

/-- A property of all vertices within the count is one of the places below it. -/
theorem forall_verticesOf {f : MaskFields} {p : Vertex → Prop} : (∀ v ∈ verticesOf f, p v) ↔
    ∀ k : Fin 16, k.val < f.count.toNat → p ⟨f.vertices[k].offset.toNat, f.vertices[k].limit.toInt⟩ := by
  have hlen := verticesOf_length f
  rw [List.forall_mem_iff_getElem]
  constructor
  · intro h k hk
    rw [← verticesOf_getElem f k (by omega)]
    exact h k.val _
  · intro h i hi
    rw [verticesOf_getElem f ⟨i, by omega⟩ hi]
    exact h ⟨i, by omega⟩ (by show i < _; omega)

theorem offsetsRise_iff : ∀ vs : List Vertex, offsetsRise vs = true ↔
    ∀ (i : Nat) (h : i + 1 < vs.length), vs[i].offset < vs[i + 1].offset
  | [] => by simp [offsetsRise]
  | [v] => by simp [offsetsRise]
  | v :: w :: rest => by
    rw [offsetsRise, Bool.and_eq_true, decide_eq_true_iff, offsetsRise_iff (w :: rest)]
    constructor
    · rintro ⟨h0, h⟩ i hi
      cases i with
      | zero => exact h0
      | succ i => exact h i (by simpa using hi)
    · exact fun h => ⟨h 0 (by simp), fun i hi => h (i + 1) (by simpa using hi)⟩

/-- The checks of R48 on the vertices, place by place. -/
theorem maskLegal_iff {f : MaskFields} : maskLegal f = true ↔ 2 ≤ f.count.toNat ∧ f.count.toNat ≤ 16 ∧
    (∀ k : Fin 16, k.val < f.count.toNat → 10 ≤ f.vertices[k].offset.toNat ∧ f.vertices[k].offset.toNat ≤ 10000000 ∧
      -20000 ≤ f.vertices[k].limit.toInt ∧ f.vertices[k].limit.toInt ≤ -4000) ∧
    ∀ k l : Fin 16, k.val + 1 = l.val → l.val < f.count.toNat →
      f.vertices[k].offset.toNat < f.vertices[l].offset.toNat := by
  have hrise : offsetsRise (verticesOf f) = true ↔ ∀ k l : Fin 16, k.val + 1 = l.val → l.val < f.count.toNat →
      f.vertices[k].offset.toNat < f.vertices[l].offset.toNat := by
    have hlen := verticesOf_length f
    rw [offsetsRise_iff]
    constructor
    · intro h k l hkl hl
      have := h k.val (by omega)
      have hl' : k.val + 1 < (verticesOf f).length := by omega
      rw [verticesOf_getElem f k (by omega)] at this
      have hv := verticesOf_getElem f l (by omega)
      simp only [hkl, hv] at this
      exact this
    · intro h i hi
      rw [verticesOf_getElem f ⟨i, by omega⟩ (by show i < _; omega), verticesOf_getElem f ⟨i + 1, by omega⟩ hi]
      exact h _ _ rfl (by show i + 1 < _; omega)
  simp only [maskLegal, Bool.and_eq_true, decide_eq_true_iff, List.all_eq_true, forall_verticesOf, hrise]
  constructor
  · rintro ⟨⟨⟨⟨h2, h16⟩, ho⟩, hr⟩, hv⟩
    exact ⟨h2, h16, fun k hk => ⟨(ho k hk).1, (ho k hk).2, hv k hk⟩, hr⟩
  · rintro ⟨h2, h16, hall, hr⟩
    exact ⟨⟨⟨⟨h2, h16⟩, fun k hk => ⟨(hall k hk).1, (hall k hk).2.1⟩⟩, hr⟩, fun k hk => (hall k hk).2.2⟩

theorem maskPut_of_slot {f : MaskFields} {m : MaskId} (hm : m.val = f.slot.toNat) : s.maskPut f =
    if s.maskBusy m then refuseWith .inUse s
    else if maskLegal f then accept { s with masks := s.masks.set m (some (verticesOf f)) }
    else refuseWith .outOfRange s := by
  rw [State.maskPut, codeBelow_of_val_eq hm]

theorem binmapPut_illegal {bins : Vector Byte 9} (h : ∃ k : Fin 9, 15 < bins[k].toNat) :
    s.binmapPut bins = refuseWith .outOfRange s := by
  refine if_neg fun hall => ?_
  obtain ⟨k, hk⟩ := h
  have := Vector.all_eq_true.1 hall k.val k.isLt
  rw [decide_eq_true_iff] at this
  exact absurd this (Nat.not_lt.2 hk)

theorem binmapPut_legal {bins : Vector Byte 9} {map : Vector (Fin 16) 9} (h : ∀ k : Fin 9, map[k].val = bins[k].toNat) :
    s.binmapPut bins = accept { s with binMap := map } := by
  have hall : (bins.all fun b => decide (b.toNat < 16)) = true :=
    Vector.all_eq_true.2 fun k hk => decide_eq_true ((h ⟨k, hk⟩) ▸ (map[k]).isLt)
  have hmap : bins.map binOf = map := by
    refine Vector.ext fun k hk => ?_
    have hbin : binOf bins[k] = map[k] := congrArg (Option.getD · 0) (codeBelow_of_val_eq (h ⟨k, hk⟩))
    rw [Vector.getElem_map, hbin]
  rw [State.binmapPut, if_pos hall, hmap]

/-- Settles O31: MASK_PUT by number, use and legality, and BINMAP_PUT. -/
theorem maskPutAndBinmapPut : Obligations.MaskPutAndBinmapPut := by
  intro h s hs hl
  refine ⟨fun f hb => ?_, fun f m hm => ?_, fun bins => ⟨fun hb => ?_, fun map hmap => ?_⟩⟩
  · exact row_of_refused (c := .maskPut h f) rfl hs hl (by show s.cleared.maskPut f = _; rw [State.maskPut, codeBelow_none hb])
  · intro busy n g v legal
    have hbusy : s.cleared.maskBusy m = true ↔ busy := maskBusy_iff (s := s)
    have hlegal : maskLegal f = true ↔ legal := maskLegal_iff
    have hput := maskPut_of_slot (s := s.cleared) hm
    refine ⟨fun hb => ?_, fun hb hbad => ?_, fun hb hok => ?_⟩
    · exact row_of_refused (c := .maskPut h f) rfl hs hl (hput.trans (if_pos (hbusy.2 hb)))
    · exact row_of_refused (c := .maskPut h f) rfl hs hl
        (hput.trans ((if_neg (mt hbusy.1 hb)).trans (if_neg (mt hlegal.1 hbad))))
    · exact row_of_quiet (c := .maskPut h f) (u := { s with masks := s.masks.set m (some (verticesOf f)) }) rfl hs hl
        (hput.trans ((if_neg (mt hbusy.1 hb)).trans (if_pos (hlegal.2 hok)))) ⟨rfl, rfl, List.Subset.refl _⟩
  · exact row_of_refused (c := .binmapPut h bins) rfl hs hl (binmapPut_illegal hb)
  · exact row_of_quiet (c := .binmapPut h bins) (u := { s with binMap := map }) rfl hs hl (binmapPut_legal (s := s.cleared) hmap)
      ⟨rfl, rfl, List.Subset.refl _⟩

end

end Sys2Proof.Machine

/-! PROOFS. The clamps of a stored plan (R42) and the plan that is read back and sent again (R45). -/

namespace Sys2Proof.Machine

section
variable {s : State} {f : PlanFields} {x : PlanShape} {p : Plan}

/-! ### The clamp report, identifier by identifier -/

/-- A field whose stored value differs from the value sent, by its identifier (R42, R175). -/
def fieldMoved (f : PlanFields) (p : Plan) : ClampId → Prop
  | .target b => b ∈ p.selected ∧ p.bands[b].target ≠ f.bands[b].target.toNat
  | .minimum b => b ∈ p.selected ∧ p.bands[b].minimum ≠ f.bands[b].minimum.toNat
  | .maxDuration => p.maxDuration ≠ f.maxDuration.toNat
  | .snapshotInterval => p.snapshot ≠ f.snapshot.toNat
  | .floorMargin => p.margin ≠ f.margin.toInt
  | .spurThreshold => ∃ r, p.spur = some r ∧ r.threshold ≠ f.spurThreshold.toNat
  | .spurLimit => ∃ r, p.spur = some r ∧ r.limit ≠ f.spurLimit.toInt
  | .spurReport => ∃ r, p.spur = some r ∧ r.report ≠ f.spurReport.toNat
  | .freqTolerance => ∃ t, p.tolerance = some t ∧ t ≠ f.tolerance.toNat
  | .warmUp | .retryLimit => False

theorem mem_reportIf {m : Bool} {i k : ClampId} : i ∈ reportIf m k ↔ m = true ∧ i = k := by
  cases m <;> simp [reportIf]

theorem mem_planClamps {c : ClampId} : c ∈ planClamps f p ↔ fieldMoved f p c := by
  unfold planClamps
  cases hs : p.spur <;> cases ht : p.tolerance <;> cases c <;>
    simp [fieldMoved, mem_reportIf, hs, ht, and_comm]

theorem mem_selected {b : BandId} : b ∈ p.selected ↔ p.startBand ≤ b ∧ b ≤ p.stopBand := by
  simp [Plan.selected, Plan.selects]

/-! ### O28: the clamps -/

theorem bandOf_val {b : Byte} {k : BandId} (h : bandOf b = some k) : k.val + 1 = b.toNat := by
  unfold bandOf at h
  split at h
  · cases h
  · next hb =>
    have hpos : b.toNat ≠ 0 := fun h0 => hb (BitVec.eq_of_toNat_eq h0)
    unfold codeBelow at h
    split at h
    · have hk : k.val = (b - 1).toNat := congrArg Fin.val (Option.some.inj h).symm
      have hlt := b.isLt
      rw [hk, BitVec.toNat_sub]
      show (2 ^ 8 - 1 + b.toNat) % 2 ^ 8 + 1 = b.toNat
      omega
    · cases h

theorem planShapeOf_fields (h : planShapeOf f = some x) : bandOf f.startBand = some x.startBand ∧
    bandOf f.stopBand = some x.stopBand ∧ boolCode f.spurPresent = some x.spur ∧
    boolCode f.tolerancePresent = some x.tolerance := by
  unfold planShapeOf at h
  simp only [Option.bind_eq_bind, Option.bind_eq_some_iff, Option.ite_none_right_eq_some, Option.some.injEq] at h
  obtain ⟨_, h1, _, h2, _, _, _, _, _, h3, _, h4, _, rfl⟩ := h
  exact ⟨h1, h2, h3, h4⟩

theorem clampNat_eq {lo hi : Nat} (h : lo ≤ hi) (n : Nat) : clampNat lo hi n = max lo (min n hi) := by
  unfold clampNat
  omega

theorem clampInt_eq {lo hi : Int} (n : Int) : clampInt lo hi n = max lo (min n hi) := by rw [clampInt, min_comm]

theorem storedPlan_band (b : BandId) : (storedPlan f x).bands[b] =
    if x.startBand ≤ b ∧ b ≤ x.stopBand then clampTarget f.bands[b] else ⟨0, 0⟩ := by simp [storedPlan]

theorem clampTarget_eq (t : BandFields) : (clampTarget t).target = max 1 (min t.target.toNat 4096) ∧
    (clampTarget t).minimum = max 1 (min t.minimum.toNat (clampTarget t).target) :=
  ⟨clampNat_eq (by decide) _, clampNat_eq (clampNat_bounds (by decide) _).1 _⟩

/-- Settles O28, field by field. -/
theorem planFieldsClamped : Obligations.PlanFieldsClamped := by
  intro f x hx p
  obtain ⟨hstart, hstop, hspur, htol⟩ := planShapeOf_fields hx
  have hsel {b : BandId} : b ∈ p.selected ↔ x.startBand ≤ b ∧ b ≤ x.stopBand := mem_selected
  refine ⟨bandOf_val hstart, bandOf_val hstop, clampNat_eq (by decide) _, ?_, ?_, fun b h1 h2 => ?_, fun b hb => ?_,
    fun h0 => ?_, fun h1 => ?_, fun h0 => ?_, fun h1 => ?_, mem_planClamps, mem_planClamps, mem_planClamps,
    fun b h1 h2 => ?_⟩
  · show clampSnapshot _ = _
    unfold clampSnapshot
    rw [clampNat_eq (by decide)]
  · show clampInt 0 2000 _ / 50 * 50 = _
    rw [clampInt_eq]
  · rw [storedPlan_band, if_pos ⟨h1, h2⟩]
    exact clampTarget_eq _
  · rw [storedPlan_band, if_neg hb, mem_planClamps, mem_planClamps]
    exact ⟨rfl, fun h => hb (hsel.1 h.1), fun h => hb (hsel.1 h.1)⟩
  · have hp : p.spur = none := by
      rw [h0] at hspur
      have hoff : x.spur = false := Option.some.inj (hspur.symm.trans (by rfl))
      exact if_neg (by rw [hoff]; nofun)
    refine ⟨hp, ?_, ?_, ?_⟩ <;> rw [mem_planClamps] <;> rintro ⟨r, hr, -⟩ <;> exact nomatch hp.symm.trans hr
  · have hp : p.spur = some (clampSpur f) := by
      rw [h1] at hspur
      have hon : x.spur = true := Option.some.inj (hspur.symm.trans (by rfl))
      exact if_pos hon
    have only {q : SpurRule → Prop} : (∃ r, p.spur = some r ∧ q r) ↔ q (clampSpur f) := by simp [hp]
    refine ⟨clampSpur f, hp, ?_, clampInt_eq _, rfl, mem_planClamps.trans only, mem_planClamps.trans only,
      mem_planClamps.trans only⟩
    show ((clampNat 600 4000 _ : Nat) : Int) = _
    rw [clampNat_eq (by decide)]
    push_cast
    rfl
  · have hp : p.tolerance = none := by
      rw [h0] at htol
      have hoff : x.tolerance = false := Option.some.inj (htol.symm.trans (by rfl))
      exact if_neg (by rw [hoff]; nofun)
    refine ⟨hp, ?_⟩
    rw [mem_planClamps]
    rintro ⟨t, ht, -⟩
    exact nomatch hp.symm.trans ht
  · have hp : p.tolerance = some (min f.tolerance.toNat 1000000) := by
      rw [h1] at htol
      have hon : x.tolerance = true := Option.some.inj (htol.symm.trans (by rfl))
      exact if_pos hon
    refine ⟨_, hp, rfl, mem_planClamps.trans ?_⟩
    show (∃ t, p.tolerance = some t ∧ _) ↔ _
    simp [hp]
  · rw [mem_planClamps, mem_planClamps]
    exact ⟨and_iff_right (hsel.2 ⟨h1, h2⟩), and_iff_right (hsel.2 ⟨h1, h2⟩)⟩

/-! ### O29: a plan read back -/

/-- What the structural check finds in the fields of a stored plan (R45). -/
def Plan.shape (p : Plan) : PlanShape :=
  ⟨p.startBand, p.stopBand, p.earlyStop, p.mask, p.spur.isSome, p.tolerance.isSome, p.jitter.length⟩

@[simp] theorem bandOf_number (b : BandId) : bandOf (BitVec.ofNat 8 b.number) = some b := by revert b; decide

@[simp] theorem boolCode_ite (b : Bool) : boolCode (if b then 1 else 0) = some b := by cases b <;> rfl

theorem maskFieldOf_toFields (m : Option MaskId) :
    maskFieldOf (if m.isSome then 1 else 0) ((m.map fun m => BitVec.ofNat 8 m.val).getD 0) = some m := by
  cases m with
  | none => rfl
  | some m =>
    show (codeBelow 8 (BitVec.ofNat 8 m.val)).map some = some (some m)
    rw [codeBelow_ofNat (by decide)]
    rfl

theorem planShapeOf_toFields (i : PlanId) (hb : p.startBand ≤ p.stopBand) (hj : p.jitter.length ≤ 4) :
    planShapeOf (p.toFields i) = some p.shape := by
  have hcount : (BitVec.ofNat 8 p.jitter.length).toNat = p.jitter.length := by rw [BitVec.toNat_ofNat]; omega
  simp only [planShapeOf, Plan.toFields, bandOf_number, boolCode_ite, maskFieldOf_toFields, hcount]
  exact if_pos ⟨hb, hj⟩

/-- An edge at or below a grid point is within 10 MHz (R82). -/
theorem le_of_gridAtLeast {b : BandId} {n : Nat} (h : gridAtLeast (lastPoint b) n = true) : n ≤ 10000000 := by
  have hlast : ∀ b : BandId, lastPoint b ≤ 60 := by decide
  replace hlast := hlast b
  by_contra hn
  have h1 : n ^ 10 ≤ 10 ^ (10 + lastPoint b) := of_decide_eq_true h
  have h2 : 10 ^ (10 + lastPoint b) ≤ 10 ^ 70 := Nat.pow_le_pow_right (by decide) (by omega)
  have h3 : 10000001 ^ 10 ≤ n ^ 10 := Nat.pow_le_pow_left (by omega) 10
  have h4 : (10 : Nat) ^ 70 < 10000001 ^ 10 := by norm_num
  omega

theorem toNat_ofNat_32 {n : Nat} (h : n ≤ 10000000) : (BitVec.ofNat 32 n).toNat = n := by rw [BitVec.toNat_ofNat]; omega

/-- The jitter bands of a plan read back are those stored. -/
theorem jitterBandsOf_toFields (i : PlanId) (hl : p.jitter.length ≤ 4)
    (hj : ∀ b ∈ p.jitter, b.fLo ≤ 10000000 ∧ b.fHi ≤ 10000000 ∧ b.limit ≤ 10000000) :
    jitterBandsOf (p.toFields i) p.jitter.length = p.jitter := by
  refine List.ext_getElem (by simpa [jitterBandsOf] using hl) fun k h1 h2 => ?_
  obtain ⟨b1, b2, b3⟩ := hj _ (List.getElem_mem h2)
  simp only [jitterBandsOf, Plan.toFields, List.getElem_map, List.getElem_take, Vector.getElem_toList, Vector.getElem_ofFn,
    List.getElem?_eq_getElem h2]
  rw [toNat_ofNat_32 b1, toNat_ofNat_32 b2, toNat_ofNat_32 b3]

theorem clampTarget_toFields {t : BandTarget} (h1 : 1 ≤ t.minimum) (h2 : t.minimum ≤ t.target) (h3 : t.target ≤ 4096) :
    clampTarget ⟨BitVec.ofNat 16 t.target, BitVec.ofNat 16 t.minimum⟩ = t := by
  have ht : (BitVec.ofNat 16 t.target).toNat = t.target := by rw [BitVec.toNat_ofNat]; omega
  have hm : (BitVec.ofNat 16 t.minimum).toNat = t.minimum := by rw [BitVec.toNat_ofNat]; omega
  have htc : clampNat 1 4096 t.target = t.target := by unfold clampNat; omega
  have hmc : clampNat 1 t.target t.minimum = t.minimum := by unfold clampNat; omega
  simp only [clampTarget, ht, hm, htc, hmc]

theorem toInt_ofInt_16 {n : Int} (h1 : -20000 ≤ n) (h2 : n ≤ 20000) : (BitVec.ofInt 16 n).toInt = n := by
  rw [BitVec.toInt_ofInt, Int.bmod_eq_of_le] <;> omega

theorem toNat_ofInt_16 {n : Int} (h1 : 0 ≤ n) (h2 : n ≤ 20000) : ((BitVec.ofInt 16 n).toNat : Int) = n := by
  rw [BitVec.toNat_ofInt]
  omega

theorem clampInt_self {lo hi n : Int} (h1 : lo ≤ n) (h2 : n ≤ hi) : clampInt lo hi n = n := by unfold clampInt; omega
theorem clampNat_self {lo hi n : Nat} (h1 : lo ≤ n) (h2 : n ≤ hi) : clampNat lo hi n = n := by unfold clampNat; omega

theorem clampMargin_self {n : Int} (h1 : 0 ≤ n) (h2 : n ≤ 2000) (h3 : n % 50 = 0) : clampMargin n = n := by
  rw [clampMargin, clampInt_self h1 h2]
  omega

theorem clampSnapshot_self {n : Nat} (h : n = 0 ∨ (100 ≤ n ∧ n ≤ 10000)) : clampSnapshot n = n := by
  unfold clampSnapshot
  split
  · next hn => exact hn.symm
  · next hn =>
    obtain ⟨h1, h2⟩ := h.resolve_left hn
    exact clampNat_self h1 h2

theorem toFields_band (i : PlanId) (b : BandId) : (p.toFields i).bands[b] =
    ⟨BitVec.ofNat 16 p.bands[b].target, BitVec.ofNat 16 p.bands[b].minimum⟩ := by simp [Plan.toFields]

section
variable (hp : p.sound) (i : PlanId)
include hp

theorem toFields_maxDuration : (p.toFields i).maxDuration.toNat = p.maxDuration := by
  obtain ⟨-, -, -, hd, -⟩ := hp
  exact toNat_ofNat_32 (by omega)

theorem toFields_snapshot : (p.toFields i).snapshot.toNat = p.snapshot := by
  obtain ⟨-, -, -, -, -, hs, -⟩ := hp
  show (BitVec.ofNat 16 p.snapshot).toNat = _
  rw [BitVec.toNat_ofNat]
  omega

theorem toFields_margin : (p.toFields i).margin.toInt = p.margin := by
  obtain ⟨-, -, -, -, -, -, h1, h2, -⟩ := hp
  exact toInt_ofInt_16 (by omega) (by omega)

theorem toFields_tolerance {t : Nat} (ht : p.tolerance = some t) : (p.toFields i).tolerance.toNat = t ∧ t ≤ 1000000 := by
  obtain ⟨-, -, -, -, -, -, -, -, -, -, -, -, htol⟩ := hp
  have hle : t ≤ 1000000 := by simpa [ht] using htol
  refine ⟨?_, hle⟩
  rw [Plan.toFields, ht]
  exact toNat_ofNat_32 (by omega)

/-- A stored spur rule, with the fields that are read back of it (R42, R45). -/
theorem toFields_spur {r : SpurRule} (hr : p.spur = some r) : ((p.toFields i).spurThreshold.toNat : Int) = r.threshold ∧
    (p.toFields i).spurLimit.toInt = r.limit ∧ (p.toFields i).spurReport.toNat = r.report ∧
    clampSpur (p.toFields i) = r := by
  obtain ⟨-, -, -, -, -, -, -, -, -, -, -, hspur, -⟩ := hp
  have hsound : r.sound = true := by simpa [hr] using hspur
  simp only [SpurRule.sound, Bool.and_eq_true, decide_eq_true_iff] at hsound
  obtain ⟨⟨⟨⟨t1, t2⟩, l1⟩, l2⟩, hrep⟩ := hsound
  have ht : ((p.toFields i).spurThreshold.toNat : Int) = r.threshold := by
    rw [Plan.toFields, hr]
    exact toNat_ofInt_16 (by omega) (by omega)
  have hl : (p.toFields i).spurLimit.toInt = r.limit := by
    rw [Plan.toFields, hr]
    exact toInt_ofInt_16 (by omega) (by omega)
  have hn : (p.toFields i).spurReport.toNat = r.report := by
    rw [Plan.toFields, hr]
    show (BitVec.ofNat 8 r.report).toNat = _
    rw [BitVec.toNat_ofNat]
    omega
  refine ⟨ht, hl, hn, ?_⟩
  have hc : clampNat 600 4000 (p.toFields i).spurThreshold.toNat = (p.toFields i).spurThreshold.toNat :=
    clampNat_self (by omega) (by omega)
  rw [clampSpur, hc, ht, hl, hn, clampInt_self l1 l2, min_eq_left hrep]

theorem selected_bounds {b : BandId} (hb : p.startBand ≤ b ∧ b ≤ p.stopBand) :
    1 ≤ p.bands[b].minimum ∧ p.bands[b].minimum ≤ p.bands[b].target ∧ p.bands[b].target ≤ 4096 := by
  obtain ⟨-, hbands, -⟩ := hp
  have h := List.all_eq_true.1 hbands b (List.mem_finRange b)
  have hsel : p.selects b = true := by simp [Plan.selects, hb]
  simpa [Plan.bandSound, hsel, and_assoc] using h

theorem unselected_band {b : BandId} (hb : ¬(p.startBand ≤ b ∧ b ≤ p.stopBand)) : p.bands[b] = ⟨0, 0⟩ := by
  obtain ⟨-, hbands, -⟩ := hp
  have h := List.all_eq_true.1 hbands b (List.mem_finRange b)
  have hsel : p.selects b = false := by rw [← Bool.not_eq_true]; simpa [Plan.selects] using hb
  have h0 : p.bands[b].target = 0 ∧ p.bands[b].minimum = 0 := by simpa [Plan.bandSound, hsel] using h
  exact congrArg₂ BandTarget.mk h0.1 h0.2

theorem jitter_bounds : ∀ b ∈ p.jitter, b.fLo ≤ 10000000 ∧ b.fHi ≤ 10000000 ∧ b.limit ≤ 10000000 := by
  obtain ⟨-, -, -, -, -, -, -, -, -, -, hj, -⟩ := hp
  intro b hb
  have h := List.all_eq_true.1 hj b hb
  simp only [Bool.and_eq_true, decide_eq_true_iff] at h
  obtain ⟨⟨⟨⟨-, hlim⟩, hlt⟩, -⟩, hhi⟩ := h
  have := le_of_gridAtLeast hhi
  omega

theorem jitter_legal : p.jitter.all (jitterBandLegal p.shape) = true := by
  obtain ⟨-, -, -, -, -, -, -, -, -, -, hj, -⟩ := hp
  refine List.all_eq_true.2 fun b hb => ?_
  have h := List.all_eq_true.1 hj b hb
  simp only [Bool.and_eq_true] at h
  obtain ⟨⟨⟨⟨h1, h2⟩, h3⟩, h4⟩, h5⟩ := h
  simp only [jitterBandLegal, Bool.and_eq_true]
  exact ⟨⟨⟨⟨h4, h3⟩, h5⟩, h1⟩, h2⟩

/-- A legal plan read back and sent again is stored as it was (R45). -/
theorem storedPlan_toFields : storedPlan (p.toFields i) p.shape = p := by
  have hbands : (storedPlan (p.toFields i) p.shape).bands = p.bands := by
    suffices hband : ∀ b : BandId, (storedPlan (p.toFields i) p.shape).bands[b] = p.bands[b] from
      Vector.ext fun k hk => hband ⟨k, hk⟩
    intro b
    rw [storedPlan_band]
    by_cases hb : p.startBand ≤ b ∧ b ≤ p.stopBand
    · obtain ⟨h1, h2, h3⟩ := selected_bounds hp hb
      rw [if_pos (show p.shape.startBand ≤ b ∧ b ≤ p.shape.stopBand from hb), toFields_band i,
        clampTarget_toFields h1 h2 h3]
    · rw [if_neg (show ¬(p.shape.startBand ≤ b ∧ b ≤ p.shape.stopBand) from hb), unselected_band hp hb]
  have hjitter : (storedPlan (p.toFields i) p.shape).jitter = p.jitter := jitterBandsOf_toFields i (by
    obtain ⟨-, -, -, -, -, -, -, -, -, hlen, -⟩ := hp
    exact hlen) (jitter_bounds hp)
  have hspur : (storedPlan (p.toFields i) p.shape).spur = p.spur := by
    show (if p.spur.isSome then some (clampSpur (p.toFields i)) else none) = p.spur
    cases hr : p.spur with
    | none => rfl
    | some r => exact congrArg some (toFields_spur hp i hr).2.2.2
  have htol : (storedPlan (p.toFields i) p.shape).tolerance = p.tolerance := by
    show (if p.tolerance.isSome then some (min (p.toFields i).tolerance.toNat 1000000) else none) = p.tolerance
    cases ht : p.tolerance with
    | none => rfl
    | some t =>
      obtain ⟨h1, h2⟩ := toFields_tolerance hp i ht
      rw [h1, min_eq_left h2]
      rfl
  have hdur : (storedPlan (p.toFields i) p.shape).maxDuration = p.maxDuration := by
    show clampNat 100 600000 (p.toFields i).maxDuration.toNat = _
    rw [toFields_maxDuration hp]
    exact clampNat_self hp.2.2.1 hp.2.2.2.1
  have hsnap : (storedPlan (p.toFields i) p.shape).snapshot = p.snapshot := by
    show clampSnapshot (p.toFields i).snapshot.toNat = _
    rw [toFields_snapshot hp]
    obtain ⟨-, -, -, -, -, hs, -⟩ := hp
    exact clampSnapshot_self hs
  have hmargin : (storedPlan (p.toFields i) p.shape).margin = p.margin := by
    show clampMargin (p.toFields i).margin.toInt = _
    rw [toFields_margin hp]
    obtain ⟨-, -, -, -, -, -, h1, h2, h3, -⟩ := hp
    exact clampMargin_self h1 h2 h3
  cases p
  simp only [storedPlan, Plan.shape, Plan.mk.injEq] at *
  exact ⟨trivial, trivial, hbands, hdur, trivial, hsnap, hmargin, trivial, hjitter, hspur, htol⟩

/-- The clamp report of a legal plan read back is empty (R45). -/
theorem planClamps_toFields : planClamps (p.toFields i) p = [] := by
  refine List.eq_nil_iff_forall_not_mem.2 fun c hc => ?_
  rw [mem_planClamps] at hc
  cases c with
  | warmUp => exact hc
  | retryLimit => exact hc
  | target b =>
    obtain ⟨h1, h2, h3⟩ := selected_bounds hp (mem_selected.1 hc.1)
    refine hc.2 ?_
    rw [toFields_band]
    show _ = (BitVec.ofNat 16 _).toNat
    rw [BitVec.toNat_ofNat]
    omega
  | minimum b =>
    obtain ⟨h1, h2, h3⟩ := selected_bounds hp (mem_selected.1 hc.1)
    refine hc.2 ?_
    rw [toFields_band]
    show _ = (BitVec.ofNat 16 _).toNat
    rw [BitVec.toNat_ofNat]
    omega
  | maxDuration => exact hc (toFields_maxDuration hp i).symm
  | snapshotInterval => exact hc (toFields_snapshot hp i).symm
  | floorMargin => exact hc (toFields_margin hp i).symm
  | spurThreshold =>
    obtain ⟨r, hr, h⟩ := hc
    exact h (toFields_spur hp i hr).1.symm
  | spurLimit =>
    obtain ⟨r, hr, h⟩ := hc
    exact h (toFields_spur hp i hr).2.1.symm
  | spurReport =>
    obtain ⟨r, hr, h⟩ := hc
    exact h (toFields_spur hp i hr).2.2.1.symm
  | freqTolerance =>
    obtain ⟨t, ht, h⟩ := hc
    exact h (toFields_tolerance hp i ht).1.symm

end

/-- Settles O29: the checks pass, what is stored is the plan, and no value has moved. -/
theorem planReadBackIsStoredUnclamped : Obligations.PlanReadBackIsStoredUnclamped := by
  intro h i p s hs hl hp hmask hu
  have hslot : i.val = (p.toFields i).slot.toNat := by
    show _ = (BitVec.ofNat 8 i.val).toNat
    rw [BitVec.toNat_ofNat]
    omega
  have hlen : p.jitter.length ≤ 4 := by
    obtain ⟨-, -, -, -, -, -, -, -, -, hlen, -⟩ := hp
    exact hlen
  have hstored := storedPlan_toFields hp i
  have hcheck : s.checkPlan (p.toFields i) = .ok p := by
    have hjit : jitterBandsOf (p.toFields i) p.shape.jitterCount = p.jitter := jitterBandsOf_toFields i hlen (jitter_bounds hp)
    rw [checkPlan_legal (planShapeOf_toFields i hp.1 hlen) (by rw [hjit]; exact jitter_legal hp) (by
      rw [hstored]
      obtain ⟨-, -, -, -, hd, -⟩ := hp
      exact hd), hstored]
    refine if_neg ?_
    rw [Bool.not_eq_true, Option.any_eq_false]
    exact fun m hpm => Bool.eq_false_iff.2 fun hn => hmask m hpm (Option.isNone_iff_eq_none.1 hn)
  have hc := planPut_stored (s := s.cleared) hslot hu hcheck
  rw [planClamps_toFields hp] at hc
  exact row_of_quiet (c := .planPut h (p.toFields i)) (u := { s with plans := s.plans.set i (some p) }) rfl hs hl hc
    ⟨rfl, rfl, List.Subset.refl _⟩

end

end Sys2Proof.Machine

/-! PROOFS. Jobs that are accepted (R56 to R58) and groups that are released (R60), with the close of an event while the start
condition fails (R32, R65). -/

namespace Sys2Proof.Machine

section
variable {s u v s₀ : State}

/-! ### The close while the start condition fails -/

theorem startCondition_eq_false {b : Timebase} (hm : b.mode = .external) (hd : b.discipline ≠ .locked) :
    b.startCondition = false := by
  rw [Timebase.startCondition, hm]
  exact beq_eq_false_iff_ne.2 hd

theorem findHead_eq_none (h : u.timebase.startCondition = false) : u.findHead = none :=
  if_neg (by rw [h]; nofun)

/-- The state after a reconsideration that finds no head (R65, R68). -/
def State.headless (s : State) : State := { s with
  reconsider := false
  head := none
  lanes := s.lanes.map fun x => if x.state = .reserved then { x with state := .idle } else x }

theorem arbitrate_of_no_head (hr : u.reconsider = true) (h : u.findHead = none) : u.arbitrate = u.headless := by
  rw [State.arbitrate, if_pos hr, State.reconsiderWith, h]
  rfl

/-- While the start condition fails, a reconsideration takes the reservations away and leaves all else (R65). -/
theorem close_without_start (hc : u.timebase.startCondition = false) (hr : u.reconsider = true)
    (hg : u.startingMembers = []) (hs : u.results ⊆ s₀.results) : (u.close s₀).behindPort = u.headless.behindPort := by
  have hstart : u.startGangs = u := by rw [State.startGangs, hg]; rfl
  have hfin : u.finish = u.headless.settlePort := by
    rw [State.finish, hstart, arbitrate_of_no_head hr (findHead_eq_none hc)]
  have hres : u.finish.results ⊆ s₀.results := by rw [hfin, settlePort_results]; exact hs
  rw [close_of_subset hres, hfin, settlePort_behindPort]

/-! ### Gangs that cannot start -/

/-- No gang can start where every waiting member has another that is still tuning (R73). -/
theorem startingMembers_eq_nil_iff : s.startingMembers = [] ↔ ∀ j ∈ s.jobs, j.state = .gangWait →
    ∃ g, j.gang = some g ∧ ∃ k ∈ s.jobs, k.id ∈ g ∧ k.state = .tuning := by
  rw [State.startingMembers, List.filter_eq_nil_iff]
  refine forall₂_congr fun j _ => ?_
  rw [Bool.and_eq_true, beq_iff_eq, not_and]
  refine imp_congr_right fun _ => ?_
  unfold State.gangOf
  cases j.gang with
  | none => simp
  | some g =>
    simp only [List.all_eq_true, List.mem_filter, bne_iff_ne, List.contains_iff_mem, not_forall, Option.some.injEq,
      exists_eq_left', not_not, exists_prop, and_assoc]

/-- A job table that keeps the waiting members and the tuning jobs has no more gangs to start (R73). -/
theorem startingMembers_of_kept (hs : s.startingMembers = []) (hw : ∀ k ∈ u.jobs, k.state = .gangWait → k ∈ s.jobs)
    (ht : ∀ k ∈ s.jobs, k.state = .tuning → k ∈ u.jobs) : u.startingMembers = [] := by
  rw [startingMembers_eq_nil_iff] at hs ⊢
  intro j hj hst
  obtain ⟨g, hg, k, hk, hid, hkt⟩ := hs j (hw j hj hst) hst
  exact ⟨g, hg, k, ht k hk hkt, hid, hkt⟩

/-! ### O35: GROUP_RELEASE -/

/-- The job table after the release of a group (R60). -/
def State.ganged (s : State) (g : Fin 16) : State := { s with jobs := s.jobs.map fun j =>
  if j.state = .held ∧ j.group = g then { j with state := .queued, gang := some ((s.heldSet g).map Job.id) } else j }

theorem ganged_startingMembers (g : Fin 16) (hs : s.startingMembers = []) : (s.ganged g).startingMembers = [] := by
  refine startingMembers_of_kept hs (fun k hk hst => ?_) fun k hk hst => ?_
  · obtain ⟨j, hj, rfl⟩ := List.mem_map.1 hk
    split at hst
    · cases hst
    · next hn => rw [if_neg hn]; exact hj
  · refine List.mem_map.2 ⟨k, hk, if_neg fun h => ?_⟩
    rw [hst] at h
    cases h.1

theorem groupRelease_of_group {group : Byte} {g : Fin 16} (hg : g.val = group.toNat) (h0 : g ≠ 0) : s.groupRelease group =
    if s.heldSet g = [] then refuseWith .noSuch s
    else ((s.ganged g).callArbiter, Reply.ok (u8 (s.heldSet g).length)) := by
  simp only [State.groupRelease, codeBelow_of_val_eq hg, if_neg h0]
  rfl

theorem groupRelease_out_of_range {group : Byte} (h : group = 0 ∨ 15 < group.toNat) :
    s.groupRelease group = refuseWith .outOfRange s := by
  rcases h with rfl | h
  · rfl
  · rw [State.groupRelease, codeBelow_none h]

/-- Settles O35: the refusals, and the gang. -/
theorem groupReleaseMakesGang : Obligations.GroupReleaseMakesGang := by
  intro h group s hs hl refused
  refine ⟨fun hb => row_of_refused (c := .groupRelease h group) rfl hs hl (groupRelease_out_of_range hb), fun g hg h0 => ?_⟩
  intro held s'
  have hheld : s.heldSet g = held := heldSet_eq_filter s g
  have hs' : s' = s.ganged g := by rw [State.ganged, hheld]
  have hc := groupRelease_of_group (s := s.cleared) hg h0
  refine ⟨fun hnil => ?_, fun hne => ?_⟩
  · exact row_of_refused (c := .groupRelease h group) rfl hs hl (hc.trans (if_pos (hheld.trans hnil)))
  · obtain ⟨hexec, hans, hcar⟩ := row_of_carried (c := .groupRelease h group) (u := s.ganged g) rfl hl
      (hc.trans (if_neg (show s.heldSet g ≠ [] from fun hn => hne (hheld.symm.trans hn)))) (callArbiter_carried _)
      (List.Subset.refl _)
    refine ⟨_, hexec, ?_, by rw [hs']; exact hcar, fun hm hd => ?_⟩
    · rw [← hheld]
      exact hans
    · refine (close_without_start (u := ((s.ganged g).cleared.callArbiter.holding _ _ _)) (startCondition_eq_false hm hd) rfl
        (ganged_startingMembers g hs.2.1) (List.Subset.refl s.results)).trans ?_
      have hrec : s.reconsider = false := hs.1
      rw [hs']
      unfold State.behindPort State.headless State.ganged
      dsimp only
      rw [hrec]
      rfl

/-! ### O33: JOB_SUBMIT -/

/-- The ids of the ring are 1 to 65535 (R56). -/
theorem followingId_iterate_ring {n : Nat} (h1 : 1 ≤ n) (h2 : n ≤ 65535) (k : Nat) (hk : k ≤ 64) :
    followingId^[k] n = (n - 1 + k) % 65535 + 1 := by
  rw [followingId_iterate n k (by omega) (by omega)]
  split <;> omega

theorem submitRefusal_eq_none {i : SiteId} {p : PlanId} {g : Fin 16} (hlen : s.jobs.length < 64) (hp : s.plans[p] ≠ none)
    (hx : (s.site i).acceptsJobs = true) (hg : g ≠ 0 → (s.heldSet g).length < 4 ∧ ∀ j ∈ s.heldSet g, j.site ≠ i) :
    s.submitRefusal i p g = none := by
  rw [State.submitRefusal, if_neg (Nat.not_le.2 hlen), if_neg hp, if_neg (by rw [hx]; nofun),
    if_neg fun h => absurd (hg h.1).1 (Nat.not_lt.2 h.2), if_neg]
  rintro ⟨h0, hany⟩
  obtain ⟨j, hj, hji⟩ := List.any_eq_true.1 hany
  exact (hg h0).2 j hj (beq_iff_eq.1 hji)

theorem acceptsJobs_of {x : Site} (hc : x.configured = true) (hl : x.state ≠ .faultLatched)
    (ho : x.state = .off → x.powerPending = true) : x.acceptsJobs = true := by
  rw [← Bool.not_eq_false, acceptsJobs_eq_false_iff]
  rintro (h | h | ⟨h1, h2⟩)
  · rw [hc] at h; cases h
  · exact hl h
  · rw [ho h1] at h2; cases h2

theorem priorityOf_code (u : Priority) : priorityOf u.code = some u := by cases u <;> rfl

theorem jobSubmit_accepted {i : SiteId} {p : PlanId} {g : Fin 16} {u : Priority} (h : s.submitRefusal i p g = none) :
    s.jobSubmit (BitVec.ofNat 8 i.val) (BitVec.ofNat 8 p.val) (BitVec.ofNat 8 g.val) u.code = s.submit i p g u := by
  simp only [State.jobSubmit, codeBelow_ofNat (by decide : 16 ≤ 256), codeBelow_ofNat (by decide : 32 ≤ 256), priorityOf_code, h]

theorem submit_noCarrier {i : SiteId} {p : PlanId} {g : Fin 16} {u : Priority} (h : (s.site i).state = .noCarrier) :
    let j := Job.fresh (s.freshId 65 s.nextId) s.nextSeq i p g u
    s.submit i p g u = ((s.addJob j).endTerminal .noCarrier j.id, Reply.ok (u16 j.id ++ [some 6])) := if_pos h

theorem submit_waits {i : SiteId} {p : PlanId} {g : Fin 16} {u : Priority} (h : (s.site i).state ≠ .noCarrier) :
    let j := Job.fresh (s.freshId 65 s.nextId) s.nextSeq i p g u
    s.submit i p g u = ((s.addJob j).callArbiterIf (g == 0), Reply.ok (u16 j.id ++ [some (if g = 0 then 1 else 0)])) := by
  refine (if_neg h).trans ?_
  show (_, Reply.ok (u16 _ ++ one (if g = 0 then JobState.queued else .held).code)) = _
  split <;> rfl

theorem fresh_state_ne {n q : Nat} {i : SiteId} {p : PlanId} {g : Fin 16} {u : Priority} :
    (Job.fresh n q i p g u).state.waiting = true := by
  show (if g = 0 then JobState.queued else .held).waiting = true
  split <;> rfl

/-- A new record waits, so no gang can start with it (R58, R73). -/
theorem addJob_startingMembers {j : Job} (hj : j.state.waiting = true) (hs : s.startingMembers = []) :
    (s.addJob j).startingMembers = [] := by
  refine startingMembers_of_kept hs (fun k hk hst => ?_) fun k hk _ => List.mem_append_left _ hk
  rcases List.mem_append.1 hk with hk | hk
  · exact hk
  · rw [List.mem_singleton.1 hk] at hst
    rw [hst] at hj
    cases hj

theorem addJob_distinct {j : Job} (hd : s.distinct) (hj : ∀ k ∈ s.jobs, k.id ≠ j.id) : (s.addJob j).distinct := by
  show ((s.jobs ++ [j]).map Job.id).Nodup
  rw [List.map_append, List.nodup_append]
  refine ⟨hd, List.nodup_singleton _, fun a ha b hb => ?_⟩
  obtain ⟨k, hk, rfl⟩ := List.mem_map.1 ha
  rw [List.mem_singleton.1 hb]
  exact hj k hk

/-- Settles O33: the record and its id, and what becomes of it at a site in NO_CARRIER, in a group, and else. -/
theorem jobSubmitAccepted : Obligations.JobSubmitAccepted := by
  intro h i p g u s hs hl hd hlen h1 h2 hp x held hcfg hlatch hoff hg
  have hheld : s.heldSet g = held := heldSet_eq_filter s g
  have hok : s.submitRefusal i p g = none :=
    submitRefusal_eq_none hlen hp (acceptsJobs_of hcfg hlatch hoff) (by rw [hheld]; exact hg)
  obtain ⟨n, hn, hid, hused, hfree⟩ := freshId_first (s := s) hlen.le s.nextId
  let id := s.freshId 65 s.nextId
  let j := Job.fresh id s.nextSeq i p g u
  have hring (m : Nat) (hm : m ≤ 64) : followingId^[m] s.nextId = (s.nextId - 1 + m) % 65535 + 1 :=
    followingId_iterate_ring h1 h2 m hm
  have hids : ∀ k ∈ s.jobs, k.id ≠ id := job?_eq_none_iff.1 hfree
  have hearlier : ∀ m < n, ∃ k ∈ s.jobs, k.id = (s.nextId - 1 + m) % 65535 + 1 := fun m hm => by
    obtain ⟨k, hk⟩ := Option.isSome_iff_exists.1 (hused m hm)
    exact ⟨k, job?_mem hk, (job?_id hk).trans (hring m (by omega))⟩
  have hdj : (s.addJob j).distinct := addJob_distinct hd hids
  have hc := jobSubmit_accepted (s := s.cleared) (u := u) hok
  by_cases hx : x.state = .noCarrier
  · obtain ⟨hexec, hans, hcar⟩ := row_of_carried (c := .jobSubmit h _ _ _ _) (u := s.addJob j) rfl hl
      (hc.trans (submit_noCarrier (s := s.cleared) hx)) (endTerminal_carried _ _ _) (List.Subset.refl _)
    refine ⟨_, id, n, hexec, by omega, hid.trans (hring n hn), hids, hearlier, ?_, hcar, fun _ => ?_,
      fun hne => absurd hx hne, fun hne => absurd hx hne⟩
    · rw [if_pos hx]
      exact hans
    · have hmem : j ∈ (s.addJob j).cleared.jobs := List.mem_append_right _ (List.mem_singleton.2 rfl)
      have hend : ((s.addJob j).cleared.endTerminal .noCarrier j.id).ended j.id .noCarrier .noCarrier :=
        endTerminal_ended (s := (s.addJob j).cleared) hdj hmem (waiting_not_ended fresh_state_ne).1
          (waiting_not_ended fresh_state_ne).2 .noCarrier
      exact State.ended.close (s := State.holding _ _ _ _) hend
        ((endTerminal_carried .noCarrier (s.addJob j).cleared j.id).distinct hdj) s
  · have hstart := addJob_startingMembers (j := j) fresh_state_ne hs.2.1
    have hsub := hc.trans (submit_waits (s := s.cleared) hx)
    obtain ⟨hexec, hans, hcar⟩ := row_of_carried (c := .jobSubmit h _ _ _ _) (u := s.addJob j) rfl hl
      hsub (callArbiterIf_carried _ _) (List.Subset.refl _)
    refine ⟨_, id, n, hexec, by omega, hid.trans (hring n hn), hids, hearlier, ?_, hcar, fun hno => absurd hno hx,
      fun _ h0 => ?_, fun _ h0 hm hdisc => ?_⟩
    · rw [if_neg hx]
      exact hans
    · rw [beq_false_of_ne h0]
      exact close_behindPort (s := State.holding (s.addJob j).cleared _ _ _) hs.1 hstart (List.Subset.refl s.results)
    · subst h0
      refine (close_without_start (u := State.holding (s.addJob j).cleared.callArbiter _ _ _) (startCondition_eq_false hm hdisc)
        rfl hstart (List.Subset.refl s.results)).trans ?_
      have hrec : s.reconsider = false := hs.1
      unfold State.behindPort State.headless
      dsimp only
      rw [hrec]
      rfl

end

end Sys2Proof.Machine

/-! PROOFS. JOB_ABORT (R74, R75): the jobs it addresses have ended, and no lane serves them any more. -/

namespace Sys2Proof.Machine

section
variable {s t u : State} {n : Nat} {l : LaneId}

/-! ### A lane that does not serve a finished job -/

/-- A job is DONE and a lane does not serve it. -/
structure State.unserved (s : State) (n : Nat) (l : LaneId) : Prop where
  distinct : s.distinct
  done : ∃ k ∈ s.jobs, k.id = n ∧ k.state = .done
  lane : (s.lane l).job ≠ some n

/-- No job but the one of the record carries its id, so no other state. -/
theorem State.unserved.id_ne (h : s.unserved n l) {j : Job} (hj : j ∈ s.jobs) (hs : j.state ≠ .done) : j.id ≠ n := by
  rintro rfl
  obtain ⟨k, hk, hid, hst⟩ := h.done
  exact hs (h.distinct.unique hk hj hid ▸ hst)

theorem State.unserved.step {X : Nat → Prop} (h : s.unserved n l) (hc : Carried s t) (hr : Reaches X s t) (hx : ¬X n)
    (hl : (t.lane l).job = some n → (s.lane l).job = some n) : t.unserved n l := by
  refine ⟨hc.distinct h.distinct, ?_, fun hn => h.lane (hl hn)⟩
  obtain ⟨k, hk, rfl, hst⟩ := h.done
  obtain ⟨k', hk', g, rfl⟩ := hr k hk hx
  exact ⟨_, hk', rfl, hst⟩

theorem State.unserved.of_jobs (h : s.unserved n l) (hc : Carried s t) (hj : t.jobs = s.jobs)
    (hl : (t.lane l).job = some n → (s.lane l).job = some n) : t.unserved n l :=
  h.step (X := fun _ => False) hc (.of_jobs hj) not_false hl

theorem moveLanes_job (s : State) (p q : LaneState) (l : LaneId) : ((s.moveLanes p q).lane l).job = (s.lane l).job := by
  simp only [State.lane, State.moveLanes, Fin.getElem_fin, Vector.getElem_map]
  split <;> rfl

theorem moveLanes_unserved (p q : LaneState) (h : s.unserved n l) : (s.moveLanes p q).unserved n l :=
  h.of_jobs (moveLanes_carried s p q) rfl (by rw [moveLanes_job]; exact id)

theorem raise_unserved (k : EventKind) (h : s.unserved n l) : (s.raise k).unserved n l :=
  h.of_jobs (raise_carried s k) (by simp) (by rw [raise_lane]; exact id)

theorem releaseSite_job (s : State) (l m : LaneId) : ((s.releaseSite l).lane m).job = (s.lane m).job := by
  rw [releaseSite_lane]
  split
  · next h => rw [h]
  · rfl

theorem releaseLane_job {m : LaneId} (h : ((s.releaseLane l).lane m).job = some n) : (s.lane m).job = some n := by
  by_cases hm : m = l
  · subst hm
    rw [(releaseLane_freed s m).job] at h
    cases h
  · rwa [(releaseLane_freed s l).lane m hm] at h

/-- A job's end connects no lane to a job. -/
theorem endTerminal_job {e : EndReason} {id : Nat} (h : ((s.endTerminal e id).lane l).job = some n) :
    (s.lane l).job = some n := by
  rcases endTerminal_cases e s id with he | ⟨j, -, -, -, ⟨-, he⟩ | ⟨m, -, -, he⟩⟩ <;> rw [he] at h
  · exact h
  · rwa [endRecord_lane] at h
  · have hr := releaseLane_job h
    rwa [endRecord_lane, releaseSite_job] at hr

theorem endTerminal_unserved (e : EndReason) (id : Nat) (h : s.unserved n l) : (s.endTerminal e id).unserved n l := by
  by_cases hid : id = n
  · subst hid
    have hstay : s.endTerminal e id = s := by
      obtain ⟨k, hk, rfl, hst⟩ := h.done
      simp [State.endTerminal, h.distinct.job? hk, hst]
    rw [hstay]
    exact h
  · exact h.step (endTerminal_carried e s id) (endTerminal_reaches e s id) (Ne.symm hid) endTerminal_job

theorem foldl_endTerminal_unserved (e : EndReason) : ∀ (ids : List Nat) {s : State}, s.unserved n l →
    (ids.foldl (State.endTerminal e) s).unserved n l
  | [], _, h => h
  | id :: ids, _, h => foldl_endTerminal_unserved e ids (endTerminal_unserved e id h)

theorem endJobs_unserved (e : EndReason) (js : List Job) (h : s.unserved n l) : (s.endJobs e js).unserved n l :=
  foldl_endTerminal_unserved e _ h

theorem startGangs_unserved (h : s.unserved n l) : s.startGangs.unserved n l := by
  refine h.step (startGangs_carried s) (startGangs_reaches s) ?_ ?_
  · rintro ⟨j, hj, hid, hst⟩
    exact h.id_ne hj (by rw [hst]; nofun) hid
  · unfold State.startGangs
    generalize s.startingMembers = js
    have key : ∀ (js : List Job) (u : State), ((js.foldl (fun s j => match j.lane with
        | some l => s.startAcquisition j l
        | none => s) u).lane l).job = (u.lane l).job := by
      intro js
      induction js with
      | nil => exact fun _ => rfl
      | cons j js ih =>
        intro u
        rw [List.foldl_cons, ih]
        split
        · next m _ =>
          show ((State.setLane _ m _).lane l).job = _
          rw [State.setLane_lane]
          split
          · next hm => subst hm; rfl
          · rfl
        · rfl
    exact fun hj => (key js s).symm.trans hj

/-- An assignment puts QUEUED jobs alone on lanes (R69). -/
theorem assign_unserved {c : List Job} (hsel : ∀ j ∈ c, (s.site j.site).state.selectable = true) (hc : ∀ j ∈ c, j.id ≠ n)
    (h : s.unserved n l) : (s.assign c).unserved n l := by
  refine h.step (assign_carried s c hsel) (assign_reaches s c) (fun ⟨j, hj, hid⟩ => hc j hj hid) ?_
  have key : ∀ (xs : List (Job × LaneId)) (u : State), (∀ x ∈ xs, x.1.id ≠ n) →
      ((xs.foldl (fun s x => s.assignOne x.1 x.2) u).lane l).job = some n → (u.lane l).job = some n := by
    intro xs
    induction xs with
    | nil => exact fun _ _ hj => hj
    | cons x xs ih =>
      intro u hx hj
      have hone := ih _ (fun y hy => hx y (List.mem_cons_of_mem _ hy)) hj
      by_cases hm : x.2 = l
      · rw [← hm] at hone
        have hlane : ((u.assignOne x.1 x.2).lane x.2).job = some x.1.id := by
          show ((State.setLane _ x.2 _).lane x.2).job = _
          rw [State.setLane_lane_self]
        exact absurd (Option.some.inj (hlane.symm.trans hone)) (hx x (List.mem_cons_self ..))
      · rwa [assignOne_lane u x.1 hm] at hone
  intro hj
  refine key ((bySite c).zip s.openLanes) s (fun x hx => hc _ (mem_bySite (List.of_mem_zip hx).1)) ?_
  exact (moveLanes_job _ _ _ _).symm.trans hj

theorem serveHead_unserved {c : List Job} (hsel : ∀ j ∈ c, (s.site j.site).state.selectable = true) (hc : ∀ j ∈ c, j.id ≠ n)
    (h : s.unserved n l) : (s.serveHead c).1.unserved n l := by
  unfold State.serveHead
  dsimp only
  split
  · split
    · exact assign_unserved hsel hc h
    · exact moveLanes_unserved _ _ h
  split
  · exact raise_unserved _ (moveLanes_unserved _ _ h)
  split
  · exact raise_unserved _ h
  · exact raise_unserved _ (moveLanes_unserved _ _ h)

theorem takeHead_unserved (c : List Job) (h : s.unserved n l) : (s.takeHead c).unserved n l := by
  unfold State.takeHead
  split
  · exact h
  · exact (moveLanes_unserved .reserved .idle h).of_jobs (setHead_carried _ _) rfl id

theorem reconsiderWith_unserved (fuel : Nat) (h : s.unserved n l) : (State.reconsiderWith fuel s).unserved n l := by
  induction fuel generalizing s with
  | zero => exact h
  | succ fuel ih =>
    unfold State.reconsiderWith
    split
    · exact (moveLanes_unserved .reserved .idle h).of_jobs (setHead_carried _ _) rfl id
    · next c hc =>
      have hsel : ∀ j ∈ c, ((s.takeHead c).site j.site).state.selectable = true := fun j hj =>
        ((takeHead_carried s c).sites j.site).selectable (by rw [findHead_sites hc j hj]; rfl)
      have hne : ∀ j ∈ c, j.id ≠ n := fun j hj => by
        obtain ⟨hmem, hst⟩ := findHead_queued hc j hj
        exact h.id_ne hmem (by rw [hst]; nofun)
      have hserve := serveHead_unserved hsel hne (takeHead_unserved c h)
      dsimp only
      split
      · exact ih (endJobs_unserved _ c (takeHead_unserved c h))
      split
      · exact ih hserve
      · exact hserve

/-- The close of an event puts no DONE job on a lane. -/
theorem close_unserved (h : s.unserved n l) (s₀ : State) : ((s.close s₀).lane l).job ≠ some n := by
  have hg := startGangs_unserved h
  have ha : s.startGangs.arbitrate.unserved n l := by
    unfold State.arbitrate
    split
    · exact (reconsiderWith_unserved _ hg).of_jobs (reconsidered_carried _) rfl id
    · exact hg
  intro hn
  refine ha.lane ?_
  rw [← settlePort_lane]
  exact hn

/-! ### O34: JOB_ABORT -/

/-- The end of a running job leaves the lane it names without it (R75, R79, R80). -/
theorem endTerminal_leaves {j : Job} (hd : s.distinct) (hj : j ∈ s.jobs) (hr : j.state.running = true) (hl : j.lane = some l)
    (e : EndReason) : (s.endTerminal e j.id).unserved j.id l := by
  have hne := endable_of (j := j) (by rw [hr]; rfl)
  obtain ⟨-, k, hk, hid, hst, -⟩ := endTerminal_ended hd hj hne.1 hne.2 e
  refine ⟨(endTerminal_carried e s j.id).distinct hd, ⟨k, hk, hid, hst⟩, ?_⟩
  have hjob := hd.job? hj
  rcases endTerminal_cases e s j.id with h | ⟨j', hj', -, -, h⟩
  · rw [h] at hk
    obtain rfl := hd.unique hj hk hid.symm
    exact absurd hst hne.2
  · obtain rfl : j = j' := Option.some.inj (hjob.symm.trans hj')
    rcases h with ⟨h, -⟩ | ⟨m, hm, -, h⟩
    · rw [Job.servingLane, if_pos hr, hl] at h
      cases h
    · obtain rfl : l = m := Option.some.inj (hl.symm.trans hm)
      rw [h, (releaseLane_freed _ l).job]
      nofun

/-- The running jobs of a list that have ended are on no lane (R75, R80). -/
theorem endJobs_leaves (hd : s.distinct) (e : EndReason) {js : List Job} {j : Job} (hjs : j ∈ js) (hj : j ∈ s.jobs)
    (hr : j.state.running = true) (hl : j.lane = some l) : (s.endJobs e js).unserved j.id l := by
  have key : ∀ (ids : List Nat) (u : State), u.distinct → j.id ∈ ids →
      (u.unserved j.id l ∨ ∃ k ∈ u.jobs, k.id = j.id ∧ k.state.running = true ∧ k.lane = some l) →
      (ids.foldl (State.endTerminal e) u).unserved j.id l := by
    intro ids
    induction ids with
    | nil => exact fun u _ hn _ => absurd hn (List.not_mem_nil)
    | cons x ids ih =>
      intro u hu hn h
      have hu' := (endTerminal_carried e u x).distinct hu
      rcases h with h | ⟨k, hk, hid, hkr, hkl⟩
      · exact foldl_endTerminal_unserved e ids (endTerminal_unserved e x h)
      · by_cases hx : x = j.id
        · subst hx
          rw [List.foldl_cons, ← hid]
          exact foldl_endTerminal_unserved e ids (endTerminal_leaves hu hk hkr hkl e)
        · obtain ⟨k', hk', g, rfl⟩ := endTerminal_reaches e u x k hk fun h => hx (h.symm.trans hid)
          exact ih _ hu' ((List.mem_cons.1 hn).resolve_left (Ne.symm hx)) (.inr ⟨_, hk', hid, hkr, hkl⟩)
  exact key _ s hd (List.mem_map_of_mem (mem_oldestFirst.2 hjs)) (.inr ⟨j, hj, rfl, hr, hl⟩)

theorem abortable_iff {st : JobState} : st.abortable = false ↔ st = .evaluating ∨ st = .done := by
  cases st <;> simp [JobState.abortable, JobState.running, JobState.waiting]

/-- What the end of every addressed job that waits or runs leaves (R74, R75), as JOB_ABORT states it. -/
theorem row_abortWhere {h : Header} {selector : Byte} {value : Half} {p : Job → Bool} (hl : s.listens h.rate) (hd : s.distinct)
    (hc : s.cleared.jobAbort selector value = s.cleared.abortWhere p) :
    let ends (j : Job) : Bool := p j && (j.state.waiting || j.state.running)
    ∃ t, exec (.jobAbort h selector value) s = .next t ∧
      t.answered 0x32 h.tag (.ok [some (BitVec.ofNat 8 (s.jobs.countP ends))]) s.replies ∧
      Carried s.behindPort t.behindPort ∧
      (∀ j ∈ s.jobs, ends j = true → t.ended j.id .hostAbort .aborted ∧
        ∀ l : LaneId, j.state.running = true → j.lane = some l → (t.lane l).job ≠ some j.id) ∧
      ∀ j ∈ s.jobs, (j.state = .evaluating ∨ j.state = .done) → ∃ k ∈ t.jobs, k = { j with gang := k.gang } := by
  intro ends
  let js := s.jobs.filter fun j => p j && j.state.abortable
  have hends : (fun j : Job => p j && j.state.abortable) = ends := by
    funext j
    show (p j && (j.state.running || j.state.waiting)) = (p j && (j.state.waiting || j.state.running))
    rw [Bool.or_comm]
  have hjs : ∀ j, j ∈ js ↔ j ∈ s.jobs ∧ ends j = true := fun j => by rw [← hends]; exact List.mem_filter
  have hend : ∀ j ∈ js, j ∈ s.jobs ∧ j.state ≠ .evaluating ∧ j.state ≠ .done := fun j hj => by
    obtain ⟨hm, he⟩ := (hjs j).1 hj
    have he := (Bool.and_eq_true _ _ ▸ he : _ ∧ _).2
    exact ⟨hm, endable_of (by rw [Bool.or_comm]; exact he)⟩
  obtain ⟨hexec, hans, hcar⟩ := row_of_carried (c := .jobAbort h selector value) (u := s) rfl hl hc (endJobs_carried _ _ _)
    (List.Subset.refl _)
  have hcount : s.jobs.countP ends = js.length := by rw [List.countP_eq_length_filter, ← hends]
  refine ⟨_, hexec, by rw [hcount]; exact hans, hcar, fun j hj he => ⟨?_, fun l hr hlane => ?_⟩, fun j hj hst => ?_⟩
  · exact State.ended.close (s := State.holding (s.cleared.endJobs .hostAbort js) _ _ _)
      (endJobs_ended (s := s.cleared) hd .hostAbort hend ((hjs j).2 ⟨hj, he⟩))
      ((endJobs_carried s.cleared .hostAbort js).distinct hd) s
  · have := endJobs_leaves (s := s.cleared) hd .hostAbort ((hjs j).2 ⟨hj, he⟩) hj hr hlane
    exact close_unserved (s := State.holding (s.cleared.endJobs .hostAbort js) _ _ _) ⟨this.distinct, this.done, this.lane⟩ s
  · obtain ⟨k, hk, g, rfl⟩ := endJobs_reaches s.cleared .hostAbort js j hj fun ⟨m, hm, hid⟩ => by
      obtain ⟨hms, hne⟩ := hend m (mem_oldestFirst.1 hm)
      obtain rfl := hd.unique hms hj hid
      exact hst.elim hne.1 hne.2
    obtain ⟨k', hk', g', rfl⟩ := close_job (s := State.holding (s.cleared.endJobs .hostAbort js) _ _ _) s
      ((endJobs_carried s.cleared .hostAbort js).distinct hd) hk
      (by show j.state ≠ _; rcases hst with h | h <;> rw [h] <;> nofun)
      (by show j.state ≠ _; rcases hst with h | h <;> rw [h] <;> nofun)
    exact ⟨_, hk', rfl⟩

theorem jobAbort_out_of_range {selector : Byte} {value : Half}
    (h : 3 < selector.toNat ∨ (selector = 1 ∧ 15 < value.toNat) ∨ (selector = 2 ∧ (value.toNat = 0 ∨ 15 < value.toNat))) :
    s.jobAbort selector value = refuseWith .outOfRange s := by
  unfold State.jobAbort
  dsimp only
  rcases h with h | ⟨rfl, h⟩ | ⟨rfl, h⟩
  · rw [if_neg (byte_ne h (by decide)), if_neg (byte_ne h (by decide)), if_neg (byte_ne h (by decide)),
      if_neg (byte_ne h (by decide))]
  · rw [if_neg (by decide), if_pos rfl, if_neg (Nat.not_le.2 h)]
  · rw [if_neg (by decide), if_neg (by decide), if_pos rfl, if_neg (by omega)]

/-- Settles O34, by the table of R74. -/
theorem jobAbortEndsJobs : Obligations.JobAbortEndsJobs := by
  intro h selector value s hs hl hd v refused endsAll
  have refused_of {st : Status} (hc : s.cleared.jobAbort selector value = refuseWith st s.cleared) : refused st :=
    row_of_refused (c := .jobAbort h selector value) rfl hs hl hc
  have ends_of {p q : Job → Bool} (hpq : ∀ j, q j = p j)
      (hc : s.cleared.jobAbort selector value = s.cleared.abortWhere q) : endsAll p := by
    obtain rfl : q = p := funext hpq
    exact row_abortWhere hl hd hc
  refine ⟨fun h0 hno => ?_, fun h0 j hj hid hst => ?_, fun h0 j hj hid he hdn => ?_, fun h1 hv => ?_, fun h2 hv1 hv2 => ?_,
    fun h3 => ?_, fun hbad => refused_of (jobAbort_out_of_range hbad)⟩
  · refine refused_of ((if_pos h0).trans ?_)
    have hjob : s.cleared.job? value.toNat = none := job?_eq_none_iff.2 hno
    rw [State.abortJob, hjob]
  · refine refused_of ((if_pos h0).trans ?_)
    have hjob : s.cleared.job? value.toNat = some j := by
      rw [show value.toNat = j.id from hid.symm]
      exact State.distinct.job? (s := s.cleared) hd hj
    rw [State.abortJob, hjob]
    exact if_neg (by rw [abortable_iff.2 hst]; nofun)
  · refine ends_of (q := fun k => k.id == v) (fun k => rfl) ((if_pos h0).trans ?_)
    have hjob : s.cleared.job? value.toNat = some j := by
      rw [show value.toNat = j.id from hid.symm]
      exact State.distinct.job? (s := s.cleared) hd hj
    rw [State.abortJob, hjob]
    exact if_pos (by
      rw [← Bool.not_eq_false, abortable_iff]
      exact not_or.2 ⟨he, hdn⟩)
  · refine ends_of (q := fun k => k.site.val == v) (fun k => rfl) ?_
    rw [State.jobAbort, h1]
    exact if_pos hv
  · refine ends_of (q := fun k => k.group.val == v) (fun k => rfl) ?_
    rw [State.jobAbort, h2]
    exact if_pos (c := 1 ≤ value.toNat ∧ value.toNat ≤ 15) ⟨hv1, hv2⟩
  · refine ends_of (q := fun _ => true) (fun k => rfl) ?_
    rw [State.jobAbort, h3]
    rfl

end

end Sys2Proof.Machine

/-! PROOFS. The snapshot requests (R141 to R144), the result list and the release of a result (R150, R152). -/

namespace Sys2Proof.Machine

section
variable {s u : State}

/-! ### O48: the snapshot requests -/

theorem laneJob?_of_job {l : LaneId} {j : Job} (hd : s.distinct) (hj : j ∈ s.jobs) (h : (s.lane l).job = some j.id) :
    s.laneJob? l = some j := by
  rw [State.laneJob?, h]
  exact hd.job? hj

theorem snapTarget_no_job {l : LaneId} (h : (s.lane l).job = none) (n : Nat) : s.snapTarget l n = none := by
  rw [State.snapTarget, State.laneJob?, h]
  rfl

section
variable {l : LaneId} {j : Job} (hd : s.distinct) (hj : j ∈ s.jobs) (h : (s.lane l).job = some j.id)
include hd hj h

theorem snapTarget_of_job (n : Nat) : s.snapTarget l n =
    if n ≠ 0 ∧ n ≠ j.id then none else j.buffer.bind fun b => if b.roles then some (j, b) else none := by
  simp only [State.snapTarget, laneJob?_of_job hd hj h]

theorem snapTarget_other {n : Nat} (h0 : n ≠ 0) (hn : n ≠ j.id) : s.snapTarget l n = none := by
  rw [snapTarget_of_job hd hj h, if_pos ⟨h0, hn⟩]

theorem snapTarget_no_roles (hb : ∀ b, j.buffer = some b → b.roles = false) (n : Nat) : s.snapTarget l n = none := by
  rw [snapTarget_of_job hd hj h]
  split
  · rfl
  · cases hbuf : j.buffer with
    | none => rfl
    | some b => exact if_neg (by rw [hb b hbuf]; nofun)

theorem snapTarget_some {n : Nat} {b : BufferSet} (hn : n = 0 ∨ n = j.id) (hb : j.buffer = some b) (hr : b.roles = true) :
    s.snapTarget l n = some (j, b) := by
  rw [snapTarget_of_job hd hj h, if_neg (by tauto), hb]
  exact if_pos hr

end

theorem snapTake_of_none {l : LaneId} {id : Half} (h : s.snapTarget l id.toNat = none) :
    s.snapTake (BitVec.ofNat 8 l.val) id = refuseWith .wrongState s := by
  rw [State.snapTake, codeBelow_ofNat (by decide)]
  dsimp only
  rw [h]

theorem snapTake_of_some {l : LaneId} {id : Half} {j : Job} {b : BufferSet} (h : s.snapTarget l id.toNat = some (j, b)) :
    s.snapTake (BitVec.ofNat 8 l.val) id = (s.updateJob j.id (fun j => { j with buffer := some b.take }),
      Reply.ok (u16 j.id ++ optField 2 u16 (b.take.f.map Snapshot.seq) ++ u16 b.take.published)) := by
  rw [State.snapTake, codeBelow_ofNat (by decide)]
  dsimp only
  rw [h]

theorem bandOf_ofNat (k : BandId) : bandOf (BitVec.ofNat 8 (k.val + 1)) = some k := bandOf_number k

theorem snapRead_of_none {l : LaneId} {id : Half} {k : BandId} (h : s.snapTarget l id.toNat = none) :
    s.snapRead (BitVec.ofNat 8 l.val) id (BitVec.ofNat 8 (k.val + 1)) = refuseWith .wrongState s := by
  rw [State.snapRead, codeBelow_ofNat (by decide), bandOf_ofNat]
  dsimp only
  rw [h]

section
variable {l : LaneId} {id : Half} {k : BandId} {j : Job} {b : BufferSet} (h : s.snapTarget l id.toNat = some (j, b))
include h

theorem snapRead_empty (hf : b.f = none) :
    s.snapRead (BitVec.ofNat 8 l.val) id (BitVec.ofNat 8 (k.val + 1)) = refuseWith .wrongState s := by
  rw [State.snapRead, codeBelow_ofNat (by decide), bandOf_ofNat]
  dsimp only
  rw [h]
  dsimp only
  rw [hf]

theorem snapRead_no_band {f : Snapshot} (hf : b.f = some f) (hk : (f.segments.find? fun g => g.band == k) = none) :
    s.snapRead (BitVec.ofNat 8 l.val) id (BitVec.ofNat 8 (k.val + 1)) = refuseWith .noSuch s := by
  rw [State.snapRead, codeBelow_ofNat (by decide), bandOf_ofNat]
  dsimp only
  rw [h]
  dsimp only
  rw [hf]
  dsimp only
  rw [hk]

theorem snapRead_band {f : Snapshot} {g : Segment} (hf : b.f = some f)
    (hk : (f.segments.find? fun g => g.band == k) = some g) :
    s.snapRead (BitVec.ofNat 8 l.val) id (BitVec.ofNat 8 (k.val + 1)) =
      (s, Reply.ok (u16 j.id ++ u16 f.seq ++ g.fields)) := by
  rw [State.snapRead, codeBelow_ofNat (by decide), bandOf_ofNat]
  dsimp only
  rw [h]
  dsimp only
  rw [hf]
  dsimp only
  rw [hk]

end

/-- N is newer than F, or F is empty and N is not (R142). -/
def BufferSet.newer (b : BufferSet) : Prop :=
  match b.n, b.f with
  | some n, some f => f.seq < n.seq
  | some _, none => True
  | none, _ => False

theorem take_of_newer {b : BufferSet} (h : b.newer) : b.take = { b with n := b.f, f := b.n } := by
  obtain ⟨bands, roles, w, n, f, published⟩ := b
  cases n with
  | none => exact h.elim
  | some n =>
    cases f with
    | none => rfl
    | some f => exact if_pos h

theorem take_of_not_newer {b : BufferSet} (h : ¬b.newer) : b.take = b := by
  obtain ⟨bands, roles, w, n, f, published⟩ := b
  cases n with
  | none => rfl
  | some n =>
    cases f with
    | none => exact absurd trivial h
    | some f => exact if_neg h

theorem snapRead_out_of_range {lane band : Byte} {id : Half} (h : 3 < lane.toNat ∨ band = 0 ∨ 6 < band.toNat) :
    s.snapRead lane id band = refuseWith .outOfRange s := by
  unfold State.snapRead
  split
  · next l k hl hk =>
    rcases h with h | rfl | h
    · rw [codeBelow_none h] at hl; cases hl
    · cases hk
    · have := bandOf_val hk
      omega
  · rfl

theorem boolCode_eq_none {b : Byte} (h : 1 < b.toNat) : boolCode b = none := by
  rw [boolCode, if_neg (byte_ne h (by decide)), if_neg (byte_ne h (by decide))]

theorem snapHold_of_bool (on : Bool) : s.snapHold (if on then 1 else 0) = accept { s with hold := on } := by
  rw [State.snapHold, boolCode_ite]

/-- An update that keeps id, state and gang of the records. -/
theorem sameStart_update {n : Nat} {f : Job → Job} (hf : Job.SameStart f) :
    Job.SameStart fun j => if j.id = n then f j else j := by
  constructor <;> intro j <;> split
  exacts [hf.id j, rfl, hf.state j, rfl, hf.gang j, rfl]

theorem updateJob_of_mem {j : Job} (hd : s.distinct) (hj : j ∈ s.jobs) (f : Job → Job) :
    s.updateJob j.id f = { s with jobs := s.jobs.map fun i => if i.id = j.id then f j else i } := by
  have h : (s.jobs.map fun i => if i.id = j.id then f i else i) = s.jobs.map fun i => if i.id = j.id then f j else i := by
    refine List.map_congr_left fun i hi => ?_
    by_cases hij : i.id = j.id
    · rw [hd.unique hi hj hij]
    · rw [if_neg hij, if_neg hij]
  rw [State.updateJob, h]

/-- An update that changes nothing of the record it reaches. -/
theorem updateJob_self {j : Job} (hd : s.distinct) (hj : j ∈ s.jobs) {f : Job → Job} (hf : f j = j) :
    s.updateJob j.id f = s := by
  rw [updateJob_of_mem hd hj, hf]
  have h : (s.jobs.map fun i => if i.id = j.id then j else i) = s.jobs := by
    refine (List.map_congr_left fun i hi => ?_).trans (List.map_id _)
    split
    · next hij => exact hd.unique hj hi hij.symm
    · rfl
  rw [h]

/-- The number of a buffer as a SNAP_TAKE answers it (R187). -/
def seqFields (n : Option Snapshot) : Fields :=
  match n with
  | some n => [some 1] ++ u16 n.seq
  | none => [some 0, none, none]

theorem optField_seq (n : Option Snapshot) : optField 2 u16 (n.map Snapshot.seq) = seqFields n := by cases n <;> rfl

/-- Settles O48: the refusals, the hold, and the requests on a lane that serves a job. -/
theorem snapshotRequests : Obligations.SnapshotRequests := by
  intro h s hs hl hd quiet
  refine ⟨fun lane band id => ⟨fun hb => ?_, fun hb => ?_⟩, fun code hb => ?_, fun on => ?_, fun l id k => ?_⟩
  · exact row_of_refused (c := .snapTake h lane id) rfl hs hl (by
      show s.cleared.snapTake lane id = _
      rw [State.snapTake, codeBelow_none hb])
  · exact row_of_refused (c := .snapRead h lane id band) rfl hs hl (snapRead_out_of_range hb)
  · exact row_of_refused (c := .snapHold h code) rfl hs hl (by
      show s.cleared.snapHold code = _
      rw [State.snapHold, boolCode_eq_none hb])
  · exact row_of_quiet (c := .snapHold h _) (u := { s with hold := on }) rfl hs hl (snapHold_of_bool (s := s.cleared) on)
      ⟨rfl, rfl, List.Subset.refl _⟩
  intro take read wrong
  have wrong_of (ht : s.cleared.snapTarget l id.toNat = none) : wrong :=
    ⟨row_of_refused (c := take) rfl hs hl (snapTake_of_none ht), row_of_refused (c := read) rfl hs hl (snapRead_of_none ht)⟩
  refine ⟨fun hjob => wrong_of (snapTarget_no_job (s := s.cleared) hjob _), fun j hj hjob => ⟨fun h0 hn => ?_, fun hb => ?_,
    fun hid b hb hr => ?_⟩⟩
  · refine wrong_of (snapTarget_other (s := s.cleared) hd hj hjob (fun hz => h0 ?_) hn)
    exact BitVec.eq_of_toNat_eq hz
  · exact wrong_of (snapTarget_no_roles (s := s.cleared) hd hj hjob hb _)
  · intro newer
    have hnewer : newer ↔ b.newer := Iff.rfl
    have ht : s.cleared.snapTarget l id.toNat = some (j, b) :=
      snapTarget_some (s := s.cleared) hd hj hjob (hid.imp (fun h => by rw [h]; rfl) fun h => h) hb hr
    have htake := snapTake_of_some ht
    refine ⟨fun hn => ?_, fun hn => ?_, fun hf => row_of_refused (c := read) rfl hs hl (snapRead_empty ht hf), fun f hf =>
      ⟨fun hno => ?_, fun g hg => ?_⟩⟩
    · rw [take_of_newer hn] at htake
      let give : Job → Job := fun i => { i with buffer := some { b with n := b.f, f := b.n } }
      have hstart : (s.updateJob j.id give).startingMembers = [] :=
        startingMembers_map (sameStart_update (f := give) ⟨fun _ => rfl, fun _ => rfl, fun _ => rfl⟩) rfl hs.2.1
      have hgive : s.updateJob j.id give = { s with jobs := s.jobs.map fun i => if i.id = j.id then give j else i } :=
        updateJob_of_mem hd hj give
      have hc : s.cleared.snapTake (BitVec.ofNat 8 l.val) id = ((s.updateJob j.id give).cleared,
          Reply.ok (u16 j.id ++ seqFields b.n ++ u16 b.published)) := htake.trans
        (Prod.ext rfl (congrArg (fun fs => Reply.ok (u16 j.id ++ fs ++ u16 b.published)) (optField_seq b.n)))
      have hrow := row_of_quiet (c := take) rfl hs hl hc ⟨rfl, hstart.trans hs.2.1.symm, List.Subset.refl _⟩
      rw [hgive] at hrow
      exact hrow
    · rw [take_of_not_newer hn, updateJob_self (s := s.cleared) hd hj (by rw [← hb])] at htake
      exact row_of_quiet (c := take) rfl hs hl (htake.trans
        (Prod.ext rfl (congrArg (fun fs => Reply.ok (u16 j.id ++ fs ++ u16 b.published)) (optField_seq b.f)))) (.refl s)
    · refine row_of_refused (c := read) rfl hs hl (snapRead_no_band ht hf (List.find?_eq_none.2 fun g hg => ?_))
      simpa using hno g hg
    · exact row_of_quiet (c := read) rfl hs hl (snapRead_band ht hf hg) (.refl s)

/-! ### O49: the result list and the release of a result -/

theorem resultRelease_done {id : Half} {j : Job} (hd : s.distinct) (hj : j ∈ s.jobs) (hid : j.id = id.toNat)
    (h : j.state = .done) : s.resultRelease id = accept (s.dropJob j) := by
  rw [State.resultRelease, ← hid, hd.job? hj]
  exact if_pos h

theorem resultRelease_not_done {id : Half} {j : Job} (hd : s.distinct) (hj : j ∈ s.jobs) (hid : j.id = id.toNat)
    (h : j.state ≠ .done) : s.resultRelease id = refuseWith .wrongState s := by
  rw [State.resultRelease, ← hid, hd.job? hj]
  exact if_neg h

/-- The state without a DONE record, before the close of the event (R152). -/
def State.without (s : State) (j : Job) : State := { s with
  jobs := s.jobs.filter fun k => k.id != j.id
  results := s.results.filter fun i => i != j.id
  freeSegments := s.freeSegments + j.spectrumSize }

theorem dropJob_eq (s : State) (j : Job) : s.dropJob j = (s.without j).callArbiterIf (decide (0 < j.spectrumSize)) := rfl

/-- A DONE record is none that waits for the start of its gang or holds it up (R73). -/
theorem without_startingMembers {j : Job} (hd : s.distinct) (hj : j ∈ s.jobs) (hst : j.state = .done)
    (hs : s.startingMembers = []) : (s.without j).startingMembers = [] := by
  refine startingMembers_of_kept hs (fun k hk _ => (List.mem_filter.1 hk).1) fun k hk ht => List.mem_filter.2 ⟨hk, ?_⟩
  rw [bne_iff_ne]
  intro hid
  rw [hd.unique hk hj hid, hst] at ht
  cases ht

/-- Settles O49: the list, the refusals, and the release. -/
theorem resultListAndRelease : Obligations.ResultListAndRelease := by
  intro h id s hs hl hd refused
  have refused_of {st : Status} (hc : s.cleared.resultRelease id = refuseWith st s.cleared) : refused st :=
    row_of_refused (c := .resultRelease h id) rfl hs hl hc
  refine ⟨?_, fun hno => refused_of ?_, fun j hj hid => ?_⟩
  · obtain ⟨t, ht, hans, hbehind⟩ := row_of_quiet (c := .resultList h) (u := s) rfl hs hl rfl (.refl s)
    exact ⟨t, ht, hbehind, hans⟩
  · have hjob : s.cleared.job? id.toNat = none := job?_eq_none_iff.2 hno
    rw [State.resultRelease, hjob]
  intro spectrum s'
  have hs' : s' = s.without j := by
    show ({ s with jobs := _, results := _, freeSegments := _ } : State) = _
    unfold State.without
    congr 1 <;> refine List.filter_congr fun k _ => ?_ <;> rw [bne, beq_eq_decide, decide_not]
  refine ⟨fun hst => refused_of (resultRelease_not_done (s := s.cleared) hd hj hid hst), fun hst => ?_⟩
  have hc := resultRelease_done (s := s.cleared) hd hj hid hst
  rw [dropJob_eq] at hc
  have hstart := without_startingMembers hd hj hst hs.2.1
  have hsub : (s.without j).results ⊆ s.results := List.filter_subset_self _
  obtain ⟨hexec, hans, hcar⟩ := row_of_carried (c := .resultRelease h id) (u := s.without j) rfl hl hc
    (callArbiterIf_carried _ _) hsub
  refine ⟨_, hexec, hans, by rw [hs']; exact hcar, fun k hk => ?_, fun h0 => ?_, fun h0 hm hdisc => ?_⟩
  · have hids := hcar.jobs.ids
    have hmem : k.id ∈ (s.without j).jobs.map Job.id := hids ▸ List.mem_map_of_mem hk
    obtain ⟨i, hi, hik⟩ := List.mem_map.1 hmem
    rw [← hik]
    exact bne_iff_ne.1 (List.mem_filter.1 hi).2
  · have hzero : decide (0 < j.spectrumSize) = false := decide_eq_false (Nat.not_lt.2 (le_of_eq h0))
    rw [hzero, hs']
    exact close_behindPort (s := State.holding (s.without j).cleared _ _ _) hs.1 hstart hsub
  · have hpos : decide (0 < j.spectrumSize) = true := decide_eq_true (Nat.pos_of_ne_zero h0)
    rw [hpos, hs']
    refine (close_without_start (u := State.holding (s.without j).cleared.callArbiter _ _ _) (startCondition_eq_false hm hdisc)
      rfl hstart hsub).trans ?_
    have hrec : s.reconsider = false := hs.1
    unfold State.behindPort State.headless State.without
    dsimp only
    rw [hrec]
    rfl

end

end Sys2Proof.Machine

/-! PROOFS. The calibration unit: CAL_STORE and CAL_REVERT (R163, R164), and what stands against the statements of CAL_CANCEL and
of a calibration's end: they do not ask for distinct job ids. -/

namespace Sys2Proof.Machine

section
variable {s : State}

/-! ### O53: CAL_STORE, its completion, and CAL_REVERT -/

theorem storeCompletion_exec (hs : s.settled) : exec .storeCompletion s = .next s.storeCompletion := by
  have hset : s.storeCompletion.settled ∧ s.storeCompletion.results ⊆ s.results := by
    unfold State.storeCompletion
    split <;> exact ⟨hs, List.Subset.refl _⟩
  exact exec_of_settled rfl hset.1 hset.2

/-- The working set after a CAL_REVERT of a lane, or of all lanes (R164). -/
def CoefSet.reverted (set : CoefSet) (b : Byte) : CoefSet :=
  if b = 4 then CoefSet.default else match codeBelow 4 b with
    | none => set
    | some l => set.revert l

theorem calRevert_legal {b : Byte} (h : b.toNat ≤ 4) :
    s.calRevert b = accept { s with cal := { s.cal with working := s.cal.working.reverted b } } := by
  unfold State.calRevert CoefSet.reverted
  by_cases h4 : b = 4
  · rw [if_pos h4, if_pos h4]
  · have hlt : b.toNat < 4 := by
      have : b.toNat ≠ 4 := fun hb => h4 (BitVec.eq_of_toNat_eq hb)
      omega
    have hcode : codeBelow 4 b = some ⟨b.toNat, hlt⟩ := codeBelow_of_val_eq rfl
    rw [if_neg h4, if_neg h4, hcode]

theorem calRevert_out_of_range {b : Byte} (h : 4 < b.toNat) : s.calRevert b = refuseWith .outOfRange s := by
  rw [State.calRevert, if_neg (byte_ne h (by decide)), codeBelow_none (Nat.le_of_lt h)]

theorem reverted_entry (set : CoefSet) {b : Byte} (h : b.toNat ≤ 4) (l : LaneId) (k : Fin 8) :
    (set.reverted b)[l][k] = if b = 4 ∨ b.toNat = l.val then ⟨0, .default⟩ else set[l][k] := by
  unfold CoefSet.reverted
  by_cases h4 : b = 4
  · rw [if_pos h4, if_pos (.inl h4)]
    simp [CoefSet.default, Coef.default]
  · have hlt : b.toNat < 4 := by
      have : b.toNat ≠ 4 := fun hb => h4 (BitVec.eq_of_toNat_eq hb)
      omega
    have hcode : codeBelow 4 b = some ⟨b.toNat, hlt⟩ := codeBelow_of_val_eq rfl
    rw [if_neg h4, hcode]
    by_cases hl : b.toNat = l.val
    · rw [if_pos (.inr hl)]
      simp [CoefSet.revert, hl, Coef.default]
    · rw [if_neg (by tauto)]
      simp [CoefSet.revert, Vector.getElem_set_ne, hl]

/-- Settles O53: the completion, CAL_STORE, and CAL_REVERT. -/
theorem storeAndRevert : Obligations.StoreAndRevert := by
  refine ⟨fun s hs => ?_, fun h s hs hl => ⟨fun hb => ?_, fun hb => ?_, fun b => ⟨fun hb => ?_, fun hb => ?_⟩⟩⟩
  · exact storeCompletion_exec hs
  · exact row_of_refused (c := .calStore h) rfl hs hl (if_pos (Option.isSome_iff_ne_none.2 hb))
  · exact row_of_quiet (c := .calStore h) (u := { s with cal := { s.cal with image := some s.cal.working, checkMatches := false } })
      rfl hs hl (if_neg (by rw [CalUnit.busy, show s.cleared.cal.image = none from hb]; nofun)) ⟨rfl, rfl, List.Subset.refl _⟩
  · exact row_of_refused (c := .calRevert h b) rfl hs hl (calRevert_out_of_range hb)
  · obtain ⟨t, ht, hans, hbehind⟩ := row_of_quiet (c := .calRevert h b)
      (u := { s with cal := { s.cal with working := s.cal.working.reverted b } }) rfl hs hl (calRevert_legal (s := s.cleared) hb)
      ⟨rfl, rfl, List.Subset.refl _⟩
    have hcal : t.cal = { s.cal with working := s.cal.working.reverted b } := by
      show t.behindPort.cal = _
      rw [hbehind]
      rfl
    refine ⟨t, ht, hans, fun l k => ?_, ?_⟩
    · rw [hcal]
      exact reverted_entry _ hb l k
    · rw [hcal]
      exact hbehind

end

/-! ### O51 and O52: two records with one id

Both statements leave out that job ids are distinct (R56). With two records of one id, a QUEUED one and a running one that names
the lane of a calibration that ends OUT_OF_SERVICE, the close of the event ends the QUEUED job NO_LANE (R66), by its id: the
record found is the running one, and its lane is released. -/

/-- A record of id 1. -/
def twinJob (st : JobState) : Job := { Job.fresh 1 1 0 0 0 .normal with state := st }

/-- Lane 0 calibrates, started OUT_OF_SERVICE, in the step of its last range; the other lanes are OUT_OF_SERVICE. Job id 1 has
two records, one in TUNING that names lane 0 and one in QUEUED at a READY site. -/
def twins : State := { State.reset with
  port := { Port.reset with link := .locked .r921600 }
  sites := State.reset.sites.set 0 { Site.reset with configured := true, state := .ready }
  jobs := [{ twinJob .tuning with lane := some 0 }, twinJob .queued]
  lanes := (Vector.replicate 4 { Lane.reset with state := .outOfService }).set 0 { Lane.reset with
    state := .calibrating, source := some 3, channels := Vector.replicate 2 ⟨0, .expired⟩ }
  cal := { CalUnit.reset with records := CalUnit.reset.records.set 0 { CalRecord.reset with
    status := .running, kind := some .full, ranges := #v[false, false, false, true], outOfService := some true
    step := some 3, started := some 0 } } }

theorem twins_settled : twins.settled := ⟨rfl, by decide +kernel, fun _ _ => ⟨rfl, rfl⟩⟩

theorem twins_unclaimed : twins.unclaimed 0 := by
  intro j hj hst
  simp only [twins, List.mem_cons, List.not_mem_nil, or_false] at hj
  rcases hj with rfl | rfl <;> cases hst

/-- After CAL_CANCEL lane 0 of `twins` is IDLE: the close of the event has released it. -/
theorem twins_cancelled : (((effectOf (.calCancel ⟨.r921600, 7⟩ 0) twins).close twins).lane 0).state = .idle := by
  decide +kernel

theorem twins_measured : (((effectOf (.measurementEvent 0 0 0) twins).close twins).lane 0).state = .idle := by
  decide +kernel

theorem state_of_exec {c : Instr} {s t : State} (h : exec c s = .next t) : t = (effectOf c s).close s := by
  rw [exec_eq_close] at h
  injection h with h
  exact h.symm

/-- Refutes O51: at `twins`, CAL_CANCEL does not leave lane 0 OUT_OF_SERVICE. -/
theorem not_calStartAndCancel : ¬ Obligations.CalStartAndCancel := by
  intro hall
  obtain ⟨-, -, hlanes⟩ := hall ⟨.r921600, 7⟩ ⟨0, 0, #v[0, 0, 0, 0]⟩ twins twins_settled ⟨rfl, rfl, rfl⟩
  obtain ⟨-, -, -, hrunning⟩ := hlanes 0
  obtain ⟨t, hexec, -, -, -, -, hback, -⟩ := hrunning rfl twins_unclaimed
  have hout : (t.lane 0).state = .outOfService := congrArg Lane.state (hback rfl)
  have hidle : (t.lane 0).state = .idle := by
    rw [state_of_exec hexec]
    exact twins_cancelled
  exact nomatch hout.symm.trans hidle

/-- Refutes O52: at `twins`, the measurement event ends the calibration BAD and does not leave lane 0 OUT_OF_SERVICE. -/
theorem not_calibrationStepsMeasure : ¬ Obligations.CalibrationStepsMeasure := by
  intro hall
  obtain ⟨-, -, hmeasure⟩ := hall 0 twins twins_settled twins_unclaimed
  obtain ⟨t, hexec, -, -, -, -, -, hresults, -, hend⟩ := hmeasure (fun _ => 0) 3 .full rfl rfl rfl
  have hlast : ∀ q : RangeId, 3 < q → (twins.calRecord 0).ranges[q] = false := by decide +kernel
  obtain ⟨-, -, -, -, -, hback, -⟩ := hend hlast
  have hresult : (t.calRecord 0).results[(3 : Fin 8)] = .noLock := (hresults 0 3).1
  have hbad : ¬∀ (ch : ChanId) (q : RangeId), (twins.calRecord 0).ranges[q] = true →
      (t.calRecord 0).results[(⟨4 * ch.val + q.val, by omega⟩ : Fin 8)] = .good := fun h =>
    nomatch hresult.symm.trans (h 0 3 rfl)
  have hout : (t.lane 0).state = .outOfService := congrArg Lane.state (hback (decide_eq_false hbad) rfl)
  have hidle : (t.lane 0).state = .idle := by
    rw [state_of_exec hexec]
    exact twins_measured
  exact nomatch hout.symm.trans hidle

end Sys2Proof.Machine

/-! PROOFS. The recount of a lane (R70, R71). -/

namespace Sys2Proof.Machine

section
variable {s u : State}

/-! ### O38: the recount gate -/

/-- The recount of a job. -/
def Job.withRecount (count : CountRecord) (j : Job) : Job := { j with recount := some count }

theorem recountGateEnd_of {l : LaneId} {i : SiteId} {id : Nat} {f : Option Rat} {v : Rat} (ht : (s.lane l).tune = some .recount)
    (hc : (s.lane l).connected = some i) (hj : (s.lane l).job = some id) (hm : (s.site i).state = .measuring) :
    s.recountGateEnd l f v = s.takeRecount l i id f v := by
  simp only [State.recountGateEnd, ht, hc, hj]
  exact if_pos hm

theorem writeRecount_site (s : State) (i : SiteId) (id : Nat) (count : CountRecord) :
    (s.writeRecount i id count).site i = { s.site i with lastCount := some count } := setSite_self_site s i _

/-- The presence decision reads the window of the applied configuration alone (R17). -/
theorem carrierPresent_lastCount (x : Site) (c : Option CountRecord) (count : CountRecord) (v : Rat) :
    carrierPresent { x with lastCount := c } count v = carrierPresent x count v := rfl

theorem takeRecount_found {l : LaneId} {i : SiteId} {id : Nat} {f : Option Rat} {v : Rat}
    (h : carrierPresent (s.site i) (s.countAt i f) v = true) : s.takeRecount l i id f v =
      (s.writeRecount i id (s.countAt i f)).beginLock l
        (synthSetting (s.site i).applied.supply.carrier ((s.countAt i f).error.getD 0)) := by
  unfold State.takeRecount
  dsimp only
  rw [writeRecount_site, carrierPresent_lastCount]
  exact if_pos h

theorem takeRecount_lost {l : LaneId} {i : SiteId} {id : Nat} {f : Option Rat} {v : Rat}
    (h : carrierPresent (s.site i) (s.countAt i f) v = false) :
    s.takeRecount l i id f v = (s.writeRecount i id (s.countAt i f)).loseCarrier i := by
  unfold State.takeRecount
  dsimp only
  rw [writeRecount_site, carrierPresent_lastCount]
  exact if_neg (by rw [h]; nofun)

theorem writeRecount_distinct (i : SiteId) (id : Nat) (count : CountRecord) (hd : s.distinct) :
    (s.writeRecount i id count).distinct :=
  distinct_of_ids (updateJob_ids (s.setSite i _) id fun _ => rfl) hd

/-- Settles O38: the carrier found, and lost. -/
theorem recountGateEnds : Obligations.RecountGateEnds := by
  intro l i id f v s hs hd ht hc hj hm x nominal error count s'
  have he : effectOf (.recountGateEnd l f v) s = s.takeRecount l i id f v := recountGateEnd_of ht hc hj hm
  have hs' : s' = s.writeRecount i id count := rfl
  refine ⟨fun e herr hlevel => ?_, fun habsent => ?_⟩
  · have hpresent : carrierPresent x count v = true :=
      carrierPresent_eq_true.2 ⟨hlevel, by rw [show count.error = some e from herr]; nofun⟩
    have hsynth : synthSetting nominal (count.error.getD 0) = ((nominal : Int) * (1000000000 + e)).toNat := by
      rw [show count.error = some e from herr]
      rfl
    rw [takeRecount_found hpresent] at he
    have hset : s'.settled :=
      ⟨hs.1, startingMembers_map (s := s) (sameStart_update (f := Job.withRecount count) ⟨fun _ => rfl, fun _ => rfl, fun _ => rfl⟩) rfl hs.2.1, hs.2.2⟩
    rw [← hsynth]
    exact exec_of_settled he hset (List.Subset.refl s.results)
  · intro z
    have hlost : effectOf (.recountGateEnd l f v) s = s'.loseCarrier i :=
      he.trans (takeRecount_lost (carrierPresent_eq_false habsent))
    have hd' : s'.distinct := writeRecount_distinct i id count hd
    have hz : (s'.site i).enterNoCarrier s'.now = z := by
      rw [hs', writeRecount_site]
      rfl
    have hopen : ((s'.siteAlert i z).site i).state.selectable = false := by rw [siteAlert_site, if_pos rfl]; rfl
    obtain ⟨hsite, hcar, halert, hend⟩ := alert_close (s := s') (i := i) (y := z) hd' (openConnection_carried _ i)
      (siteAlert_jobs s' i z) rfl .noCarrier (js := s'.endableAt i) fun j hj =>
        ⟨(mem_endableAt_iff.1 hj).1, endable_of (mem_endableAt_iff.1 hj).2.2⟩
    refine ⟨_, exec_eq_close _ s, ?_⟩
    rw [hlost, State.loseCarrier, hz]
    refine ⟨hsite, hcar, halert, (close_unlinked (endJobs_unlinked _ _ (openConnection_unlinked hopen)) s).2,
      fun j hj hi hr => ?_⟩
    have hmem : (if j.id = id then j.withRecount count else j) ∈ s'.jobs := List.mem_map.2 ⟨j, hj, rfl⟩
    have hsame : (if j.id = id then j.withRecount count else j).id = j.id ∧
        (if j.id = id then j.withRecount count else j).site = j.site ∧
        (if j.id = id then j.withRecount count else j).state = j.state := by
      split <;> exact ⟨rfl, rfl, rfl⟩
    have hended := hend _ (mem_endableAt_iff.2 ⟨hmem, hsame.2.1.trans hi, by rw [hsame.2.2]; exact hr⟩)
    rw [hsame.1] at hended
    exact hended

end

end Sys2Proof.Machine

/-! PROOFS. The lock of a lane (R71) and the common start of a gang (R73, R84, R85). -/

namespace Sys2Proof.Machine

section
variable {s u v : State} {l : LaneId} {j : Job}

theorem jobOn_of_serves {st : JobState} (hd : s.distinct) (h : s.serves l j st) : s.jobOn l st = some j := by
  obtain ⟨hjob, hj, hst⟩ := h
  rw [State.jobOn, laneJob?_of_job hd hj hjob, Option.filter_some, if_pos (by simp [hst])]

/-! ### Acquisition start -/

/-- What a lane latches, as the obligations state it (R85). -/
theorem latchFor_eq (s : State) (k : Job) (l : LaneId) :
    s.latchFor l (s.site k.site).applied.supply.carrier = s.latches k l := by
  have hrange (n : Nat) : Config.carrierRange n = if n < 50000000 then 0 else if n < 200000000 then 1
      else if n < 600000000 then 2 else 3 := rfl
  unfold State.latchFor State.latches CoefSet.entry
  dsimp only
  rw [hrange]
  congr 2
  simp

end

end Sys2Proof.Machine

/-! PROOFS. Capture disturbances and snapshot timers (R87, R96, R140). -/

namespace Sys2Proof.Machine

section
variable {s u : State} {l : LaneId} {j : Job} {a : Acquisition}

/-! ### The acquisition of a lane -/

theorem running?_of_serves (hd : s.distinct) (h : s.serves l j .acquiring) (ha : (s.lane l).acquisition = some a) :
    s.running? l = some (j, a) := by
  simp only [State.running?, jobOn_of_serves hd h, ha]

theorem running?_of_stage {st : JobState} (hd : s.distinct) (h : s.serves l j st) (hst : st ≠ .acquiring) :
    s.running? l = none := by
  obtain ⟨hjob, hj, hjs⟩ := h
  cases hr : s.running? l with
  | none => rfl
  | some x =>
    obtain ⟨hx, hid, hxs, -⟩ := running?_eq_some hr
    have hxj : x.1 = j := hd.unique hx hj (Option.some.inj (hid.symm.trans hjob))
    rw [hxj, hjs] at hxs
    exact absurd hxs hst

theorem running?_no_job (h : (s.lane l).job = none) : s.running? l = none := by
  rw [State.running?, State.jobOn, State.laneJob?, h]
  rfl

/-! ### Settled states with other records -/

/-- A record rewritten where the start of gangs does not read it leaves the state settled. -/
theorem updateJob_settled {n : Nat} {f : Job → Job} (hs : s.settled) (hf : Job.SameStart f) : (s.updateJob n f).settled :=
  ⟨hs.1, startingMembers_map (sameStart_update (n := n) hf) rfl hs.2.1, hs.2.2⟩

/-- The transmitter alone goes on in `State.settlePort` (R176). -/
theorem settlePort_eq_withPort (s : State) : ∃ p, s.settlePort = { s with port := p } := by
  unfold State.settlePort
  split
  · unfold State.beginFrame
    dsimp only
    repeat' split
    all_goals exact ⟨_, rfl⟩
  · exact ⟨_, rfl⟩

/-! ### Raises -/

/-- A kind is one bit of the sets. -/
theorem bit_eq_twoPow (k : EventKind) : ∃ i, k.bit = BitVec.twoPow 8 i :=
  ⟨k.ctorIdx, by cases k <;> rfl⟩

/-- A kind that a set holds adds nothing to it. -/
theorem or_bit_of_mem {x : Byte} {k : EventKind} (h : x &&& k.bit ≠ 0) : x ||| k.bit = x := by
  obtain ⟨i, hi⟩ := bit_eq_twoPow k
  rw [hi, BitVec.and_twoPow] at h
  have hx : x.getLsbD i = true := by by_contra hn; exact h (if_neg hn)
  rw [hi]
  refine BitVec.eq_of_getLsbD_eq fun n hn => ?_
  rw [BitVec.getLsbD_or, BitVec.getLsbD_twoPow]
  by_cases hin : i = n
  · simp [← hin, hx]
  · simp [hin]

theorem raise_pending_eq (s : State) (k : EventKind) : (s.raise k).events.pending = s.events.pending ||| k.bit := by
  unfold State.raise
  split
  · next h =>
    exact (or_bit_of_mem h).symm
  · rfl

theorem raise_eq (s : State) (k : EventKind) : ∃ p, s.raise k =
    { s with port := p, events := { s.events with pending := s.events.pending ||| k.bit } } := by
  refine ⟨(s.raise k).port, ?_⟩
  rw [← raise_pending_eq]
  unfold State.raise
  split <;> rfl

/-! ### O43 -/

theorem captureDisturbance_running (h : s.running? l = some (j, a)) : s.captureDisturbance l =
    s.setLane l { s.lane l with acquisition := some { a with bands := a.bands.map BandAcq.disturb } } := by
  simp only [State.captureDisturbance, h]

theorem captureDisturbance_none (h : s.running? l = none) : s.captureDisturbance l = s := by
  simp only [State.captureDisturbance, h]

theorem snapshotTimerExpiry_none (h : s.running? l = none) : s.snapshotTimerExpiry l = s := by
  simp only [State.snapshotTimerExpiry, h]

theorem snapshotTimerExpiry_running (h : s.running? l = some (j, a)) :
    s.snapshotTimerExpiry l = if a.snapTimer.isSome then s.snapshot j a else s := by
  simp only [State.snapshotTimerExpiry, h]

theorem disturb_eq (x : BandAcq) : x.disturb = if x.inProgress then { x with spoiled := true } else x := by
  obtain ⟨_, _, _, _, _, inProgress, spoiled⟩ := x
  cases inProgress <;> simp [BandAcq.disturb]

/-- Settles O43: by the stage of the lane's job, and for a snapshot by the hold. -/
theorem disturbancesAndSnapshots : Obligations.DisturbancesAndSnapshots := by
  intro l cause j s hs hd
  refine ⟨fun st hst h => ?_, ?_⟩
  · have hn := running?_of_stage hd h hst
    exact ⟨exec_of_self hs (captureDisturbance_none hn), exec_of_self hs (snapshotTimerExpiry_none hn)⟩
  intro a h ha fill
  have hr := running?_of_serves hd h ha
  have hsnap := snapshotTimerExpiry_running hr
  refine ⟨?_, fun hn => ?_, fun hn b hb => ?_⟩
  · rw [← funext disturb_eq]
    exact exec_of_settled (u := s.setLane l _) (captureDisturbance_running hr) hs (List.Subset.refl _)
  · exact exec_of_self hs (by rw [hn] at hsnap; exact hsnap)
  · rw [if_pos (by simpa [Option.isSome_iff_ne_none] using hn)] at hsnap
    have hu := updateJob_of_mem hd h.2.1 fun j => { j with buffer := j.buffer.map fun b => b.fill fill s.hold }
    rw [hb] at hu
    have hset : (s.updateJob j.id fun j => { j with buffer := j.buffer.map fun b => b.fill fill s.hold }).settled :=
      updateJob_settled hs ⟨fun _ => rfl, fun _ => rfl, fun _ => rfl⟩
    refine ⟨fun hh => ?_, fun hh => ?_⟩
    · have he : s.snapshot j a = s.updateJob j.id fun j => { j with buffer := j.buffer.map fun b => b.fill fill s.hold } := by
        rw [State.snapshot, if_pos hh]
      rw [exec_of_settled (c := .snapshotTimerExpiry l) (hsnap.trans he) hset (List.Subset.refl _), hu, hh]
      rfl
    · have he : s.snapshot j a =
          (s.updateJob j.id fun j => { j with buffer := j.buffer.map fun b => b.fill fill s.hold }).raise .snapshot := by
        rw [State.snapshot, if_neg (by simp [hh])]
      generalize hv : (s.updateJob j.id fun j => { j with buffer := j.buffer.map fun b => b.fill fill s.hold }) = v at *
      obtain ⟨p, hp⟩ := raise_eq v .snapshot
      obtain ⟨q, hq⟩ := settlePort_eq_withPort (v.raise .snapshot)
      refine ⟨{ v.raise .snapshot with port := q }, ?_, ?_, ?_, ?_⟩
      · rw [exec_eq_close]
        refine congrArg Host.Outcome.next ?_
        show ((s.snapshotTimerExpiry l).close s) = _
        rw [hsnap, he, close_of_settled ?_ ?_ ?_, hq]
        · rw [hp]; exact hset.1
        · rw [hp]; exact hset.2.1
        · rw [hp, ← hv]; exact List.Subset.refl _
      · rw [hp, hu]
      · rw [hp, hu]
      · rw [hp, hu, hh]
        rfl

end

end Sys2Proof.Machine

/-! PROOFS. Band completions (R86 to R88, R98 to R100). -/

namespace Sys2Proof.Machine

section
variable {s u : State} {l : LaneId} {j : Job} {a e : Acquisition} {b : BandId} {x y : BandAcq} {sums : List BinSums}

/-- A band's record after an accepted completion against its target (R88). -/
def BandAcq.accepting (x : BandAcq) (target : Nat) (sums : List BinSums) : BandAcq := { x with
  sums := List.zipWith (fun (p q : BinSums) => ⟨p.re + q.re, p.im + q.im, p.a + q.a, p.b + q.b⟩) x.sums sums
  accepted := x.accepted + 1
  completions := x.completions + 1
  inProgress := decide (x.accepted + 1 < target) }

/-- The state with an acquisition record on a lane, and with the counts of one of its bands in the job record. -/
def State.counted (s : State) (l : LaneId) (j : Job) (e : Acquisition) (y : BandAcq) (b : BandId) : State :=
  { s.setLane l { s.lane l with acquisition := some e } with
    jobs := s.jobs.map fun (k : Job) => if k.id = j.id then
      { k with counts := k.counts.map fun (v : Vector BandCount 6) => v.set b ⟨y.accepted, y.rejected⟩ } else k }

theorem addSums_eq_zipWith : ∀ {xs ys : List BinSums}, ys.length = xs.length →
    addSums xs ys = List.zipWith (fun (p q : BinSums) => ⟨p.re + q.re, p.im + q.im, p.a + q.a, p.b + q.b⟩) xs ys
  | [], [], _ => rfl
  | _ :: _, _ :: _, h => congrArg _ (addSums_eq_zipWith (Nat.succ.inj h))

theorem complete_accepting (hx : x.spoiled = false) (hl : sums.length = x.sums.length) (target : Nat) :
    x.complete target sums = x.accepting target sums := by
  rw [BandAcq.complete, if_neg (by simp [hx]), BandAcq.accept, addSums_eq_zipWith hl]
  rfl

theorem acquisition_complete_iff (a : Acquisition) (p : Plan) :
    a.complete p = true ↔ ∀ x ∈ a.bands, p.bands[x.band].target ≤ x.accepted := by simp [Acquisition.complete]

theorem minimumsMet_iff (a : Acquisition) (p : Plan) :
    a.minimumsMet p = true ↔ ∀ x ∈ a.bands, p.bands[x.band].minimum ≤ x.accepted := by simp [Acquisition.minimumsMet]

/-- The early-stop test is the one of the obligations, in a state with the plans and masks of `s` (R98 to R100). -/
theorem completionEnds_eq (hp : u.plans = s.plans) (hm : u.masks = s.masks) (j : Job) (a : Acquisition) (b : BandId) :
    u.completionEnds j a b = s.endedBy j a b := by
  have hplan : u.planOf j = s.planOf j := by rw [State.planOf, State.planOf, hp]
  have hmask (p : Plan) : u.maskOf p = s.maskOf p := by
    rw [State.maskOf, State.maskOf, hm]
  have hprov : u.provisional j a = s.provisional j a := by
    simp only [State.provisional, hplan, hmask]
  unfold State.completionEnds State.endedBy
  simp only [hplan, hprov, acquisition_complete_iff, minimumsMet_iff, earlyStop, JobFlags.barPass, Bool.or_eq_true,
    not_or, Bool.not_eq_true]
  congr 1
  exact if_congr (and_congr_right fun _ => and_comm) rfl rfl

theorem find_band (h : a.bands.find? (fun (y : BandAcq) => y.band == b) = some x) : x.band = b := by
  simpa using List.find?_some h

/-- A completion of an average in progress on a running lane. -/
theorem bandCompletion_of (hr : s.running? l = some (j, a)) (hx : a.bands.find? (fun (y : BandAcq) => y.band == b) = some x)
    (hin : x.inProgress = true) : s.bandCompletion l b sums = s.completeBand l j a x sums := by
  simp only [State.bandCompletion, hr, Acquisition.find, hx, hin, if_true]

theorem bandCompletion_unstarted (hr : s.running? l = some (j, a))
    (hx : ∀ x ∈ a.bands, x.band = b → x.inProgress = false) : s.bandCompletion l b sums = s := by
  simp only [State.bandCompletion, hr, Acquisition.find]
  split
  · rfl
  · next x hf => exact if_neg (by simp [hx x (List.mem_of_find?_eq_some hf) (find_band hf)])

theorem bandCompletion_no_job (h : (s.lane l).job = none) : s.bandCompletion l b sums = s := by
  simp only [State.bandCompletion, running?_no_job h]

theorem counted_eq (hb : y.band = b) : (s.setLane l { s.lane l with acquisition := some (a.replace y) }).followCounts j y =
    s.counted l j (a.replace y) y b := by
  subst hb
  rfl

theorem completeBand_spoiled (hb : x.band = b) (hx : x.spoiled = true) :
    s.completeBand l j a x sums = s.counted l j (a.replace x.reject) x.reject b := by
  rw [State.completeBand, BandAcq.complete, if_pos hx, if_pos hx]
  exact counted_eq hb

theorem completeBand_accepted (hb : x.band = b) (hx : x.spoiled = false) (hl : sums.length = x.sums.length)
    (hy : y = x.accepting (s.planOf j).bands[b].target sums) : (s.endedBy j (a.replace y) b = none →
      s.completeBand l j a x sums = s.counted l j (a.replace y) y b) ∧
    ∀ r, s.endedBy j (a.replace y) b = some r → s.completeBand l j a x sums =
      (s.counted l j (a.replace y) y b).endAcquisition l j (a.replace y) r (completionDuration y) := by
  subst hb
  have hyb : y.band = x.band := by rw [hy]; rfl
  unfold State.completeBand
  simp only [complete_accepting hx hl, ← hy, counted_eq hyb, hx, Bool.false_eq_true, if_false]
  rw [completionEnds_eq (s := s) (u := s.counted l j (a.replace y) y x.band) rfl rfl]
  exact ⟨fun h => by rw [h], fun r h => by rw [h]⟩

theorem counted_settled (hs : s.settled) : (s.counted l j e y b).settled := by
  refine ⟨hs.1, startingMembers_map (sameStart_update (n := j.id) (f := fun k => { k with
    counts := k.counts.map fun (v : Vector BandCount 6) => v.set b ⟨y.accepted, y.rejected⟩ }) ?_) rfl hs.2.1, hs.2.2⟩
  exact ⟨fun _ => rfl, fun _ => rfl, fun _ => rfl⟩

/-- Settles O41: a completion is taken for an average in progress, and is rejected or accepted. -/
theorem bandCompletionCounts : Obligations.BandCompletionCounts := by
  intro l b sums s hs hd
  refine ⟨fun hn => exec_of_self hs (bandCompletion_no_job hn), fun j a h ha => ?_⟩
  have hr := running?_of_serves hd h ha
  refine ⟨fun hx => exec_of_self hs (bandCompletion_unstarted hr hx), fun x hx hin => ?_⟩
  intro goesOn counted
  have hb := find_band hx
  have heff := bandCompletion_of (sums := sums) hr hx hin
  have hcounted (y : BandAcq) (hy : y.band = b) : counted y = s.counted l j (a.replace y) y b := by
    subst hy
    rfl
  refine ⟨fun hsp => ?_, fun hsp hl => ?_⟩
  · exact exec_of_settled (c := .bandCompletion l b sums) (heff.trans ((completeBand_spoiled hb hsp).trans (hcounted x.reject hb).symm))
      (counted_settled hs) (List.Subset.refl _)
  · intro y hend
    have hgo : goesOn y = a.replace y := by
      have hyb : y.band = b := hb
      simp only [goesOn, Acquisition.replace, hyb]
    rw [hgo] at hend
    exact exec_of_settled (c := .bandCompletion l b sums)
      (heff.trans (((completeBand_accepted hb hsp hl rfl).1 hend).trans (hcounted y hb).symm)) (counted_settled hs) (List.Subset.refl _)

end

end Sys2Proof.Machine

/-! PROOFS. Acquisition end (R101, R103): at a deciding completion and at the time limit. -/

namespace Sys2Proof.Machine

section
variable {s u : State} {l : LaneId} {j k : Job} {a e : Acquisition} {b : BandId} {x y : BandAcq} {sums : List BinSums}

/-- A MEASURING site that its lane releases is READY, with SITE_READY pending (R23, R24). -/
theorem releaseSite_ready {i : SiteId} (hi : (s.lane l).connected = some i) (hm : (s.site i).state = .measuring) :
    (s.releaseSite l).events.pending &&& EventKind.siteReady.bit ≠ 0 ∧ ((s.releaseSite l).site i).state = .ready := by
  refine ⟨?_, ?_⟩
  · unfold State.releaseSite
    simp only [hi]
    rw [if_pos (by exact hm)]
    exact raise_pending _ _
  · rw [releaseSite_site, if_pos ⟨hi, hm⟩]
    rfl

theorem unclaimed_of_jobs (hj : ∀ k ∈ u.jobs, k.state = .gangWait → k ∈ s.jobs) (h : s.unclaimed l) : u.unclaimed l :=
  fun k hk hst => h k (hj k hk hst) hst

/-- The state at an acquisition end, after the close of the event. -/
theorem endAcquisition_close {r : EndReason} {d : Nat} (hd : u.distinct) (hc : u.unclaimed l) (hk : k ∈ u.jobs)
    (hid : k.id = j.id) (s₀ : State) :
    ((u.endAcquisition l j e r d).close s₀).lane l =
      { u.lane l with state := .evaluating, acquisition := some (e.stopped r), connected := none } ∧
    (∃ k' ∈ ((u.endAcquisition l j e r d).close s₀).jobs, k' = { k with
      state := .evaluating, duration := some d, gang := k'.gang }) ∧
    ∀ i, (u.lane l).connected = some i → (u.site i).state = .measuring →
      ((u.endAcquisition l j e r d).close s₀).events.pending &&& EventKind.siteReady.bit ≠ 0 ∧
        (((u.endAcquisition l j e r d).close s₀).site i).state.selectable = true := by
  have hd' := (endAcquisition_carried u l j e r d).distinct hd
  have hjobs : (u.endAcquisition l j e r d).jobs = u.jobs.map fun k =>
      if k.id = j.id then { k with state := .evaluating, duration := some d } else k := by
    rw [State.endAcquisition, releaseSite_jobs]; rfl
  have hlane : (u.endAcquisition l j e r d).lane l =
      { u.lane l with state := .evaluating, acquisition := some (e.stopped r), connected := none } := by
    rw [State.endAcquisition, releaseSite_lane, if_pos rfl]
    simp only [State.updateJob_lane, State.setLane_lane_self]
    rfl
  have hfree : (u.endAcquisition l j e r d).unclaimed l := by
    refine unclaimed_of_jobs (fun x hx hst => ?_) hc
    rw [hjobs] at hx
    obtain ⟨z, hz, rfl⟩ := List.mem_map.1 hx
    split at hst
    · cases hst
    · next hn => rw [if_neg hn]; exact hz
  refine ⟨?_, ?_, fun i hi hm => ?_⟩
  · rw [close_lane _ hd' hfree (by rw [hlane]; rfl), hlane]
  · have hmem : { k with state := .evaluating, duration := some d } ∈ (u.endAcquisition l j e r d).jobs := by
      rw [hjobs]
      exact List.mem_map.2 ⟨k, hk, if_pos hid⟩
    obtain ⟨k', hk', g, rfl⟩ := close_job s₀ hd' hmem nofun nofun
    exact ⟨_, hk', rfl⟩
  · have hready := releaseSite_ready (s := (u.setLane l { u.lane l with
      state := .evaluating, acquisition := some (e.freeze r) }).updateJob j.id fun j =>
        { j with state := .evaluating, duration := some d }) (l := l) (i := i)
      (by simp only [State.updateJob_lane, State.setLane_lane_self]; exact hi) hm
    exact ⟨(finish_carried _).pending hready.1,
      ((finish_carried (u.endAcquisition l j e r d)).sites i).selectable
        ((congrArg SiteState.selectable hready.2).trans rfl)⟩

theorem counted_carried : Carried s (s.counted l j e y b) :=
  (setLane_carried s l { s.lane l with acquisition := some e } rfl).trans
    (updateJob_carried _ j.id (fun k => { k with
      counts := k.counts.map fun (v : Vector BandCount 6) => v.set b ⟨y.accepted, y.rejected⟩ })
      fun _ => ⟨rfl, rfl, rfl, rfl, rfl, rfl, rfl, rfl, id, id, id⟩)

/-- The duration at a completion, to the nearest millisecond (R103). -/
theorem completionDuration_eq (hb : x.band = b) :
    completionDuration x = (2 * (x.completions * Config.averageTime b) + 100) / 200 := by
  subst hb
  unfold completionDuration roundDiv
  rw [if_pos (by omega)]
  omega

/-- Settles O42: at either end, the state is the one that `State.endAcquisition` leaves at the close of the event. -/
theorem acquisitionEnds : Obligations.AcquisitionEnds := by
  intro l j a s hs hd hc h ha ends
  have hr := running?_of_serves hd h ha
  obtain ⟨hjob, hj, hst⟩ := h
  refine ⟨?_, ?_, fun hm => exec_of_self hs ?_⟩
  · intro b sums x r hx hin hsp hl y e hend
    have hb := find_band hx
    have he : e = a.replace y := by
      have hyb : y.band = b := hb
      simp only [e, Acquisition.replace, hyb]
    rw [he] at hend ⊢
    have heff : s.bandCompletion l b sums =
        (s.counted l j (a.replace y) y b).endAcquisition l j (a.replace y) r (completionDuration y) :=
      (bandCompletion_of hr hx hin).trans ((completeBand_accepted hb hsp hl rfl).2 r hend)
    rw [← completionDuration_eq (x := y) hb]
    refine ⟨_, exec_eq_close _ _, ?_⟩
    show Carried s ((s.bandCompletion l b sums).close s) ∧ _
    rw [show effectOf (.bandCompletion l b sums) s = _ from heff, heff]
    have hcar : Carried s (s.counted l j (a.replace y) y b) := counted_carried
    have hmem : { j with counts := j.counts.map fun (v : Vector BandCount 6) => v.set b ⟨y.accepted, y.rejected⟩ } ∈
        (s.counted l j (a.replace y) y b).jobs := List.mem_map.2 ⟨j, hj, if_pos rfl⟩
    have hfree : (s.counted l j (a.replace y) y b).unclaimed l := by
      intro k hk hst'
      obtain ⟨z, hz, rfl⟩ := List.mem_map.1 hk
      have hz' := hc z hz
      split at hst' <;> split <;> simp_all
    obtain ⟨h1, h2, h3⟩ := endAcquisition_close (e := a.replace y) (r := r) (d := completionDuration y) (j := j)
      (hcar.distinct hd) hfree hmem rfl s
    refine ⟨(hcar.trans (endAcquisition_carried _ _ _ _ _ _)).close (List.Subset.refl _), ?_, h2, fun i hi => h3 i ?_⟩
    · rw [h1]
      simp only [State.counted, State.lane, State.setLane]
      simp
    · simpa [State.counted, State.lane, State.setLane] using hi
  · intro limit hm
    have heff : s.maxDurationExpiry l = s.endAcquisition l j a .timeout limit := by
      simp only [State.maxDurationExpiry, hr, hm]
    refine ⟨_, exec_eq_close _ _, ?_⟩
    rw [show effectOf (.maxDurationExpiry l) s = _ from heff]
    exact ⟨(endAcquisition_carried _ _ _ _ _ _).close (List.Subset.refl _), endAcquisition_close hd hc hj rfl s⟩
  · show s.maxDurationExpiry l = s
    simp only [State.maxDurationExpiry, hr, hm]

end

end Sys2Proof.Machine

/-! PROOFS. What the close of an event keeps: a property that each operation of the arbiter keeps holds at the close. -/

namespace Sys2Proof.Machine

section
variable {s t u s₀ : State} {l : LaneId} {n : Nat}

/-! ### Properties that the arbiter keeps -/

/-- A property of job table and lanes that the operations of the arbiter keep (R65 to R69). -/
structure ArbiterKeeps (I : State → Prop) : Prop where
  frame : ∀ {s t}, t.jobs = s.jobs → t.lanes = s.lanes → I s → I t
  moveLanes : ∀ {s} (p q), I s → I (s.moveLanes p q)
  endTerminal : ∀ {s} (e n), I s → I (s.endTerminal e n)
  assignOne : ∀ {s} (j l), I s → I (s.assignOne j l)

section
variable {I : State → Prop} (hI : ArbiterKeeps I)
include hI

theorem ArbiterKeeps.endJobs (e : EndReason) (js : List Job) (h : I s) : I (s.endJobs e js) := by
  unfold State.endJobs
  generalize (s.oldestFirst js).map Job.id = ids
  induction ids generalizing s with
  | nil => exact h
  | cons n ns ih => exact ih (hI.endTerminal e n h)

theorem ArbiterKeeps.setHead (x : Option (List Nat)) (h : I s) : I (s.setHead x) := hI.frame (s := s) rfl rfl h

theorem ArbiterKeeps.raise (k : EventKind) (h : I s) : I (s.raise k) := hI.frame (by simp) (by simp) h

theorem ArbiterKeeps.assign (c : List Job) (h : I s) : I (s.assign c) := by
  unfold State.assign
  refine hI.setHead _ (hI.moveLanes _ _ ?_)
  generalize (bySite c).zip s.openLanes = xs
  induction xs generalizing s with
  | nil => exact h
  | cons x xs ih => exact ih (hI.assignOne x.1 x.2 h)

theorem ArbiterKeeps.serveHead (c : List Job) (h : I s) : I (s.serveHead c).1 := by
  unfold State.serveHead
  dsimp only
  repeat' split
  exacts [hI.assign c h, hI.moveLanes _ _ h, hI.raise _ (hI.moveLanes _ _ h), hI.raise _ h, hI.raise _ (hI.moveLanes _ _ h)]

theorem ArbiterKeeps.takeHead (c : List Job) (h : I s) : I (s.takeHead c) := by
  unfold State.takeHead
  split
  · exact h
  · exact hI.setHead _ (hI.moveLanes _ _ h)

theorem ArbiterKeeps.reconsiderWith (fuel : Nat) (h : I s) : I (State.reconsiderWith fuel s) := by
  induction fuel generalizing s with
  | zero => exact h
  | succ fuel ih =>
    unfold State.reconsiderWith
    split
    · exact hI.setHead _ (hI.moveLanes _ _ h)
    · next c hc =>
      dsimp only
      repeat' split
      · exact ih (hI.endJobs _ c (hI.takeHead c h))
      · exact ih (hI.serveHead c (hI.takeHead c h))
      · exact hI.serveHead c (hI.takeHead c h)

/-- A property that holds after the start of gangs holds at the close of the event. -/
theorem ArbiterKeeps.close (h : I s.startGangs) (s₀ : State) : I (s.close s₀) := by
  obtain ⟨p, hp⟩ := settlePort_eq_withPort s.startGangs.arbitrate
  have hfin : I s.finish := by
    rw [State.finish, hp]
    refine hI.frame (s := s.startGangs.arbitrate) rfl rfl ?_
    unfold State.arbitrate
    split
    · exact hI.frame (s := State.reconsiderWith (s.startGangs.jobs.length + 1) s.startGangs) rfl rfl (hI.reconsiderWith _ h)
    · exact h
  exact hI.frame (s := s.finish) rfl rfl hfin

end

/-! ### A job without a gang stays without one -/

/-- The record of an id holds no gang. -/
def State.gangless (s : State) (n : Nat) : Prop := ∀ k ∈ s.jobs, k.id = n → k.gang = none

theorem State.gangless.map (h : s.gangless n) {f : Job → Job} (hid : ∀ k : Job, (f k).id = k.id)
    (hg : ∀ k : Job, k.gang = none → (f k).gang = none) (hj : t.jobs = s.jobs.map f) : t.gangless n := by
  intro k hk hn
  rw [hj] at hk
  obtain ⟨x, hx, rfl⟩ := List.mem_map.1 hk
  exact hg _ (h _ hx ((hid _).symm.trans hn))

theorem updateJob_gangless {m : Nat} {f : Job → Job} (hid : ∀ k : Job, (f k).id = k.id) (hg : ∀ k : Job, (f k).gang = k.gang)
    (h : s.gangless n) : (s.updateJob m f).gangless n := by
  refine h.map (f := fun k => if k.id = m then f k else k) (fun k => ?_) (fun k hk => ?_) rfl
  · split
    · exact hid k
    · rfl
  · split
    · rw [hg, hk]
    · exact hk

theorem afterEnd_gangless (m : Nat) (e : EndReason) (r : Result) (k : Job) (hk : k.gang = none) :
    (k.afterEnd m e r).gang = none := by
  by_cases h : k.id = m
  · rw [Job.afterEnd_self h]
  · rw [Job.afterEnd_other h, hk]
    rfl

theorem endTerminal_gangless (e : EndReason) (m : Nat) (h : s.gangless n) : (s.endTerminal e m).gangless n := by
  rcases endTerminal_cases e s m with he | ⟨j, -, -, -, ⟨-, he⟩ | ⟨l, -, -, he⟩⟩
  · rw [he]; exact h
  · rw [he]
    exact h.map (Job.afterEnd_id _ _ _) (afterEnd_gangless _ _ _) (endRecord_jobs s e j)
  · rw [he]
    exact h.map (Job.afterEnd_id _ _ _) (afterEnd_gangless _ _ _)
      ((releaseLane_jobs _ _).trans ((endRecord_jobs _ e j).trans (congrArg (List.map _) (releaseSite_jobs s l))))

theorem gangless_kept (n : Nat) : ArbiterKeeps (State.gangless · n) where
  frame hj _ h := by unfold State.gangless; rw [hj]; exact h
  moveLanes _ _ h := h
  endTerminal e m h := endTerminal_gangless e m h
  assignOne j l h := (updateJob_gangless (m := j.id) (f := fun k => { k with
    state := .tuning, lane := some l, buffer := some _, flags := { k.flags with level := k.flags.level || _ } })
      (fun _ => rfl) (fun _ => rfl) h : State.gangless _ _)

theorem startGangs_gangless (h : s.gangless n) : s.startGangs.gangless n := by
  unfold State.startGangs
  generalize s.startingMembers = js
  induction js generalizing s with
  | nil => exact h
  | cons j js ih =>
    refine ih ?_
    dsimp only
    split
    · next l _ =>
      exact (updateJob_gangless (s := s) (m := j.id) (f := fun k => { k with
        state := .acquiring, latched := _, started := _, counts := _, flags := k.flags.withTags _ }) (fun _ => rfl)
        (fun _ => rfl) h : State.gangless _ _)
    · exact h

/-- A record without a gang that is neither QUEUED nor in GANG_WAIT stands at the close of an event. -/
theorem close_record {k : Job} (hd : s.distinct) (hk : k ∈ s.jobs) (hq : k.state ≠ .queued) (hw : k.state ≠ .gangWait)
    (hg : k.gang = none) (s₀ : State) : k ∈ (s.close s₀).jobs := by
  obtain ⟨k', hk', g, rfl⟩ := close_job s₀ hd hk hq hw
  have hnone : s.gangless k.id := fun x hx hid => by rw [hd.unique hx hk hid, hg]
  have := (gangless_kept k.id).close (startGangs_gangless hnone) s₀ _ hk' rfl
  dsimp only at this
  rw [this, ← hg] at hk'
  exact hk'

/-! ### A lane without an acquisition record gets none from the arbiter -/

theorem releaseLane_acquisition {m : LaneId} (h : (s.lane l).acquisition = none) : ((s.releaseLane m).lane l).acquisition = none := by
  by_cases hm : l = m
  · subst hm
    exact (releaseLane_freed s l).acquisition
  · rw [(releaseLane_freed s m).lane l hm, h]

theorem acquisition_kept (l : LaneId) : ArbiterKeeps (fun s => (s.lane l).acquisition = none) where
  frame _ hl h := by rw [State.lane, hl]; exact h
  moveLanes p q h := by
    simp only [State.lane, State.moveLanes, Fin.getElem_fin, Vector.getElem_map] at h ⊢
    split <;> exact h
  endTerminal {s} e n h := by
    rcases endTerminal_cases e s n with he | ⟨j, -, -, -, ⟨-, he⟩ | ⟨m, -, -, he⟩⟩ <;> rw [he]
    · exact h
    · rw [endRecord_lane]; exact h
    · refine releaseLane_acquisition ?_
      rw [endRecord_lane, releaseSite_lane]
      split
      · next hm => rw [hm]; exact h
      · exact h
  assignOne {s} j m h := by
    show ((State.setLane _ m _).lane l).acquisition = none
    rw [State.setLane_lane]
    split
    · rfl
    · exact h

theorem close_acquisition (hc : s.unclaimed l) (h : (s.lane l).acquisition = none) (s₀ : State) :
    ((s.close s₀).lane l).acquisition = none := by
  refine (acquisition_kept l).close ?_ s₀
  rw [startGangs_lane s hc]
  exact h

/-! ### The close while the start condition fails, with gangs that start -/

/-- The start of gangs is the start of acquisitions (R73). -/
theorem startGangs_keeps {α : Type} (f : State → α) (hf : ∀ s j l, f (State.startAcquisition s j l) = f s) (s : State) :
    f s.startGangs = f s := by
  unfold State.startGangs
  generalize s.startingMembers = js
  suffices ∀ u, f u = f s → f (js.foldl (fun s j => match j.lane with
      | some l => s.startAcquisition j l
      | none => s) u) = f s from this s rfl
  induction js with
  | nil => exact fun _ h => h
  | cons j js ih =>
    intro u h
    refine ih _ ?_
    dsimp only
    split
    · rw [hf, h]
    · exact h

theorem finish_without_start (hc : s.timebase.startCondition = false) (hr : s.reconsider = true) :
    ∃ p, s.finish = { s.startGangs.headless with port := p } := by
  have htb : s.startGangs.timebase = s.timebase := startGangs_keeps State.timebase (fun _ _ _ => rfl) s
  have hrec : s.startGangs.reconsider = s.reconsider := startGangs_keeps State.reconsider (fun _ _ _ => rfl) s
  obtain ⟨p, hp⟩ := settlePort_eq_withPort s.startGangs.headless
  exact ⟨p, by rw [State.finish, arbitrate_of_no_head (hrec.trans hr) (findHead_eq_none (by rw [htb]; exact hc)), hp]⟩

/-- The parts of the state at the close of an event, while the start condition fails (R65). -/
theorem close_parts_without_start (hc : s.timebase.startCondition = false) (hr : s.reconsider = true) (s₀ : State) :
    (s.close s₀).jobs = s.startGangs.jobs ∧ (s.close s₀).sites = s.sites ∧ (s.close s₀).freeSegments = s.freeSegments ∧
      (s.unclaimed l → (s.close s₀).lane l = if (s.lane l).state = .reserved then { s.lane l with state := .idle }
        else s.lane l) := by
  obtain ⟨p, hp⟩ := finish_without_start hc hr
  have hjobs : s.finish.jobs = s.startGangs.jobs := by rw [hp]; rfl
  have hsites : s.finish.sites = s.startGangs.sites := by rw [hp]; rfl
  have hfree : s.finish.freeSegments = s.startGangs.freeSegments := by rw [hp]; rfl
  have hlane : s.finish.lane l = if (s.startGangs.lane l).state = .reserved then { s.startGangs.lane l with state := .idle }
      else s.startGangs.lane l := by
    rw [hp]
    simp only [State.headless, State.lane, Fin.getElem_fin, Vector.getElem_map]
    rfl
  refine ⟨hjobs, hsites.trans ?_, hfree.trans ?_, fun hl => ?_⟩
  · exact startGangs_keeps State.sites (fun _ _ _ => rfl) s
  · exact startGangs_keeps State.freeSegments (fun _ _ _ => rfl) s
  · rw [← startGangs_lane s hl]
    exact hlane

end

end Sys2Proof.Machine

/-! PROOFS. Evaluation end (R104, R130, R131, R146). -/

namespace Sys2Proof.Machine

section
variable {s t u : State} {l : LaneId} {j k : Job} {a : Acquisition} {e : EndReason} {r : Result}

/-! ### Records that end -/

theorem unclaimed_afterEnd {n : Nat} (h : s.unclaimed l) (hj : u.jobs = s.jobs.map (Job.afterEnd n e r)) : u.unclaimed l := by
  intro k hk hst
  rw [hj] at hk
  obtain ⟨x, hx, rfl⟩ := List.mem_map.1 hk
  by_cases hn : x.id = n
  · rw [Job.afterEnd_self hn] at hst
    cases hst
  · rw [Job.afterEnd_other hn] at hst ⊢
    exact h x hx hst

theorem recordEnd_raises (s : State) (n : Nat) (e : EndReason) (r : Result) :
    (s.recordEnd n e r).events.pending &&& EventKind.result.bit ≠ 0 ∧ (s.recordEnd n e r).reconsider = true :=
  ⟨raise_pending _ _, rfl⟩

theorem beginCalibration_reconsider (s : State) (l : LaneId) (b : Bool) :
    (s.beginCalibration l b).reconsider = s.reconsider := by
  unfold State.beginCalibration
  dsimp only
  split <;> simp [State.beginStep]

theorem releaseLane_reconsider (h : s.reconsider = true) : (s.releaseLane l).reconsider = true := by
  unfold State.releaseLane
  dsimp only
  split
  · rw [beginCalibration_reconsider, State.setLane_reconsider, h]
  · rfl

theorem releaseLane_idle (h : (s.lane l).calPending = false) : ((s.releaseLane l).lane l).state = .idle := by
  unfold State.releaseLane
  dsimp only
  rw [if_neg]
  · show ((State.setLane _ l _).lane l).state = _
    rw [State.setLane_lane_self]
  · rw [State.setLane_lane_self]
    simp [Lane.withoutJob, h]

/-! ### The result of an evaluated job -/

theorem primaryCause_eq_none {c : Criteria} (h : Criterion.fail ∉ c.outcomes) : primaryCause c = none := by
  simp only [Criteria.outcomes, List.mem_cons, List.not_mem_nil, or_false, not_or] at h
  obtain ⟨h1, h2, h3, h4⟩ := h
  rw [primaryCause, if_neg (Ne.symm h1), if_neg (Ne.symm h2), if_neg (Ne.symm h3), if_neg (Ne.symm h4)]

/-- The primary cause stands without a FAIL as it stands behind one (R131). -/
theorem cause_of_verdict (c : Criteria) (f : JobFlags) :
    (if evaluatedVerdict c f = .fail then primaryCause c else none) = primaryCause c := by
  split
  · rfl
  · next h =>
    refine (primaryCause_eq_none fun hf => h ?_).symm
    rw [evaluatedVerdict, if_pos hf]

theorem evaluationEnd_of (hd : s.distinct) (h : s.serves l j .evaluating) (ha : (s.lane l).acquisition = some a) :
    s.evaluationEnd l = ((s.setFree (s.freeSegments + (j.buffer.map BufferSet.returned).getD 0)).recordEnd j.id
      (a.reason.getD .complete) (s.evaluate j a)).releaseLane l := by
  simp only [State.evaluationEnd, jobOn_of_serves hd h, ha]

/-- The segments of N and F (R146). -/
theorem returned_eq (b : BufferSet) : b.returned = if b.roles then 2 * b.bands else 0 := by
  unfold BufferSet.returned BufferSet.size
  split <;> omega

/-- A FAIL has a primary cause (R131). -/
theorem primaryCause_ne_none {c : Criteria} (h : Criterion.fail ∈ c.outcomes) : primaryCause c ≠ none := by
  simp only [Criteria.outcomes, List.mem_cons, List.not_mem_nil, or_false] at h
  unfold primaryCause
  repeat' split
  · nofun
  · nofun
  · nofun
  · nofun
  · next h1 h2 h3 h4 => rcases h with h | h | h | h <;> exact absurd h.symm (by assumption)

/-- The bin class of an evaluated job, by the table of R52. -/
theorem binClassOf_evaluated (v : Verdict) (cause : Option Cause) :
    (v = .pass ∨ v = .inconclusive ∨ (v = .fail ∧ cause ≠ none)) → binClassOf v cause = match v, cause with
      | .pass, _ => .pass
      | .inconclusive, _ => .inconclusive
      | _, some .frequency => .failFrequency
      | _, some .mask => .failMask
      | _, some .jitter => .failJitter
      | _, _ => .failSpur := by
  intro h
  rcases h with rfl | rfl | ⟨rfl, hn⟩
  · rfl
  · rfl
  · cases cause with
    | none => exact absurd rfl hn
    | some y => cases y <;> rfl

/-- What evaluation end makes of a state (R104, R146), after the close of the event. -/
theorem evaluated_close {reason : EndReason} {n : Nat} (hd : s.distinct) (hc : s.unclaimed l) (hj : j ∈ s.jobs)
    (hu : u = ((s.setFree n).recordEnd j.id reason r).releaseLane l) (ht : t = u.close s) :
    Carried s t ∧ j.id ∈ t.results ∧ t.events.pending &&& EventKind.result.bit ≠ 0 ∧
      { j with
        state := .done, reason := some reason, result := some r, lane := none, gang := none
        buffer := none } ∈ t.jobs ∧
      (t.lane l).acquisition = none ∧ (t.lane l).job ≠ some j.id ∧
      ((s.lane l).calPending = true → (t.lane l).state = .calibrating ∧ (t.calRecord l).status = .running) ∧
      (s.timebase.startCondition = false → ((s.lane l).calPending = false → (t.lane l).state = .idle) ∧
        t.freeSegments = n) := by
  have hv : Carried s ((s.setFree n).recordEnd j.id reason r) := (setFree_carried s n).trans (recordEnd_carried _ _ _ _)
  have hcar : Carried s u := by rw [hu]; exact hv.trans (releaseLane_carried _ _)
  have hfreed : Freed l ((s.setFree n).recordEnd j.id reason r) u := by rw [hu]; exact releaseLane_freed _ _
  have hjobs : u.jobs = s.jobs.map (Job.afterEnd j.id reason r) := by rw [hfreed.jobs, recordEnd_jobs]; rfl
  have hstart (hst : s.timebase.startCondition = false) : u.timebase.startCondition = false :=
    (congrArg Timebase.startCondition (congrArg Setting.timebase hcar.setting)).trans hst
  have hdu := hcar.distinct hd
  have hcu := unclaimed_afterEnd hc hjobs
  have hrec : { j with
      state := .done, reason := some reason, result := some r, lane := none, gang := none
      buffer := none } ∈ u.jobs := by
    rw [hjobs]
    exact List.mem_map.2 ⟨j, hj, Job.afterEnd_self rfl⟩
  have hraise := recordEnd_raises (s.setFree n) j.id reason r
  have hpend : u.events.pending &&& EventKind.result.bit ≠ 0 := by
    rw [hu]
    exact (releaseLane_carried _ l).pending hraise.1
  have hlane : (u.lane l).acquisition = none := hfreed.acquisition
  have hcal : (((s.setFree n).recordEnd j.id reason r).lane l).calPending = (s.lane l).calPending := by
    rw [recordEnd_lane]; rfl
  rw [ht]
  refine ⟨hcar.close (List.Subset.refl _), mem_orderEnds.2 ((finish_carried u).results.subset ?_),
    (finish_carried u).pending hpend, close_record hdu hrec nofun nofun rfl s, close_acquisition hcu hlane s, ?_, fun hp => ?_,
    fun hst => ⟨fun hp => ?_, ?_⟩⟩
  · rw [hfreed.results, recordEnd_results]
    exact List.mem_append_right _ (List.mem_singleton_self _)
  · exact close_unserved ⟨hdu, ⟨_, hrec, rfl, rfl⟩, by rw [hfreed.job]; nofun⟩ s
  · obtain ⟨hstate, hstatus⟩ := hfreed.pending (hcal.trans hp)
    rw [close_lane s hdu hcu (by rw [hstate]; rfl), State.calRecord, close_cal s hdu]
    exact ⟨hstate, hstatus⟩
  · have hidle : (u.lane l).state = .idle := by rw [hu]; exact releaseLane_idle (hcal.trans hp)
    obtain ⟨-, -, -, hl⟩ := close_parts_without_start (l := l) (s := u)
      (hstart hst) (by rw [hu]; exact releaseLane_reconsider hraise.2) s
    rw [hl hcu, hidle]
    exact hidle
  · obtain ⟨-, -, hf, -⟩ := close_parts_without_start (l := l) (s := u)
      (hstart hst) (by rw [hu]; exact releaseLane_reconsider hraise.2) s
    rw [hf, hfreed.free, recordEnd_freeSegments]
    rfl

/-- Settles O44: the result is the one that the obligation spells out, and the close of the event leaves it. -/
theorem evaluationEndsJob : Obligations.EvaluationEndsJob := by
  intro l j a reason s hs hd hc h ha hreason p x entries c outcomes v cause cls r noHead
  have hv : evaluatedVerdict c j.flags = v := by
    simp only [v, evaluatedVerdict, JobFlags.barPass, Bool.or_eq_true]
    rfl
  have hcases : v = .pass ∨ v = .inconclusive ∨ (v = .fail ∧ cause ≠ none) := by
    by_cases hf : Criterion.fail ∈ outcomes
    · exact .inr (.inr ⟨if_pos hf, primaryCause_ne_none hf⟩)
    · simp only [v, if_neg hf]
      split
      · exact .inr (.inl rfl)
      · exact .inl rfl
  have heval : s.evaluate j a = r := by
    have hmodel : s.evaluate j a = { s.resultFor j (evaluatedVerdict c j.flags)
        (if evaluatedVerdict c j.flags = .fail then primaryCause c else none) with
        criteria := some c, jitter := some entries, spurs := some (spurList p x.spurs), spectrum := some x.segments } := rfl
    rw [hmodel, cause_of_verdict, hv]
    exact congrArg (fun k : BinClass => ({
      verdict := v, binClass := k, bin := s.binMap[k.index], cause := cause, startBand := p.startBand
      stopBand := p.stopBand, criteria := some c, jitter := some entries, spurs := some (spurList p x.spurs)
      spectrum := some x.segments } : Result)) (binClassOf_evaluated v cause hcases)
  have heff := evaluationEnd_of hd h ha
  rw [hreason, heval] at heff
  obtain ⟨h1, h2, h3, h4, h5, h6, h7, h8⟩ := evaluated_close hd hc h.2.1 heff rfl
  refine ⟨_, exec_eq_close _ _, h1, h2, h3, h4, h5, h6, h7, fun hp hn => ?_, fun hn => ?_⟩
  · exact (h8 (startCondition_eq_false hn.1 hn.2)).1 hp
  · refine ((h8 (startCondition_eq_false hn.1 hn.2)).2).trans (congrArg (s.freeSegments + ·) ?_)
    generalize j.buffer = b
    cases b with
    | none => rfl
    | some b => exact returned_eq b

end

end Sys2Proof.Machine

/-! PROOFS. Lock timer expiry (R72): the tune failure of a job, and what becomes of its lane. -/

namespace Sys2Proof.Machine

section
variable {s t u v : State} {l : LaneId} {j : Job} {n : Nat}

/-! ### The lane of a tune failure -/

theorem beginCalibration_outOfService (s : State) (l : LaneId) (b : Bool) :
    ((s.beginCalibration l b).calRecord l).outOfService = some b := by
  unfold State.beginCalibration
  dsimp only
  split <;> simp [State.beginStep]

theorem releaseLane_outOfService (h : (s.lane l).calPending = true) :
    ((s.releaseLane l).calRecord l).outOfService = some false := by
  unfold State.releaseLane
  dsimp only
  rw [if_pos (by rw [State.setLane_lane_self]; exact h)]
  exact beginCalibration_outOfService _ _ _

/-- The lane at a third failure, with LANE_ALERT pending (R72). -/
theorem releaseFailed_third (h : 3 ≤ (s.lane l).tuneFailures) : s.releaseFailed l =
    if (s.lane l).calPending then ((s.setLane l (s.lane l).withoutJob).raise .laneAlert).beginCalibration l true
    else (((s.setLane l (s.lane l).withoutJob).raise .laneAlert).setLane l
      { (s.lane l).withoutJob with state := .outOfService }).callArbiter := by
  unfold State.releaseFailed
  rw [if_neg (by omega)]
  simp only [State.raise_lane, State.setLane_lane_self]
  rfl

theorem releaseFailed_before (h : (s.lane l).tuneFailures < 3) : s.releaseFailed l = s.releaseLane l := if_pos h

theorem releaseFailed_outOfService (h : (s.lane l).calPending = true) :
    ((s.releaseFailed l).calRecord l).outOfService = some (decide (3 ≤ (s.lane l).tuneFailures)) := by
  by_cases hn : 3 ≤ (s.lane l).tuneFailures
  · rw [releaseFailed_third hn, if_pos h, beginCalibration_outOfService, decide_eq_true hn]
  · rw [releaseFailed_before (by omega), releaseLane_outOfService h, decide_eq_false hn]

theorem releaseFailed_out (h : (s.lane l).calPending = false) (hn : 3 ≤ (s.lane l).tuneFailures) :
    ((s.releaseFailed l).lane l).state = .outOfService := by
  rw [releaseFailed_third hn, if_neg (by simp [h]), State.callArbiter_lane, State.setLane_lane_self]

theorem releaseFailed_reconsider (h : s.reconsider = true) : (s.releaseFailed l).reconsider = true := by
  by_cases hn : 3 ≤ (s.lane l).tuneFailures
  · rw [releaseFailed_third hn]
    split
    · rw [beginCalibration_reconsider, State.raise_reconsider, State.setLane_reconsider, h]
    · rfl
  · rw [releaseFailed_before (by omega)]
    exact releaseLane_reconsider h

theorem releaseFailed_carried (s : State) (l : LaneId) : Carried s (s.releaseFailed l) := by
  by_cases hn : 3 ≤ (s.lane l).tuneFailures
  · have hr : Carried s ((s.setLane l (s.lane l).withoutJob).raise .laneAlert) :=
      (setLane_carried s l (s.lane l).withoutJob rfl).trans (raise_carried _ _)
    rw [releaseFailed_third hn]
    split
    · exact hr.trans (beginCalibration_carried _ _ _)
    · refine (hr.trans (setLane_carried _ l _ ?_)).trans (callArbiter_carried _)
      rw [State.raise_lane, State.setLane_lane_self]
  · rw [releaseFailed_before (by omega)]
    exact releaseLane_carried s l

theorem releaseFailed_alert (hn : 3 ≤ (s.lane l).tuneFailures) :
    (s.releaseFailed l).events.pending &&& EventKind.laneAlert.bit ≠ 0 := by
  have hr := raise_pending (s.setLane l (s.lane l).withoutJob) .laneAlert
  rw [releaseFailed_third hn]
  split
  · exact (beginCalibration_carried _ _ _).pending hr
  · exact hr

/-! ### The job of a tune failure -/

theorem Carried.with_jobs (h : Carried s t) {js ks : List Job} (hj : JobsKept js ks) :
    Carried { s with jobs := js } { t with jobs := ks } :=
  ⟨h.setting, h.sites, hj, h.results, h.events, h.failures⟩

/-- A record with the attempts of a further tune. -/
def Job.retried (j : Job) (again : Bool) (k : Job) : Job :=
  if k.id = j.id ∧ again = true then { k with attempts := j.attempts + 1 } else k

theorem tuneOutcome_reconsider (s : State) (j : Job) : (s.tuneOutcome j).reconsider = true := by
  unfold State.tuneOutcome
  split
  · rfl
  · exact (recordEnd_raises _ _ _ _).2

/-- A single job with attempts left goes back to QUEUED (R72). -/
theorem tuneOutcome_again (h : j.gang = none ∧ j.attempts < 2) : s.tuneOutcome j = s.requeue j := if_pos h

theorem tuneOutcome_ends (h : ¬(j.gang = none ∧ j.attempts < 2)) :
    s.tuneOutcome j = s.recordEnd j.id .laneTune (s.resultFor j (terminalVerdict .laneTune) none) := if_neg h

theorem retried_of_not (j : Job) : j.retried false = id := funext fun _ => if_neg (fun h => nomatch h.2)

/-- What a tune failure leaves of a state but for the lane's release (R72). -/
theorem tuneOutcome_carried (hd : s.distinct) (hj : j ∈ s.jobs) :
    Carried { s with jobs := s.jobs.map (j.retried (decide (j.gang = none ∧ j.attempts < 2))) }
      (((s.returnBuffer j).releaseSite l).tuneOutcome j) := by
  have hv : Carried s ((s.returnBuffer j).releaseSite l) := (returnBuffer_carried s j).trans (releaseSite_carried _ l)
  by_cases h : j.gang = none ∧ j.attempts < 2
  · rw [tuneOutcome_again h, decide_eq_true h]
    have hjobs : (((s.returnBuffer j).releaseSite l).requeue j).jobs = s.jobs.map (Job.requeued j.id) := by
      simp only [State.requeue, State.callArbiter, State.updateJob, releaseSite_jobs, returnBuffer_jobs, List.map_map]
      refine List.map_congr_left fun k _ => ?_
      by_cases h : k.id = j.id <;> simp [Job.requeued, h]
    have hkept : JobsKept (s.jobs.map (j.retried true)) (((s.returnBuffer j).releaseSite l).requeue j).jobs := by
      rw [hjobs, JobsKept, List.forall₂_map_left_iff, List.forall₂_map_right_iff, List.forall₂_same]
      intro k hk
      by_cases hid : k.id = j.id
      · obtain rfl := hd.unique hk hj hid
        simp only [Job.retried, Job.requeued, and_self, if_true]
        exact ⟨rfl, rfl, rfl, rfl, rfl, rfl, rfl, rfl, fun h => h, fun h => h, fun h => h⟩
      · simp only [Job.retried, Job.requeued, hid, false_and, if_false]
        exact .refl k
    exact (hv.trans (callArbiter_carried _)).with_jobs hkept
  · rw [tuneOutcome_ends h, decide_eq_false h, retried_of_not, List.map_id]
    exact hv.trans (recordEnd_carried _ _ _ _)

theorem mem_returned (hj : j ∈ s.jobs) : { j with buffer := none } ∈ ((s.returnBuffer j).releaseSite l).jobs := by
  rw [releaseSite_jobs, returnBuffer_jobs]
  exact List.mem_map.2 ⟨j, hj, if_pos rfl⟩

theorem lockTimerExpiry_of (hd : s.distinct) (h : s.serves l j .tuning) (ht : (s.lane l).tune = some .locking) :
    s.lockTimerExpiry l = (s.setLane l { s.lane l with tuneFailures := (s.lane l).tuneFailures + 1 }).tuneFailed j l := by
  simp only [State.lockTimerExpiry, ht, jobOn_of_serves hd h]
  rfl

theorem lockTimerExpiry_stray (h : (s.lane l).tune ≠ some .locking) : s.lockTimerExpiry l = s := by
  unfold State.lockTimerExpiry
  split
  · next ht _ => exact absurd ht h
  · rfl

theorem unclaimed_tuneFailed (h : s.unclaimed l) (j : Job) : (s.tuneFailed j l).unclaimed l := by
  rcases tuneFailed_jobs s j l with ⟨-, hjobs, -⟩ | ⟨r, -, hjobs, -⟩
  · refine unclaimed_of_jobs (fun k hk hst => ?_) h
    rw [hjobs] at hk
    obtain ⟨x, hx, rfl⟩ := List.mem_map.1 hk
    by_cases hid : x.id = j.id
    · rw [Job.requeued, if_pos hid] at hst
      cases hst
    · rwa [Job.requeued, if_neg hid]
  · exact unclaimed_afterEnd h hjobs

/-- A record in QUEUED without a gang stands at the close while the start condition fails. -/
theorem startGangs_queued {k : Job} (hd : s.distinct) (hk : k ∈ s.jobs) (hq : k.state = .queued) (hg : k.gang = none) :
    k ∈ s.startGangs.jobs := by
  obtain ⟨k', hk', g, rfl⟩ := startGangs_reaches s k hk (by
    rintro ⟨x, hx, hid, hst⟩
    rw [hd.unique hx hk hid, hq] at hst
    cases hst)
  have hnone : s.gangless k.id := fun x hx hid => by rw [hd.unique hx hk hid, hg]
  have := startGangs_gangless hnone _ hk' rfl
  dsimp only at this
  rwa [this, ← hg] at hk'

theorem tuneOutcome_pending {k : EventKind} (h : s.events.pending &&& k.bit ≠ 0) :
    (s.tuneOutcome j).events.pending &&& k.bit ≠ 0 := by
  unfold State.tuneOutcome
  split
  · exact h
  · exact (recordEnd_carried _ _ _ _).pending h

/-! ### The close after a tune failure -/

theorem tuneFailed_carries (hd : s.distinct) (hj : j ∈ s.jobs) :
    Carried { s with jobs := s.jobs.map (j.retried (decide (j.gang = none ∧ j.attempts < 2))) } (s.tuneFailed j l) :=
  (tuneOutcome_carried hd hj).trans (releaseFailed_carried _ l)

theorem tuneFailed_distinct (hd : s.distinct) : (s.tuneFailed j l).distinct := by
  show ((s.tuneFailed j l).jobs.map Job.id).Nodup
  have hid : (s.tuneFailed j l).jobs.map Job.id = s.jobs.map Job.id := by
    rcases tuneFailed_jobs s j l with ⟨-, hjobs, -⟩ | ⟨r, -, hjobs, -⟩ <;> rw [hjobs, List.map_map] <;>
      refine List.map_congr_left fun k _ => ?_
    · unfold Function.comp Job.requeued
      split <;> rfl
    · exact Job.afterEnd_id _ _ _ k
  rw [hid]
  exact hd

theorem tuneFailed_freed (s : State) (j : Job) (l : LaneId) :
    Freed l (((s.returnBuffer j).releaseSite l).tuneOutcome j) (s.tuneFailed j l) := releaseFailed_freed _ l

theorem tuneFailed_before (s : State) (j : Job) (l : LaneId) : (((s.returnBuffer j).releaseSite l).tuneOutcome j).lane l =
    { s.lane l with connected := none } := by
  rw [tuneOutcome_lane, releaseSite_lane, if_pos rfl, returnBuffer_lane]

theorem tuneFailed_connected : ((s.tuneFailed j l).lane l).connected = none := by
  rw [(tuneFailed_freed s j l).connected, tuneFailed_before]

theorem tuneFailed_ready {i : SiteId} (hi : (s.lane l).connected = some i) (hm : (s.site i).state = .measuring) :
    (s.tuneFailed j l).events.pending &&& EventKind.siteReady.bit ≠ 0 ∧ ((s.tuneFailed j l).site i).state = .ready := by
  obtain ⟨hp, hst⟩ := releaseSite_ready (s := s.returnBuffer j) (l := l) (by rw [returnBuffer_lane]; exact hi)
    (by rw [returnBuffer_site]; exact hm)
  refine ⟨(releaseFailed_carried _ l).pending (tuneOutcome_pending hp), ?_⟩
  rw [site_of_sites (tuneFailed_freed s j l).sites, tuneOutcome_site]
  exact hst

theorem tuneFailed_ended (hj : j ∈ s.jobs) (h : ¬(j.gang = none ∧ j.attempts < 2)) :
    (s.tuneFailed j l).ended j.id .laneTune .aborted := by
  have hend := recordEnd_ended (mem_returned (l := l) hj) .laneTune
  refine ended_of_jobs hend ?_ ?_
  · rw [State.tuneFailed, tuneOutcome_ends h]
    exact releaseFailed_carried _ l
  · rw [State.tuneFailed, tuneOutcome_ends h, (releaseFailed_freed _ l).jobs]
    rfl

theorem tuneFailed_requeued (hj : j ∈ s.jobs) (h : j.gang = none ∧ j.attempts < 2) :
    { j with state := .queued, attempts := j.attempts + 1, lane := none, buffer := none } ∈ (s.tuneFailed j l).jobs := by
  rw [(tuneFailed_freed s j l).jobs, tuneOutcome_again h]
  exact List.mem_map.2 ⟨_, mem_returned hj, if_pos rfl⟩

/-- A lane that calibrates or is out of service after a tune failure stands at the close of the event. -/
theorem tuneFailed_close_lane (hd : s.distinct) (hc : s.unclaimed l)
    (h : (s.lane l).calPending = true ∨ 3 ≤ (s.lane l).tuneFailures) (s₀ : State) :
    ((s.tuneFailed j l).close s₀).lane l = (s.tuneFailed j l).lane l := by
  refine close_lane s₀ (tuneFailed_distinct hd) (unclaimed_tuneFailed hc j) ?_
  by_cases hp : (s.lane l).calPending = true
  · rw [((tuneFailed_freed s j l).pending (by rw [tuneFailed_before]; exact hp)).1]
    rfl
  · rw [State.tuneFailed, releaseFailed_out (by rw [tuneFailed_before]; exact Bool.eq_false_iff.2 hp)
      (by rw [tuneFailed_before]; exact h.resolve_left hp)]
    rfl

theorem tuneFailed_reconsider (s : State) (j : Job) (l : LaneId) : (s.tuneFailed j l).reconsider = true :=
  releaseFailed_reconsider (tuneOutcome_reconsider _ _)

/-- Settles O40: the effect is that of `State.tuneFailed` with the failure counted, and the close of the event leaves it where
the start condition fails. -/
theorem lockTimerExpires : Obligations.LockTimerExpires := by
  intro l s hs hd hc
  refine ⟨fun ht => exec_of_self hs (lockTimerExpiry_stray ht), ?_⟩
  intro j h ht n noHead again s'
  have heff := lockTimerExpiry_of hd h ht
  obtain ⟨hjob, hj, hst⟩ := h
  let b : State := s.setLane l { s.lane l with tuneFailures := n }
  have hbl : b.lane l = { s.lane l with tuneFailures := n } := State.setLane_lane_self _ _ _
  have hbd : b.distinct := hd
  have hbc : b.unclaimed l := hc
  have hbj : j ∈ b.jobs := hj
  have hfail : (b.lane l).tuneFailures = n := by rw [hbl]
  have hcal : (b.lane l).calPending = (s.lane l).calPending := by rw [hbl]
  have hfreed := tuneFailed_freed b j l
  have hbefore := tuneFailed_before b j l
  have hcu : Carried s' (b.tuneFailed j l) := tuneFailed_carries hbd hbj
  have hparts (hn : noHead) := close_parts_without_start (l := l) (s := b.tuneFailed j l)
    ((congrArg Timebase.startCondition (congrArg Setting.timebase hcu.setting)).trans (startCondition_eq_false hn.1 hn.2))
    (tuneFailed_reconsider b j l) s
  have hclosed (h : (s.lane l).calPending = true ∨ 3 ≤ n) := tuneFailed_close_lane (j := j) hbd hbc
    (by rw [hcal, hfail]; exact h) s
  have hopened (hn : noHead) : (((b.tuneFailed j l).close s).lane l).connected = none ∧
      (((b.tuneFailed j l).close s).lane l).job = none := by
    rw [(hparts hn).2.2.2 (unclaimed_tuneFailed hbc j)]
    split
    · exact ⟨tuneFailed_connected, hfreed.job⟩
    · exact ⟨tuneFailed_connected, hfreed.job⟩
  refine ⟨_, exec_eq_close _ _, ?_⟩
  rw [show effectOf (.lockTimerExpiry l) s = b.tuneFailed j l from heff]
  refine ⟨hcu.close (List.Subset.refl s.results), fun i hi hm => ?_, fun ha hn => ?_, fun ha => ?_, ?_, fun hn => ?_, fun hp => ?_,
    fun hp hn => ?_, fun hp hn hh => ?_, fun hn => ?_⟩
  · obtain ⟨hpend, hready⟩ := tuneFailed_ready (s := b) (j := j) (l := l) (i := i) (by rw [hbl]; exact hi) hm
    refine ⟨(finish_carried _).pending hpend, fun hn => ?_⟩
    rw [site_of_sites (hparts hn).2.1, hready]
  · rw [(hparts hn).1]
    exact startGangs_queued (tuneFailed_distinct hbd) (tuneFailed_requeued hbj (of_decide_eq_true ha)) rfl
      (of_decide_eq_true ha).1
  · exact (tuneFailed_ended hbj (of_decide_eq_false ha)).close (tuneFailed_distinct hbd) s
  · rintro (hn | hn)
    · exact (hopened hn).1
    · rw [hclosed hn]
      exact tuneFailed_connected
  · exact (finish_carried _).pending (releaseFailed_alert (by rw [hbefore]; exact hn.trans hfail.ge))
  · obtain ⟨hstate, hstatus⟩ := hfreed.pending (by rw [hbefore]; exact hcal.trans hp)
    rw [hclosed (.inl hp), State.calRecord, close_cal s (tuneFailed_distinct hbd)]
    refine ⟨hstate, hfreed.calPending, hfreed.job, hstatus, ?_⟩
    have hout := releaseFailed_outOfService (l := l) (s := ((b.returnBuffer j).releaseSite l).tuneOutcome j)
      (by rw [hbefore]; exact hcal.trans hp)
    rw [hbefore] at hout
    rw [← hfail]
    exact hout
  · rw [hclosed (.inr hn)]
    exact ⟨releaseFailed_out (by rw [hbefore]; exact hcal.trans hp) (by rw [hbefore]; exact hn.trans hfail.ge), hfreed.job⟩
  · refine ⟨?_, (hopened hh).2⟩
    have hidle : ((b.tuneFailed j l).lane l).state = .idle := by
      rw [State.tuneFailed, releaseFailed_before (by rw [hbefore]; exact hfail.trans_lt hn)]
      exact releaseLane_idle (by rw [hbefore]; exact hcal.trans hp)
    rw [(hparts hh).2.2.2 (unclaimed_tuneFailed hbc j), if_neg (by rw [hidle]; nofun), hidle]
  · rw [(hparts hn).2.2.1, hfreed.free]
    simp
    rfl

end

end Sys2Proof.Machine

/-! PROOFS. Lock events (R71, R73): the start of a single job, the wait of a gang member, and the common start of a gang. -/

namespace Sys2Proof.Machine

section
variable {s t u v : State} {l m : LaneId} {j k : Job}

/-! ### The start of one acquisition -/

/-- Acquisition start, as the obligations state what it leaves (R84, R85). -/
theorem startAcquisition_eq (hd : s.distinct) (hj : j ∈ s.jobs) (l : LaneId) : s.startAcquisition j l =
    { s.setLane l (s.startedLane j l) with
      jobs := s.jobs.map fun (k : Job) => if k.id = j.id then s.startedJob j l else k } := by
  have hup := updateJob_of_mem hd hj fun k => { k with
    state := .acquiring
    latched := some (s.latchFor l (s.site j.site).applied.supply.carrier)
    started := some s.now
    counts := some (Vector.replicate 6 ⟨0, 0⟩)
    flags := k.flags.withTags (s.latchFor l (s.site j.site).applied.supply.carrier) }
  have hlane : s.startedLane j l = { s.lane l with
      state := .acquiring
      tune := none
      acquisition := some (Acquisition.fresh (s.planOf j) (s.latchFor l (s.site j.site).applied.supply.carrier)
        (s.site j.site).applied.supply.carrier) } := by
    rw [latchFor_eq]
    unfold State.startedLane Acquisition.fresh
    have hsnap (n : Nat) : (if n = 0 then none else some n) = if 0 < n then some n else none := by
      by_cases h : n = 0
      · rw [if_pos h, if_neg (by omega)]
      · rw [if_neg h, if_pos (by omega)]
    simp only [hsnap]
    rfl
  rw [State.startAcquisition, hup, hlane, latchFor_eq]
  rfl

/-! ### The start of several acquisitions -/

/-- The starts of jobs on their lanes (R73). -/
def State.startAll (s : State) (js : List Job) : State := js.foldl (fun s j => match j.lane with
  | some l => s.startAcquisition j l
  | none => s) s

theorem startAll_cons (h : j.lane = some l) (js : List Job) : s.startAll (j :: js) = (s.startAcquisition j l).startAll js := by
  simp only [State.startAll, List.foldl_cons, h]

/-- What the starts of jobs on different lanes leave of a state. -/
structure StartsAll (js : List Job) (s t : State) : Prop where
  rest : t = { s with jobs := t.jobs, lanes := t.lanes }
  ids : t.jobs.map Job.id = s.jobs.map Job.id
  started : ∀ j ∈ js, ∀ l, j.lane = some l → s.startedJob j l ∈ t.jobs ∧ t.lane l = s.startedLane j l
  others : ∀ k ∈ s.jobs, k ∉ js → k ∈ t.jobs
  lanes : ∀ l, (∀ j ∈ js, j.lane ≠ some l) → t.lane l = s.lane l

theorem startsAll_nil (s : State) : StartsAll [] s s where
  rest := rfl
  ids := rfl
  started _ h := absurd h List.not_mem_nil
  others _ hk _ := hk
  lanes _ _ := rfl

theorem startAll_starts (js : List Job) (hd : s.distinct) (hj : ∀ j ∈ js, j ∈ s.jobs ∧ j.lane ≠ none)
    (hp : js.Pairwise fun j k => j.id ≠ k.id ∧ j.lane ≠ k.lane) : StartsAll js s (s.startAll js) := by
  induction js generalizing s with
  | nil => exact startsAll_nil s
  | cons x xs ih =>
    obtain ⟨hxs, hp⟩ := List.pairwise_cons.1 hp
    obtain ⟨hx, hlane⟩ := hj x (List.mem_cons_self ..)
    obtain ⟨l, hl⟩ := Option.ne_none_iff_exists'.1 hlane
    rw [startAll_cons hl]
    have heq := startAcquisition_eq hd hx l
    generalize hv : s.startAcquisition x l = v at heq ⊢
    have hstay : ∀ k ∈ s.jobs, k.id ≠ x.id → k ∈ v.jobs := fun k hk hid => by
      rw [heq]
      exact List.mem_map.2 ⟨k, hk, if_neg hid⟩
    have hself : s.startedJob x l ∈ v.jobs := by
      rw [heq]
      exact List.mem_map.2 ⟨x, hx, if_pos rfl⟩
    have hids : v.jobs.map Job.id = s.jobs.map Job.id := by rw [← hv]; exact (startAcquisition_carried s x l).jobs.ids
    have hjob (k : Job) (m : LaneId) : v.startedJob k m = s.startedJob k m := by rw [heq]; rfl
    have hlanes (m : LaneId) : v.lane m = if l = m then s.startedLane x l else s.lane m := by
      rw [heq]
      exact State.setLane_lane s l m _
    have hlane' (k : Job) (m : LaneId) (hm : m ≠ l) : v.startedLane k m = s.startedLane k m := by
      have : v.lane m = s.lane m := by rw [hlanes, if_neg (Ne.symm hm)]
      unfold State.startedLane
      rw [this, heq]
      rfl
    have hrest := ih (s := v) (by unfold State.distinct; rw [hids]; exact hd)
      (fun k hk => ⟨hstay k (hj k (List.mem_cons_of_mem _ hk)).1 (Ne.symm (hxs k hk).1), (hj k (List.mem_cons_of_mem _ hk)).2⟩) hp
    have hfirst : v.lane l = s.startedLane x l := by rw [hlanes, if_pos rfl]
    refine ⟨?_, hrest.ids.trans hids, fun k hk m hm => ?_, fun k hk hn => ?_, fun m hm => ?_⟩
    · rw [hrest.rest]
      rw [heq]
      rfl
    · rcases List.mem_cons.1 hk with rfl | hk
      · obtain rfl : l = m := Option.some.inj (hl.symm.trans hm)
        refine ⟨hrest.others _ hself fun hmem => (hxs _ hmem).1 rfl, ?_⟩
        rw [hrest.lanes l fun y hy hly => (hxs y hy).2 (hl.trans hly.symm), hfirst]
      · have hml : m ≠ l := fun h => (hxs k hk).2 (by rw [hl, hm, h])
        obtain ⟨h1, h2⟩ := hrest.started k hk m hm
        exact ⟨hjob k m ▸ h1, h2.trans (hlane' k m hml)⟩
    · rw [List.mem_cons, not_or] at hn
      exact hrest.others k (hstay k hk fun hid => hn.1 (hd.unique hk hx hid)) hn.2
    · have hml : l ≠ m := fun h => hm x (List.mem_cons_self ..) (h ▸ hl)
      rw [hrest.lanes m fun y hy => hm y (List.mem_cons_of_mem _ hy), hlanes, if_neg hml]

/-! ### The effect of a lock -/

theorem lockEvent_stray (h : (s.lane l).tune ≠ some .locking) : s.lockEvent l = s := by
  unfold State.lockEvent
  split
  · next ht _ => exact absurd ht h
  · rfl

theorem lockEvent_of (hd : s.distinct) (h : s.serves l j .tuning) (ht : (s.lane l).tune = some .locking) : s.lockEvent l =
    if j.gang = none then (s.setLane l { s.lane l with tuneFailures := 0 }).startAcquisition j l
    else (s.setLane l { s.lane l with tuneFailures := 0 }).enterGangWait j l := by
  simp only [State.lockEvent, ht, jobOn_of_serves hd h]
  cases j.gang with
  | none => rw [if_pos rfl]
  | some g => rw [if_neg nofun]

/-- The state with a gang member in GANG_WAIT, its failure count back at 0 (R71, R73). -/
def State.gangWaited (s : State) (j : Job) (l : LaneId) : State :=
  { s.setLane l { s.lane l with state := .gangWait, tune := none, tuneFailures := 0 } with
    jobs := s.jobs.map fun (k : Job) => if k.id = j.id then { j with state := .gangWait } else k }

theorem enterGangWait_eq (hd : s.distinct) (hj : j ∈ s.jobs) :
    (s.setLane l { s.lane l with tuneFailures := 0 }).enterGangWait j l = s.gangWaited j l := by
  have hup := updateJob_of_mem (s := s.setLane l { s.lane l with tuneFailures := 0 }) hd hj fun k => { k with state := .gangWait }
  rw [State.enterGangWait, hup]
  show (State.setLane { s with jobs := _, lanes := _ } l _) = _
  simp only [State.gangWaited, State.setLane, State.lane]
  simp

/-- A record of another id is untouched where one record is replaced. -/
theorem mem_replaced {x : Job} (hk : k ∈ s.jobs) (hid : k.id ≠ j.id) :
    k ∈ s.jobs.map fun (k : Job) => if k.id = j.id then x else k := List.mem_map.2 ⟨k, hk, if_neg hid⟩

theorem of_mem_replaced {x : Job} (h : k ∈ s.jobs.map fun (k : Job) => if k.id = j.id then x else k) :
    k = x ∨ (k ∈ s.jobs ∧ k.id ≠ j.id) := by
  obtain ⟨y, hy, rfl⟩ := List.mem_map.1 h
  by_cases hid : y.id = j.id
  · exact .inl (if_pos hid)
  · rw [if_neg hid]
    exact .inr ⟨hy, hid⟩

/-- No gang starts where one record leaves TUNING and every gang that waits for it has another member in TUNING. -/
theorem replaced_startingMembers {x : Job} (hs : s.startingMembers = [])
    (hu : u.jobs = s.jobs.map fun (k : Job) => if k.id = j.id then x else k)
    (hx : x.state = .gangWait → ∃ g, x.gang = some g ∧ ∃ k ∈ s.jobs, k.id ∈ g ∧ k.id ≠ j.id ∧ k.state = .tuning)
    (hg : ∀ k ∈ s.jobs, ∀ g, k.state = .gangWait → k.gang = some g → j.id ∈ g →
      ∃ k ∈ s.jobs, k.id ∈ g ∧ k.id ≠ j.id ∧ k.state = .tuning) : u.startingMembers = [] := by
  rw [startingMembers_eq_nil_iff] at hs ⊢
  rw [hu]
  intro k hk hst
  suffices ∃ g, k.gang = some g ∧ ∃ w ∈ s.jobs, w.id ∈ g ∧ w.id ≠ j.id ∧ w.state = .tuning by
    obtain ⟨g, hkg, w, hw, hwg, hid, hwt⟩ := this
    exact ⟨g, hkg, w, mem_replaced hw hid, hwg, hwt⟩
  rcases of_mem_replaced hk with rfl | ⟨hk, -⟩
  · exact hx hst
  · obtain ⟨g, hkg, w, hw, hwg, hwt⟩ := hs k hk hst
    refine ⟨g, hkg, ?_⟩
    by_cases hid : w.id = j.id
    · exact hg k hk g hst hkg (hid ▸ hwg)
    · exact ⟨w, hw, hwg, hid, hwt⟩

/-! ### The last lock of a gang -/

/-- The close of an event that calls for no reconsideration is the start of the gangs. -/
theorem close_of_quiet (hr : s.reconsider = false) (hp : s.port.settled) (s₀ : State) (hres : s.results ⊆ s₀.results) :
    s.close s₀ = s.startGangs := by
  have hrec : s.startGangs.reconsider = false := (startGangs_keeps State.reconsider (fun _ _ _ => rfl) s).trans hr
  have hport : s.startGangs.port = s.port := startGangs_keeps State.port (fun _ _ _ => rfl) s
  have hresults : s.startGangs.results = s.results := startGangs_keeps State.results (fun _ _ _ => rfl) s
  have hfin : s.finish = s.startGangs := by
    rw [State.finish, State.arbitrate, if_neg (by rw [hrec]; nofun)]
    unfold State.settlePort
    rw [hport]
    split
    · next rate hl ht =>
      obtain ⟨hi, hn⟩ := hp (by rw [Port.isLocked, hl]) ht
      unfold State.beginFrame
      rw [hport, hi, hn]
      rfl
    · rfl
  rw [close_of_subset (by rw [hfin, hresults]; exact hres), hfin]

theorem mem_startingMembers : k ∈ s.startingMembers ↔ k ∈ s.jobs ∧ k.state = .gangWait ∧
    ∀ g, k.gang = some g → ∀ w ∈ s.jobs, w.id ∈ g → w.state ≠ .tuning := by
  rw [State.startingMembers, List.mem_filter, Bool.and_eq_true, beq_iff_eq]
  refine and_congr_right fun _ => and_congr_right fun _ => ?_
  unfold State.gangOf
  cases k.gang with
  | none => exact iff_of_true rfl nofun
  | some g =>
    simp only [List.all_eq_true, List.mem_filter, List.contains_iff_mem, bne_iff_ne, Option.some.injEq, forall_eq']
    exact forall_congr' fun w => and_imp

/-- The members that start when the last of a gang has locked (R73). -/
theorem mem_gangWaited_starting {g : List Nat} (hj : j ∈ s.jobs) (hs : s.startingMembers = []) (hg : j.gang = some g)
    (huniq : ∀ k ∈ s.jobs, ∀ g', k.gang = some g' → j.id ∈ g' → g' = g)
    (hlast : ∀ k ∈ s.jobs, k.id ∈ g → k.id ≠ j.id → k.state ≠ .tuning) :
    k ∈ (s.gangWaited j l).startingMembers ↔
      k = { j with state := .gangWait } ∨ (k ∈ s.jobs ∧ k.id ≠ j.id ∧ k.state = .gangWait ∧ k.gang = some g) := by
  have hmemj : { j with state := .gangWait } ∈ (s.gangWaited j l).jobs := List.mem_map.2 ⟨j, hj, if_pos rfl⟩
  have hnone : ∀ w ∈ (s.gangWaited j l).jobs, w.id ∈ g → w.state ≠ .tuning := fun w hw hwg => by
    rcases of_mem_replaced hw with rfl | ⟨hw, hid⟩
    · nofun
    · exact hlast w hw hwg hid
  rw [mem_startingMembers]
  constructor
  · rintro ⟨hk, hst, hall⟩
    rcases of_mem_replaced hk with rfl | ⟨hk, hid⟩
    · exact .inl rfl
    refine .inr ⟨hk, hid, hst, ?_⟩
    obtain ⟨g', hkg, w, hw, hwg, hwt⟩ := startingMembers_eq_nil_iff.1 hs k hk hst
    by_cases hwj : w.id = j.id
    · rw [hkg, huniq k hk g' hkg (hwj ▸ hwg)]
    · exact absurd hwt (hall g' hkg w (mem_replaced hw hwj) hwg)
  · rintro (rfl | ⟨hk, hid, hst, hkg⟩)
    · exact ⟨hmemj, rfl, fun g' hg' => Option.some.inj (hg.symm.trans hg') ▸ hnone⟩
    · exact ⟨mem_replaced hk hid, hst, fun g' hg' => Option.some.inj (hkg.symm.trans hg') ▸ hnone⟩

theorem gangWaited_ids (s : State) (j : Job) (l : LaneId) : (s.gangWaited j l).jobs.map Job.id = s.jobs.map Job.id := by
  rw [State.gangWaited, List.map_map]
  refine List.map_congr_left fun k _ => ?_
  by_cases h : k.id = j.id <;> simp [h]

theorem gangWaited_distinct (hd : s.distinct) : (s.gangWaited j l).distinct := by
  unfold State.distinct
  rw [gangWaited_ids]
  exact hd

/-- A start overwrites what the wait put into the lane record. -/
theorem gangWaited_startedLane (k : Job) (m : LaneId) : (s.gangWaited j l).startedLane k m =
    (s.setLane l { s.lane l with tuneFailures := 0 }).startedLane k m := by
  have hlane : (s.gangWaited j l).lane m =
      if l = m then { s.lane l with state := .gangWait, tune := none, tuneFailures := 0 } else s.lane m :=
    State.setLane_lane s l m _
  unfold State.startedLane
  rw [hlane, State.setLane_lane]
  split <;> rfl

/-- Settles O39: the single job starts at once; a gang member waits, and the last one starts its gang at the close. -/
theorem lockStartsAcquisition : Obligations.LockStartsAcquisition := by
  intro l s hs hd
  refine ⟨fun ht => exec_of_self hs (lockEvent_stray ht), ?_⟩
  intro j h ht hjl s'
  have heff := lockEvent_of hd h ht
  obtain ⟨hjob, hj, hjs⟩ := h
  refine ⟨fun hg hout => ?_, fun g hg hmem huniq => ⟨fun hother => ?_, ?_⟩⟩
  · rw [if_pos hg, startAcquisition_eq (s := s') hd hj l] at heff
    refine exec_of_settled (c := .lockEvent l) heff ⟨hs.1, ?_, hs.2.2⟩ (List.Subset.refl _)
    exact replaced_startingMembers (j := j) hs.2.1 rfl nofun fun k hk g _ hkg hjg => absurd hjg (hout k hk g hkg)
  · rw [if_neg (by rw [hg]; nofun), enterGangWait_eq hd hj] at heff
    refine exec_of_settled (c := .lockEvent l) heff ⟨hs.1, ?_, hs.2.2⟩ (List.Subset.refl _)
    refine replaced_startingMembers (j := j) hs.2.1 rfl (fun _ => ⟨g, hg, hother⟩) fun k hk g' _ hkg hjg => ?_
    rw [huniq k hk g' hkg hjg]
    exact hother
  intro hlast starts hlanes hapart
  rw [if_neg (by rw [hg]; nofun), enterGangWait_eq hd hj] at heff
  have hstarts := fun k => mem_gangWaited_starting (k := k) (l := l) hj hs.2.1 hg huniq hlast
  have hud := gangWaited_distinct (j := j) (l := l) hd
  let u : State := s.gangWaited j l
  have horigin : ∀ x ∈ u.startingMembers, ∃ y ∈ s.jobs, starts y ∧ y.lane = x.lane ∧ y.id = x.id := fun x hx => by
    rcases (hstarts x).1 hx with rfl | ⟨hx, -, hst, hxg⟩
    · exact ⟨j, hj, .inl rfl, rfl, rfl⟩
    · exact ⟨x, hx, .inr ⟨hst, hxg⟩, rfl, rfl⟩
  have hmembers : ∀ x ∈ u.startingMembers, x ∈ u.jobs ∧ x.lane ≠ none := fun x hx => by
    obtain ⟨y, hy, hst, hlane, -⟩ := horigin x hx
    exact ⟨(mem_startingMembers.1 hx).1, hlane ▸ hlanes y hy hst⟩
  have hpair : u.startingMembers.Pairwise fun x y => x.id ≠ y.id ∧ x.lane ≠ y.lane := by
    have hnodup : u.startingMembers.Nodup := (List.Nodup.of_map Job.id hud).filter _
    refine hnodup.pairwise_of_forall_ne fun x hx y hy hxy => ?_
    have hid : x.id ≠ y.id := fun h => hxy (hud.unique (hmembers x hx).1 (hmembers y hy).1 h)
    refine ⟨hid, fun h => ?_⟩
    obtain ⟨x', hx', hsx, hlx, hidx⟩ := horigin x hx
    obtain ⟨y', hy', hsy, hly, hidy⟩ := horigin y hy
    have : x' = y' := hapart x' hx' y' hy' hsx hsy (hlx.trans (h.trans hly.symm))
    exact hid (hidx.symm.trans ((congrArg Job.id this).trans hidy))
  have hall := startAll_starts u.startingMembers hud hmembers hpair
  have hjob : ∀ k ∈ s.jobs, starts k → ∀ m : LaneId, k.lane = some m → ∃ x ∈ u.startingMembers, x.lane = some m ∧
      u.startedJob x m = s'.startedJob k m ∧ u.startedLane x m = s'.startedLane k m := by
    intro k hk hst m hm
    by_cases hkj : k = j
    · subst hkj
      exact ⟨_, (hstarts _).2 (.inl rfl), hm, rfl, gangWaited_startedLane k m⟩
    · obtain ⟨hks, hkg⟩ := hst.resolve_left hkj
      exact ⟨k, (hstarts k).2 (.inr ⟨hk, fun h => hkj (hd.unique hk hj h), hks, hkg⟩), hm, rfl, gangWaited_startedLane k m⟩
  refine ⟨u.startAll u.startingMembers, ?_, ?_, hall.ids.trans (gangWaited_ids s j l), fun k hk hst m hm => ?_,
    fun k hk hn => ?_, fun m hm => ?_⟩
  · rw [exec_eq_close, show effectOf (.lockEvent l) s = u from heff]
    exact congrArg Host.Outcome.next (close_of_quiet (s := u) hs.1 hs.2.2 s (List.Subset.refl _))
  · rw [hall.rest]
    rfl
  · obtain ⟨x, hx, hxm, h1, h2⟩ := hjob k hk hst m hm
    rw [← h1, ← h2]
    exact hall.started x hx m hxm
  · have hkj : k.id ≠ j.id := fun h => hn (.inl (hd.unique hk hj h))
    refine hall.others k (mem_replaced hk hkj) fun hx => ?_
    rcases (hstarts k).1 hx with rfl | ⟨-, -, hst, hkg⟩
    · exact hkj rfl
    · exact hn (.inr ⟨hst, hkg⟩)
  · have hml : l ≠ m := fun h => hm j hj (.inl rfl) (h ▸ hjl)
    refine (hall.lanes m fun x hx hxm => ?_).trans (setLane_lane_ne _ _ hml)
    obtain ⟨y, hy, hst, hlane, -⟩ := horigin x hx
    exact hm y hy hst (hlane.trans hxm)

end

end Sys2Proof.Machine

/-! PROOFS. The head (R64, R65, R61): candidates in their order, and the first of them with every site READY. -/

namespace Sys2Proof.Machine

section
variable {s : State} {c c' : List Job} {j k : Job}

/-! ### Candidates -/

theorem mem_candidates : c ∈ s.candidates ↔ s.isCandidate c := by
  simp only [State.candidates, List.mem_append, List.mem_filter, List.mem_map, mem_oldestFirst, State.isCandidate,
    Bool.not_eq_true']
  constructor
  · rintro (⟨⟨j, ⟨hj, hl⟩, rfl⟩, -⟩ | ⟨⟨j, ⟨hj, hl⟩, rfl⟩, -⟩) <;> exact ⟨j, hj, hl, rfl⟩
  · rintro ⟨j, hj, hl, rfl⟩
    cases hu : candidateUrgent (s.candidateOf j)
    · exact .inr ⟨⟨j, ⟨hj, hl⟩, rfl⟩, rfl⟩
    · exact .inl ⟨⟨j, ⟨hj, hl⟩, rfl⟩, rfl⟩

theorem leads_iff : s.leads j = true ↔ j.state = .queued ∧ ∀ k ∈ s.candidateOf j, k.state = .queued ∧ s.age k ≤ s.age j := by
  simp [State.leads]

/-- The job that stands for a candidate is a member of it (R61). -/
theorem mem_own_candidate (hj : j ∈ s.jobs) (hg : ∀ g ∈ j.gang, j.id ∈ g) : j ∈ s.candidateOf j := by
  unfold State.candidateOf State.gangOf
  cases h : j.gang with
  | none => exact List.mem_singleton_self j
  | some g => exact List.mem_filter.2 ⟨hj, by simpa using hg g h⟩

theorem candidateUrgent_iff : candidateUrgent c = true ↔ ∃ j ∈ c, j.priority = .urgent := by simp [candidateUrgent]

theorem sitesReady_iff : s.sitesReady c = true ↔ ∀ j ∈ c, (s.site j.site).state = .ready := by simp [State.sitesReady]

theorem startCondition_iff {b : Timebase} : b.startCondition = true ↔ b.mode = .internal ∨ b.discipline = .locked := by
  unfold Timebase.startCondition
  cases b.mode <;> simp

/-! ### The order of the candidates -/

/-- Whether a job is at least as old as another, as an order to sort by. -/
def State.older (s : State) (j k : Job) : Prop := s.age k ≤ s.age j

theorem oldestFirst_sorted (s : State) (js : List Job) : (s.oldestFirst js).Pairwise s.older := by
  have hdec : DecidableRel s.older := fun j k => inferInstanceAs (Decidable (s.age k ≤ s.age j))
  have htotal : Std.Total s.older := ⟨fun j k => Nat.le_total (s.age k) (s.age j)⟩
  have htrans : IsTrans Job s.older := ⟨fun _ _ _ h g => Nat.le_trans g h⟩
  have hins (j : Job) (ks : List Job) : s.insertByAge j ks = ks.orderedInsert s.older j := by
    induction ks with
    | nil => rfl
    | cons k ks ih =>
      rw [State.insertByAge, List.orderedInsert_cons, ih]
      exact if_congr .rfl rfl rfl
  have hsort : s.oldestFirst js = js.insertionSort s.older := by
    unfold State.oldestFirst List.insertionSort
    rw [funext fun j => funext (hins j)]
  rw [hsort]
  exact List.pairwise_insertionSort s.older js

/-- A candidate has, for every member of another, a member at least as old. -/
def State.before (s : State) (c c' : List Job) : Prop := ∀ k' ∈ c', ∃ k ∈ c, s.age k' ≤ s.age k

/-- The order of R64: URGENT first, and oldest first within a class. -/
def State.precedes (s : State) (c c' : List Job) : Prop :=
  (candidateUrgent c' = true → candidateUrgent c = true) ∧ (candidateUrgent c' = candidateUrgent c → s.before c c')

theorem candidates_sorted (hs : s.jobsSound) : s.candidates.Pairwise s.precedes := by
  have hlead : ∀ j ∈ s.oldestFirst (s.jobs.filter s.leads), j ∈ s.candidateOf j ∧ ∀ k ∈ s.candidateOf j, s.age k ≤ s.age j := by
    intro j hj
    obtain ⟨hj, hl⟩ := List.mem_filter.1 (mem_oldestFirst.1 hj)
    obtain ⟨-, -, -, -, -, hgang⟩ := jobsSound_fits hs hj
    exact ⟨mem_own_candidate hj hgang, fun k hk => ((leads_iff.1 hl).2 k hk).2⟩
  have hcs : ((s.oldestFirst (s.jobs.filter s.leads)).map s.candidateOf).Pairwise s.before := by
    rw [List.pairwise_map]
    refine (oldestFirst_sorted s _).imp_of_mem fun {j k} hj hk hjk k' hk' => ?_
    exact ⟨j, (hlead j hj).1, ((hlead k hk).2 k' hk').trans hjk⟩
  unfold State.candidates
  refine List.pairwise_append.2 ⟨?_, ?_, fun c hc c' hc' => ?_⟩
  · refine (hcs.filter _).imp_of_mem fun {c c'} hc hc' h => ⟨fun _ => (List.mem_filter.1 hc).2, fun _ => h⟩
  · refine (hcs.filter _).imp_of_mem fun {c c'} hc hc' h => ⟨fun hu => ?_, fun _ => h⟩
    have := (List.mem_filter.1 hc').2
    rw [hu] at this
    cases this
  · have hu := (List.mem_filter.1 hc).2
    refine ⟨fun _ => hu, fun h => ?_⟩
    have hn := (List.mem_filter.1 hc').2
    rw [h, hu] at hn
    cases hn

theorem precedes_refl (c : List Job) : s.precedes c c := ⟨id, fun _ k hk => ⟨k, hk, le_refl _⟩⟩

/-- The first element of a list with a property stands before every other one that has it. -/
theorem rel_of_find? {α : Type} {R : α → α → Prop} {p : α → Bool} {xs : List α} {a b : α} (hr : R a a) (h : xs.Pairwise R)
    (ha : xs.find? p = some a) (hb : b ∈ xs) (hp : p b = true) : R a b := by
  obtain ⟨-, as, bs, rfl, hno⟩ := List.find?_eq_some_iff_append.1 ha
  rcases List.mem_append.1 hb with hb | hb
  · exact absurd hp (by simpa using hno b hb)
  · rcases List.mem_cons.1 hb with rfl | hb
    · exact hr
    · exact (List.pairwise_cons.1 (List.pairwise_append.1 h).2.1).1 b hb

/-- Settles O36: the candidates stand in the order of R64, and the head is the first with every site READY. -/
theorem headIsFirstReadyCandidate : Obligations.HeadIsFirstReadyCandidate := by
  intro s hs ready urgent starts
  have hready (c : List Job) : s.sitesReady c = true ↔ ready c := sitesReady_iff
  refine ⟨fun c => ?_, ?_, fun c hc => ?_⟩
  · rw [mem_candidates]
    have hof (j : Job) : (match j.gang with
        | none => c = [j]
        | some g => c = s.jobs.filter fun (k : Job) => g.contains k.id) ↔ c = s.candidateOf j := by
      unfold State.candidateOf State.gangOf
      cases j.gang <;> exact .rfl
    constructor
    · rintro ⟨j, hj, hl, hc⟩
      obtain ⟨hst, hall⟩ := leads_iff.1 hl
      rw [← hc] at hall
      exact ⟨fun k hk => (hall k hk).1, j, hj, hst, fun k hk => (hall k hk).2, (hof j).2 hc⟩
    · rintro ⟨hq, j, hj, hst, hage, hc⟩
      have hc := (hof j).1 hc
      exact ⟨j, hj, leads_iff.2 ⟨hst, hc ▸ fun k hk => ⟨hq k hk, hage k hk⟩⟩, hc⟩
  · rw [State.findHead]
    split
    · next h =>
      rw [List.find?_eq_none]
      have hst : starts := startCondition_iff.1 h
      simp only [hst, not_true, false_or, hready]
    · next h => exact iff_of_true rfl (.inl fun hst => h (startCondition_iff.2 hst))
  · rw [State.findHead] at hc
    split at hc
    · next h =>
      refine ⟨startCondition_iff.1 h, List.mem_of_find?_eq_some hc, (hready c).1 (List.find?_some hc), fun c' hc' hr => ?_⟩
      obtain ⟨hu, ho⟩ := rel_of_find? (precedes_refl c) (candidates_sorted hs) hc hc' ((hready c').2 hr)
      rw [Bool.eq_iff_iff] at ho
      simp only [candidateUrgent_iff] at hu ho
      exact ⟨hu, ho⟩
    · cases hc

end

end Sys2Proof.Machine

/-! PROOFS. The assignment of a head (R69): which member takes which lane, and what of it the arbiter's next turns leave. -/

namespace Sys2Proof.Machine

section
variable {s t u : State} {c : List Job} {j k : Job} {l m : LaneId} {i : SiteId}

/-! ### Places in a sorted list -/

/-- An element of a list sorted by a key stands at the number of elements with a smaller key. -/
theorem getElem?_countP {α β : Type} [LinearOrder β] (f : α → β) : ∀ {xs : List α} {a : α},
    xs.Pairwise (fun x y => f x < f y) → a ∈ xs → xs[xs.countP fun x => decide (f x < f a)]? = some a
  | x :: xs, a, hp, ha => by
    obtain ⟨hx, hp⟩ := List.pairwise_cons.1 hp
    rcases List.mem_cons.1 ha with rfl | ha
    · have hzero : (a :: xs).countP (fun x => decide (f x < f a)) = 0 := by
        refine List.countP_eq_zero.2 fun y hy => ?_
        rcases List.mem_cons.1 hy with rfl | hy
        · simp
        · simpa using (hx y hy).le
      rw [hzero]
      rfl
    · rw [List.countP_cons_of_pos (by simpa using hx a ha), List.getElem?_cons_succ]
      exact getElem?_countP f hp ha

/-- Pairs at one place of two lists. -/
theorem mem_zip_of_getElem? {α β : Type} {xs : List α} {ys : List β} {a : α} {b : β} {n : Nat} (ha : xs[n]? = some a)
    (hb : ys[n]? = some b) : (a, b) ∈ xs.zip ys :=
  List.mem_of_getElem? (List.getElem?_zip_eq_some.2 ⟨ha, hb⟩)

/-! ### The order of a head's members and of the open lanes -/

/-- Whether a job's site is at or below another's, as an order to sort by. -/
def Job.siteLe (j k : Job) : Prop := j.site ≤ k.site

theorem bySite_sorted (hn : (c.map Job.site).Nodup) : (bySite c).Pairwise fun j k => j.site < k.site := by
  have hdec : DecidableRel Job.siteLe := fun j k => inferInstanceAs (Decidable (j.site ≤ k.site))
  have htotal : Std.Total Job.siteLe := ⟨fun j k => le_total j.site k.site⟩
  have htrans : IsTrans Job Job.siteLe := ⟨fun _ _ _ h g => le_trans (α := SiteId) h g⟩
  have hins (j : Job) (ks : List Job) : insertBySite j ks = ks.orderedInsert Job.siteLe j := by
    induction ks with
    | nil => rfl
    | cons k ks ih =>
      rw [insertBySite, List.orderedInsert_cons, ih]
      exact if_congr .rfl rfl rfl
  have hsort : bySite c = c.insertionSort Job.siteLe := by
    unfold bySite List.insertionSort
    rw [funext fun j => funext (hins j)]
  have hle : (bySite c).Pairwise Job.siteLe := hsort ▸ List.pairwise_insertionSort Job.siteLe c
  have hne : ((bySite c).map Job.site).Nodup := ((bySite_perm c).map Job.site).nodup_iff.2 hn
  exact (hle.and (List.pairwise_map.1 hne)).imp fun h => lt_of_le_of_ne h.1 h.2

theorem openLanes_sorted (s : State) : s.openLanes.Pairwise (· < ·) := (List.pairwise_lt_finRange 4).filter _

/-- The member and the open lane of one rank are assigned to each other (R69). -/
theorem mem_assigned (hn : (c.map Job.site).Nodup) (hj : j ∈ c) (hl : (s.lane l).state = .idle ∨ (s.lane l).state = .reserved)
    (hrank : (c.countP fun (k : Job) => decide (k.site < j.site)) = ((List.finRange 4).countP fun m =>
      decide (m < l) && decide ((s.lane m).state = .idle ∨ (s.lane m).state = .reserved))) :
    (j, l) ∈ (bySite c).zip s.openLanes := by
  have hopen (m : LaneId) : ((s.lane m).state == .idle || (s.lane m).state == .reserved) =
      decide ((s.lane m).state = .idle ∨ (s.lane m).state = .reserved) := by
    rw [Bool.decide_or]
    rfl
  have hmem : l ∈ s.openLanes := List.mem_filter.2 ⟨List.mem_finRange l, by rw [hopen]; exact decide_eq_true hl⟩
  refine mem_zip_of_getElem? (getElem?_countP Job.site (bySite_sorted hn) ((bySite_perm c).mem_iff.2 hj)) ?_
  rw [(bySite_perm c).countP_eq, hrank]
  have hcount : ((List.finRange 4).countP fun m => decide (m < l) && decide ((s.lane m).state = .idle ∨ (s.lane m).state = .reserved)) =
      s.openLanes.countP fun m => decide (m < l) := by
    rw [State.openLanes, List.countP_filter]
    simp only [hopen]
  rw [hcount]
  exact getElem?_countP id (openLanes_sorted s) hmem

/-! ### One assignment among several -/

/-- A job of one state is assigned to a lane in another (R69). -/
structure Placed (j : Job) (l : LaneId) (s t : State) : Prop where
  record : { j with
    state := .tuning, lane := some l
    buffer := some (BufferSet.fresh (s.planOf j))
    flags := { j.flags with level := j.flags.level || (s.site j.site).levelFlag != some .within } } ∈ t.jobs
  lane : t.lane l = { s.lane l with
    state := .tuning, job := some j.id, connected := some j.site, tune := some .recount, acquisition := none }
  site : t.site j.site = (s.site j.site).connect s.now

theorem assignOne_site (s : State) (j : Job) (l : LaneId) (i : SiteId) : (s.assignOne j l).site i =
    if j.site = i then (s.site j.site).connect s.now else s.site i := by
  simp only [State.assignOne, State.setFree_site, State.setLane_site, State.updateJob_site]
  rw [State.setSite_site]

theorem assignOne_placed (hj : j ∈ s.jobs) : Placed j l s (s.assignOne j l) where
  record := List.mem_map.2 ⟨j, hj, if_pos rfl⟩
  lane := State.setLane_lane_self _ _ _
  site := by rw [assignOne_site, if_pos rfl]

/-- An assignment of another job to another lane from another site leaves the first. -/
theorem Placed.assignOne (h : Placed j l s t) (hid : j.id ≠ k.id) (hl : m ≠ l) (hs : k.site ≠ j.site) :
    Placed j l s (t.assignOne k m) where
  record := assignOne_jobs m h.record hid
  lane := (assignOne_lane t k hl).trans h.lane
  site := by rw [assignOne_site, if_neg hs, h.site]

theorem Placed.of_assignOne (h : Placed j l (s.assignOne k m) t) (hl : m ≠ l) (hs : k.site ≠ j.site) : Placed j l s t := by
  obtain ⟨h1, h2, h3⟩ := h
  rw [assignOne_site, if_neg hs] at h1 h3
  rw [assignOne_lane s k hl] at h2
  exact ⟨h1, h2, h3⟩

/-- The assignments of other jobs to other lanes from other sites leave the first. -/
theorem Placed.foldl : ∀ {xs : List (Job × LaneId)} {t : State}, (∀ x ∈ xs, j.id ≠ x.1.id ∧ x.2 ≠ l ∧ x.1.site ≠ j.site) →
    Placed j l s t → Placed j l s (xs.foldl (fun s x => s.assignOne x.1 x.2) t) := by
  intro xs
  induction xs with
  | nil => exact fun _ h => h
  | cons x xs ih =>
    intro t hx h
    obtain ⟨h1, h2, h3⟩ := hx x (List.mem_cons_self ..)
    exact ih (fun y hy => hx y (List.mem_cons_of_mem _ hy)) (h.assignOne h1 h2 h3)

/-- Members of a head that are assigned to different lanes from different sites are each placed. -/
theorem foldl_placed (xs : List (Job × LaneId)) (hid : (xs.map fun x => x.1.id).Nodup) (hln : (xs.map Prod.snd).Nodup)
    (hst : (xs.map fun x => x.1.site).Nodup) (hx : (j, l) ∈ xs) (hj : j ∈ s.jobs) :
    Placed j l s (xs.foldl (fun s x => s.assignOne x.1 x.2) s) := by
  induction xs generalizing s with
  | nil => cases hx
  | cons x xs ih =>
    rw [List.map_cons, List.nodup_cons] at hid hln hst
    rcases List.mem_cons.1 hx with rfl | hx
    · exact Placed.foldl (xs := xs) (t := s.assignOne j l) (fun y hy => ⟨fun h => hid.1 (List.mem_map.2 ⟨y, hy, h.symm⟩),
        fun h => hln.1 (List.mem_map.2 ⟨y, hy, h⟩), fun h => hst.1 (List.mem_map.2 ⟨y, hy, h⟩)⟩) (assignOne_placed hj)
    · have hne : j.id ≠ x.1.id := fun h => hid.1 (h ▸ List.mem_map_of_mem (f := fun x : Job × LaneId => x.1.id) hx)
      have hlane : x.2 ≠ l := fun h => hln.1 (h ▸ List.mem_map_of_mem (f := Prod.snd) hx)
      have hsite : x.1.site ≠ j.site := fun h => hst.1 (h ▸ List.mem_map_of_mem (f := fun x : Job × LaneId => x.1.site) hx)
      exact (ih hid.2 hln.2 hst.2 hx (assignOne_jobs x.2 hj hne)).of_assignOne hlane hsite

theorem Placed.moveLanes (h : Placed j l s t) {p q : LaneState} (hp : p.open = true) : Placed j l s (t.moveLanes p q) where
  record := h.record
  lane := (moveLanes_lane t hp (by rw [h.lane]; rfl)).trans h.lane
  site := h.site

/-- Every member of a head with enough lanes is placed (R69). -/
theorem assign_placed (hc : ∀ j ∈ c, j ∈ s.jobs) (hi : (c.map Job.id).Nodup) (hn : (c.map Job.site).Nodup)
    (hjl : (j, l) ∈ (bySite c).zip s.openLanes) : Placed j l s (s.assign c) := by
  have hsub := zip_fst_sublist (bySite c) s.openLanes
  have hids : (((bySite c).zip s.openLanes).map fun x => x.1.id).Nodup := by
    have := (hsub.map Job.id).nodup (((bySite_perm c).map Job.id).nodup_iff.2 hi)
    rwa [List.map_map] at this
  have hsites : (((bySite c).zip s.openLanes).map fun x => x.1.site).Nodup := by
    have := (hsub.map Job.site).nodup (((bySite_perm c).map Job.site).nodup_iff.2 hn)
    rwa [List.map_map] at this
  have hlanes := (zip_snd_sublist (bySite c) s.openLanes).nodup ((List.nodup_finRange 4).filter _)
  have hj : j ∈ s.jobs := hc j (mem_bySite (List.of_mem_zip hjl).1)
  have h := foldl_placed _ hids hlanes hsites hjl hj
  obtain ⟨h1, h2, h3⟩ := h.moveLanes (p := .reserved) (q := .idle) rfl
  exact ⟨h1, h2, h3⟩

end

end Sys2Proof.Machine

/-! PROOFS. A reconsideration (R65 to R69), by the table of R67. -/

namespace Sys2Proof.Machine

section
variable {s t u : State} {c : List Job} {j k : Job} {l m : LaneId} {i : SiteId}

/-! ### Sites that the arbiter leaves -/

/-- The end of jobs that do not run leaves the sites. -/
theorem foldl_endTerminal_sites {e : EndReason} (ids : List Nat)
    (h : ∀ k ∈ s.jobs, k.id ∈ ids → k.state.running = false) : (ids.foldl (State.endTerminal e) s).sites = s.sites := by
  induction ids generalizing s with
  | nil => rfl
  | cons n ns ih =>
    have hstep : (s.endTerminal e n).sites = s.sites ∧
        ∀ k ∈ (s.endTerminal e n).jobs, k.id ∈ ns → k.state.running = false := by
      rcases endTerminal_cases e s n with he | ⟨j, hjob, -, -, ⟨-, he⟩ | ⟨l, -, hrun, he⟩⟩
      · rw [he]
        exact ⟨rfl, fun k hk hn => h k hk (List.mem_cons_of_mem _ hn)⟩
      · rw [he]
        refine ⟨endRecord_sites s e j, fun k hk hn => ?_⟩
        rw [endRecord_jobs] at hk
        obtain ⟨x, hx, rfl⟩ := List.mem_map.1 hk
        by_cases hid : x.id = j.id
        · rw [Job.afterEnd_self hid]
          rfl
        · rw [Job.afterEnd_id] at hn
          rw [Job.afterEnd_other hid]
          exact h x hx (List.mem_cons_of_mem _ hn)
      · rw [h j (job?_mem hjob) (by rw [job?_id hjob]; exact List.mem_cons_self ..)] at hrun
        cases hrun
    exact (ih hstep.2).trans hstep.1

theorem endJobs_queued_sites (hd : s.distinct) (e : EndReason) (hc : ∀ j ∈ c, j ∈ s.jobs ∧ j.state = .queued) :
    (s.endJobs e c).sites = s.sites := by
  refine foldl_endTerminal_sites _ fun k hk hid => ?_
  obtain ⟨j, hj, hjk⟩ := List.mem_map.1 hid
  obtain ⟨hjm, hst⟩ := hc j (mem_oldestFirst.1 hj)
  rw [hd.unique hk hjm hjk.symm, hst]
  rfl

theorem assign_site (hc : ∀ j ∈ c, j.site ≠ i) : (s.assign c).site i = s.site i := by
  show (((bySite c).zip s.openLanes).foldl (fun s x => s.assignOne x.1 x.2) s).site i = _
  have hx : ∀ x ∈ (bySite c).zip s.openLanes, x.1.site ≠ i := fun x hx => hc _ (mem_bySite (List.of_mem_zip hx).1)
  generalize (bySite c).zip s.openLanes = xs at hx
  induction xs generalizing s with
  | nil => rfl
  | cons x xs ih =>
    rw [List.foldl_cons, ih fun y hy => hx y (List.mem_cons_of_mem _ hy), assignOne_site,
      if_neg (hx x (List.mem_cons_self ..))]

theorem serveHead_site (hc : ∀ j ∈ c, j.site ≠ i) : (s.serveHead c).1.site i = s.site i := by
  unfold State.serveHead
  dsimp only
  repeat' split
  · exact assign_site hc
  · rfl
  · rw [State.raise_site]; rfl
  · rw [State.raise_site]
  · rw [State.raise_site]; rfl

theorem takeHead_site : (s.takeHead c).site i = s.site i := by
  unfold State.takeHead
  split <;> rfl

/-- The arbiter leaves a site that is not READY (R65, R69). -/
theorem reconsiderWith_site (fuel : Nat) (hd : s.distinct) (h : (s.site i).state ≠ .ready) :
    (State.reconsiderWith fuel s).site i = s.site i := by
  induction fuel generalizing s with
  | zero => rfl
  | succ fuel ih =>
    unfold State.reconsiderWith
    split
    · rfl
    · next c hc =>
      have hq : ∀ j ∈ c, j ∈ (s.takeHead c).jobs ∧ j.state = .queued := by rw [takeHead_jobs]; exact findHead_queued hc
      have hne : ∀ j ∈ c, j.site ≠ i := fun j hj hji => h (hji ▸ findHead_sites hc j hj)
      have hdt : (s.takeHead c).distinct := (takeHead_carried s c).distinct hd
      have hend : ((s.takeHead c).endJobs .noLane c).site i = s.site i :=
        (site_of_sites (endJobs_queued_sites hdt _ hq) i).trans takeHead_site
      have hserve : ((s.takeHead c).serveHead c).1.site i = s.site i := (serveHead_site hne).trans takeHead_site
      have hsel : ∀ j ∈ c, ((s.takeHead c).site j.site).state.selectable = true := fun j hj => by
        rw [takeHead_site, findHead_sites hc j hj]
        rfl
      dsimp only
      split
      · rw [ih ((endJobs_carried _ _ _).distinct hdt) (by rw [hend]; exact h), hend]
      split
      · rw [ih ((serveHead_carried _ c hsel).distinct hdt) (by rw [hserve]; exact h), hserve]
      · exact hserve

/-! ### One turn of the arbiter -/

/-- The first turn of a reconsideration with a head (R66, R67). -/
theorem arbitrate_of_head (hr : s.reconsider = true) (hc : s.findHead = some c) :
    s.arbitrate = (if (s.takeHead c).lanesInService < c.length then
        State.reconsiderWith s.jobs.length ((s.takeHead c).endJobs .noLane c)
      else if ((s.takeHead c).serveHead c).2 then State.reconsiderWith s.jobs.length ((s.takeHead c).serveHead c).1
      else ((s.takeHead c).serveHead c).1).reconsidered := by
  rw [State.arbitrate, if_pos hr, State.reconsiderWith, hc]

theorem raise_reconsidered (s : State) (k : EventKind) : (s.raise k).reconsidered = s.reconsidered.raise k := by
  unfold State.raise State.reconsidered
  dsimp only
  split <;> rfl

/-- The table of R67 for a head that is not assigned. -/
theorem serveHead_unassigned (s : State) (c : List Job) :
    (s.segmentNeed c ≤ s.freeSegments → s.lanesIn .idle + s.lanesIn .reserved < c.length → s.serveHead c = (s.reserve, false)) ∧
    (s.freeSegments < s.segmentNeed c → s.lanesIn .idle + s.lanesIn .reserved < c.length →
      s.serveHead c = (s.reserve.raise .stalled, false)) ∧
    (s.freeSegments < s.segmentNeed c → c.length ≤ s.lanesIn .idle + s.lanesIn .reserved → s.lanesIn .idle < c.length →
      s.serveHead c = (s.raise .stalled, false)) ∧
    (s.freeSegments < s.segmentNeed c → c.length ≤ s.lanesIn .idle → s.serveHead c = (s.unreserve.raise .stalled, false)) := by
  refine ⟨fun h1 h2 => ?_, fun h1 h2 => ?_, fun h1 h2 h3 => ?_, fun h1 h2 => ?_⟩ <;> unfold State.serveHead <;> dsimp only
  · rw [if_pos h1, if_neg (by omega)]
  · rw [if_neg (by omega), if_pos h2]
  · rw [if_neg (by omega), if_neg (by omega), if_pos h3]
  · rw [if_neg (by omega), if_neg (by omega), if_neg (by omega)]

theorem serveHead_assigned (h1 : s.segmentNeed c ≤ s.freeSegments) (h2 : c.length ≤ s.lanesIn .idle + s.lanesIn .reserved) :
    s.serveHead c = (s.assign c, true) := by
  unfold State.serveHead
  dsimp only
  rw [if_pos h1, if_pos h2]

/-- A placed job stands over the arbiter's next turns, but for its gang (R69). -/
theorem Placed.reconsidered (h : Placed j l s t) (hd : t.distinct) (fuel : Nat) :
    (∃ k ∈ (State.reconsiderWith fuel t).jobs, k = { j with
      state := .tuning, lane := some l, gang := k.gang
      buffer := some (BufferSet.fresh (s.planOf j))
      flags := { j.flags with level := j.flags.level || (s.site j.site).levelFlag != some .within } }) ∧
    (State.reconsiderWith fuel t).lane l = { s.lane l with
      state := .tuning, job := some j.id, connected := some j.site, tune := some .recount, acquisition := none } ∧
    (State.reconsiderWith fuel t).site j.site = (s.site j.site).connect s.now := by
  refine ⟨?_, ?_, ?_⟩
  · obtain ⟨k', hk', g, rfl⟩ := reconsiderWith_reaches fuel t _ h.record (by
      rintro ⟨x, hx, hid, hst⟩
      rw [hd.unique hx h.record hid] at hst
      cases hst)
    exact ⟨_, hk', rfl⟩
  · rw [reconsiderWith_lane fuel t hd l (by rw [h.lane]; rfl), h.lane]
  · rw [reconsiderWith_site fuel hd (by rw [h.site]; nofun), h.site]

theorem flag_bne_within (x : Option LevelFlag) : (x != some .within) = decide (x ≠ some .within) := by
  cases x with
  | none => rfl
  | some y => cases y <;> rfl

/-- A lane record keeps all but its state at a change of head (R68). -/
theorem takeHead_lane_but (s : State) (c : List Job) (l : LaneId) :
    (s.takeHead c).lane l = { s.lane l with state := ((s.takeHead c).lane l).state } := by
  unfold State.takeHead
  split
  · rfl
  · simp only [State.unreserve, State.setHead, State.moveLanes, State.lane, Fin.getElem_fin, Vector.getElem_map]
    split <;> rfl

/-- Settles O37, by the first turn of the arbiter: what a head meets, and what the next turns leave of a placed member. -/
theorem reconsiderationByTable : Obligations.ReconsiderationByTable := by
  intro s hr hd turned
  refine ⟨fun hn => arbitrate_of_no_head hr hn, ?_⟩
  intro c hc ids s' count need segments inService
  generalize hu : s.takeHead c = u
  have hs' : s' = u.reconsidered := by
    rw [← hu]
    unfold State.takeHead
    split
    · next h => exact if_pos h
    · next h => exact if_neg h
  have harb := arbitrate_of_head hr hc
  rw [hu] at harb
  have hcount (st : LaneState) : count st = u.lanesIn st := by
    simp only [count, hs']
    rfl
  have hservice : inService = u.lanesInService := by simp only [inService, hcount]; rfl
  have hset : u.setting = s.setting := by rw [← hu, takeHead_setting]
  have hplan (j : Job) : u.planOf j = s.planOf j := planOf_of_plans (plans_of_setting hset) j
  have hseg : segments = u.segmentNeed c := by
    refine congrArg List.sum (List.map_congr_left fun j _ => ?_)
    rw [hplan, Plan.segments]
    by_cases h : (s.planOf j).snapshot = 0
    · rw [if_pos h, if_neg (by omega)]
    · rw [if_neg h, if_pos (by omega)]
  have hfree : u.freeSegments = s.freeSegments := by
    rw [← hu]
    unfold State.takeHead
    split <;> rfl
  have hud : u.distinct := by rw [← hu]; exact (takeHead_carried s c).distinct hd
  have hq : ∀ j ∈ c, j ∈ u.jobs ∧ j.state = .queued := by rw [← hu, takeHead_jobs]; exact findHead_queued hc
  rw [hservice, hseg, ← hfree]
  simp only [hcount]
  refine ⟨fun hn j hj => ?_, fun hn => ?_⟩
  · rw [harb, if_pos hn]
    have hcar := reconsiderWith_carried s.jobs.length (u.endJobs .noLane c)
    have hend := endJobs_ended hud .noLane (fun j hj => ⟨(hq j hj).1, by rw [(hq j hj).2]; exact ⟨nofun, nofun⟩⟩) hj
    refine (hend.of_reaches (reconsiderWith_reaches s.jobs.length _) hcar ?_).of_reaches (X := fun _ => False)
      (.of_jobs rfl) (reconsidered_carried _) not_false
    rintro ⟨x, hx, hid, hst⟩
    obtain ⟨-, k, hk, hkid, hkst, -⟩ := hend
    rw [((endJobs_carried u .noLane c).distinct hud).unique hx hk (hid.trans hkid.symm), hkst] at hst
    cases hst
  rw [if_neg (by omega)] at harb
  obtain ⟨t1, t2, t3, t4⟩ := serveHead_unassigned u c
  refine ⟨fun h1 h2 => ?_, fun h1 h2 => ?_, fun h1 h2 h3 => ?_, fun h1 h2 => ?_, fun h1 h2 hsites j hj l => ?_⟩
  · rw [harb, t1 h1 h2, hs']
    rfl
  · rw [harb, t2 h1 h2, hs']
    exact raise_reconsidered _ _
  · rw [harb, t3 h1 h2 h3, hs']
    exact raise_reconsidered _ _
  · rw [harb, t4 h1 h2, hs']
    exact raise_reconsidered _ _
  · intro hopen hrank
    rw [serveHead_assigned h1 h2] at harb
    have hlane (m : LaneId) : s'.lane m = u.lane m := by rw [hs']; rfl
    have hmem : (j, l) ∈ (bySite c).zip u.openLanes := by
      simp only [hlane] at hopen hrank
      exact mem_assigned hsites hj (of_decide_eq_true hopen) hrank
    have hplaced := assign_placed (fun j hj => (hq j hj).1) (isCandidate_ids hd (findHead_isCandidate hc).1) hsites hmem
    have hsel : ∀ j ∈ c, (u.site j.site).state.selectable = true := fun j hj => by
      rw [← hu, takeHead_site, findHead_sites hc j hj]
      rfl
    obtain ⟨⟨k, hk, hrec⟩, hl, hst⟩ := hplaced.reconsidered ((assign_carried u c hsel).distinct hud) s.jobs.length
    have hsite : u.site j.site = s.site j.site := by rw [← hu]; exact takeHead_site
    have hnow : u.now = s.now := congrArg (fun x : Setting => x.timebase.uptime) hset
    rw [hplan, hsite, flag_bne_within] at hrec
    rw [hsite, hnow] at hst
    rw [harb]
    refine ⟨⟨k, hk, hrec⟩, hl.trans ?_, hst⟩
    rw [← hu, takeHead_lane_but]

end

end Sys2Proof.Machine

/-! PROOFS. Points in range and spur lists in order (R93 to R95, R110, R136). -/

namespace Sys2Proof.Machine

section
variable {p : Plan} {a : Acquisition} {b : BandAcq} {lat : Latched}

/-! ### The points of a band -/

theorem computeBand_segment (p : Plan) (lat : Latched) (b : BandAcq) :
    (computeBand p lat b).segment.band = b.band ∧ (computeBand p lat b).segment.accepted = b.accepted ∧
      (computeBand p lat b).segment.rejected = b.rejected := by
  unfold computeBand
  split <;> exact ⟨rfl, rfl, rfl⟩

theorem cutPoints_length : ∀ (cs : List Nat) (bins : List BinLevels), (cutPoints cs bins).length = cs.length
  | [], _ => rfl
  | c :: cs, bins => congrArg (· + 1) (cutPoints_length cs (bins.drop c))

theorem pointBins_length (b : BandId) : (Config.pointBins b).length = if b.val = 5 then 11 else 10 := by
  fin_cases b <;> rfl

theorem computeBand_length (p : Plan) (lat : Latched) (b : BandAcq) :
    (computeBand p lat b).segment.points.length = if b.band.val = 5 then 11 else 10 := by
  unfold computeBand
  split
  · exact List.length_replicate.trans (pointBins_length b.band)
  · simp only [List.length_map, cutPoints_length, pointBins_length]

theorem clampInt_mono {lo hi x y : Int} (h : x ≤ y) : clampInt lo hi x ≤ clampInt lo hi y := by
  unfold clampInt
  omega

/-- What a point of a band with a count of accepted averages holds (R93 to R95). -/
def Point.inRange (n : Nat) : Point → Prop
  | .noData => n = 0
  | .data m f e _ _ _ => n ≠ 0 ∧ -20000 ≤ m ∧ m ≤ e ∧ e ≤ -2000 ∧ -20000 ≤ f ∧ f ≤ -2000

theorem finishPoint_inRange {n : Nat} (hn : n ≠ 0) (m f margin : Int) (sp : Bool) :
    (finishPoint m f margin sp).inRange n := by
  have hlow (x : Int) : -20000 ≤ clampInt (-20000) (-2000) x := by unfold clampInt; omega
  have hhigh (x : Int) : clampInt (-20000) (-2000) x ≤ -2000 := by unfold clampInt; omega
  exact ⟨hn, hlow _, clampInt_mono (le_max_left _ _), hhigh _, hlow _, hhigh _⟩

theorem computeBand_inRange (p : Plan) (lat : Latched) (b : BandAcq) :
    ∀ q ∈ (computeBand p lat b).segment.points, q.inRange b.accepted := by
  unfold computeBand
  split
  · next h =>
    intro q hq
    rw [List.eq_of_mem_replicate hq]
    exact h
  · next h =>
    intro q hq
    obtain ⟨bins, -, rfl⟩ := List.mem_map.1 hq
    exact finishPoint_inRange h _ _ _ _

/-! ### The order of spurs -/

/-- The order of R110: by level, highest first, then by offset, lowest first. -/
def Spur.before (u v : Spur) : Prop := v.level < u.level ∨ (u.level = v.level ∧ u.offset ≤ v.offset)

/-- The spurs of a spectrum in the order of R110. -/
def sortSpurs (spurs : List Spur) : List Spur := spurs.foldr insertSpur []

theorem sortSpurs_sorted (spurs : List Spur) : (sortSpurs spurs).Pairwise Spur.before ∧ (sortSpurs spurs).Perm spurs := by
  have hdec : DecidableRel Spur.before := fun u v =>
    inferInstanceAs (Decidable (v.level < u.level ∨ (u.level = v.level ∧ u.offset ≤ v.offset)))
  have htotal : Std.Total Spur.before := ⟨fun u v => by unfold Spur.before; omega⟩
  have htrans : IsTrans Spur Spur.before := ⟨fun u v w h g => by unfold Spur.before at *; omega⟩
  have hins (u : Spur) (vs : List Spur) : insertSpur u vs = vs.orderedInsert Spur.before u := by
    induction vs with
    | nil => rfl
    | cons v vs ih =>
      rw [insertSpur, List.orderedInsert_cons, ih]
      exact if_congr (by unfold Spur.before; rw [eq_comm (a := v.level)]) rfl rfl
  have hsort : sortSpurs spurs = spurs.insertionSort Spur.before := by
    unfold sortSpurs List.insertionSort
    rw [funext fun u => funext (hins u)]
  rw [hsort]
  exact ⟨List.pairwise_insertionSort _ _, List.perm_insertionSort _ _⟩

/-- Settles O45, part by part: each band gives a segment of its own, and the list is the head of the sorted spurs. -/
theorem pointsAndSpursInOrder : Obligations.PointsAndSpursInOrder := by
  intro p a x
  have hmap {α : Type} (f : Segment → α) (g : BandAcq → α) (h : ∀ b, f (computeBand p a.latched b).segment = g b) :
      x.segments.map f = a.bands.map g := by
    simp only [x, computeSpectrum, List.map_map]
    exact List.map_congr_left fun b _ => h b
  have hmem : ∀ g ∈ x.segments, ∃ b, g = (computeBand p a.latched b).segment := by
    intro g hg
    simp only [x, computeSpectrum, List.map_map] at hg
    obtain ⟨b, -, rfl⟩ := List.mem_map.1 hg
    exact ⟨b, rfl⟩
  refine ⟨hmap _ _ fun b => (computeBand_segment p _ b).1, hmap _ _ fun b => (computeBand_segment p _ b).2.1,
    hmap _ _ fun b => (computeBand_segment p _ b).2.2, fun g hg => ?_, fun g hg q hq => ?_, fun spurs => ?_⟩
  · obtain ⟨b, rfl⟩ := hmem g hg
    rw [computeBand_length, (computeBand_segment p _ b).1]
  · obtain ⟨b, rfl⟩ := hmem g hg
    have h := computeBand_inRange p _ b q hq
    rw [← (computeBand_segment p a.latched b).2.1] at h
    cases q <;> exact h
  · intro before listed
    obtain ⟨hsorted, hperm⟩ := sortSpurs_sorted spurs
    cases hr : p.spur with
    | none =>
      have hnil : listed = [] := by simp only [listed, spurList, hr]
      rw [hnil]
      exact ⟨List.Pairwise.nil, fun _ => rfl, nofun⟩
    | some r =>
      have htake : listed = (sortSpurs spurs).take r.report := by simp only [listed, spurList, hr, sortSpurs]
      rw [htake]
      refine ⟨hsorted.sublist (List.take_sublist _ _), nofun, fun r' hr' => ?_⟩
      obtain rfl := Option.some.inj hr'
      refine ⟨by rw [List.length_take, hperm.length_eq], (sortSpurs spurs).drop r.report, ?_, fun u hu v hv => ?_⟩
      · rw [List.take_append_drop]
        exact hperm
      · rw [← List.take_append_drop r.report (sortSpurs spurs)] at hsorted
        exact (List.pairwise_append.1 hsorted).2.2 u hu v hv

end

end Sys2Proof.Machine

/-! PROOFS. What the searches and the logarithms of the exact arithmetic decide, over the reals (R1, R51, R90). -/

namespace Sys2Proof.Machine

open Real

/-! ### The search for the greatest integer -/

/-- What `bisect` finds for a predicate that holds up to some integer and fails above it. -/
theorem bisect_spec {p : Int → Bool} (hp : ∀ a b, a ≤ b → p b = true → p a = true) (lo : Int) (bits : Nat) :
    lo ≤ bisect p lo bits ∧ bisect p lo bits < lo + 2 ^ bits ∧ (p lo = true → p (bisect p lo bits) = true) ∧
      ∀ m, bisect p lo bits < m → m < lo + 2 ^ bits → p m = false := by
  induction bits generalizing lo with
  | zero =>
    refine ⟨le_refl _, by simp [bisect], id, fun m h1 h2 => ?_⟩
    simp only [bisect, pow_zero] at h1 h2
    omega
  | succ bits ih =>
    have hpow : (2 : Int) ^ (bits + 1) = 2 ^ bits + 2 ^ bits := by rw [pow_succ]; ring
    have hpos : (0 : Int) < 2 ^ bits := by positivity
    rw [bisect, hpow]
    split
    · next h =>
      obtain ⟨h1, h2, h3, h4⟩ := ih (lo + 2 ^ bits)
      exact ⟨by omega, by omega, fun _ => h3 h, fun m hm hm' => h4 m hm (by omega)⟩
    · next h =>
      obtain ⟨h1, h2, h3, h4⟩ := ih lo
      refine ⟨h1, by omega, h3, fun m hm hm' => ?_⟩
      by_cases hlt : m < lo + 2 ^ bits
      · exact h4 m hm hlt
      · by_contra hpm
        exact h (hp _ _ (not_lt.1 hlt) (by simpa using hpm))

/-! ### Products of powers -/

theorem toNat_sub_toNat_neg (c : Int) : ((c.toNat : Nat) : ℝ) - ((-c).toNat : Nat) = c := by
  have h : ((c.toNat : Nat) : Int) - ((-c).toNat : Nat) = c := by omega
  exact_mod_cast h

theorem logb_powers {g1 g2 : Nat} (h1 : 0 < g1) (h2 : 0 < g2) (a b c : Nat) :
    logb 10 ((10 ^ a * g1 ^ b * g2 ^ c : Nat) : ℝ) = a + b * logb 10 g1 + c * logb 10 g2 := by
  have hg1 : (g1 : ℝ) ≠ 0 := by exact_mod_cast h1.ne'
  have hg2 : (g2 : ℝ) ≠ 0 := by exact_mod_cast h2.ne'
  push_cast
  rw [logb_mul (by positivity) (by positivity), logb_mul (by positivity) (by positivity), logb_pow, logb_pow, logb_pow,
    logb_self_eq_one (by norm_num)]
  ring

/-- 10 ^ c0 × g1 ^ c1 × g2 ^ c2 ≥ 1 over the logarithms. -/
theorem powersAtLeastOne_iff {g1 g2 : Nat} (h1 : 0 < g1) (h2 : 0 < g2) (c0 c1 c2 : Int) :
    powersAtLeastOne c0 g1 c1 g2 c2 = true ↔ 0 ≤ (c0 : ℝ) + c1 * logb 10 g1 + c2 * logb 10 g2 := by
  have hpos (a b c : Nat) : (0 : ℝ) < ((10 ^ a * g1 ^ b * g2 ^ c : Nat) : ℝ) := by
    have : 0 < 10 ^ a * g1 ^ b * g2 ^ c := by positivity
    exact_mod_cast this
  rw [powersAtLeastOne, decide_eq_true_iff, ← @Nat.cast_le ℝ, ← logb_le_logb (b := 10) (by norm_num) (hpos _ _ _) (hpos _ _ _),
    logb_powers h1 h2, logb_powers h1 h2, ← sub_nonneg]
  rw [← toNat_sub_toNat_neg c0, ← toNat_sub_toNat_neg c1, ← toNat_sub_toNat_neg c2]
  refine iff_of_eq (congrArg (0 ≤ ·) ?_)
  ring

/-! ### Rounded logarithms -/

theorem logAtLeast_iff {c num den : Nat} (hn : 0 < num) (hd : 0 < den) (h : Int) :
    logAtLeast c num den h = true ↔ (h : ℝ) ≤ 2 * c * logb 10 (num / den) := by
  have key := powersAtLeastOne_iff hd hn (-h) (-(2 * c : Nat)) (2 * c : Nat)
  have heq : logAtLeast c num den h = powersAtLeastOne (-h) den (-(2 * c : Nat)) num (2 * c : Nat) := by
    unfold logAtLeast powersAtLeastOne
    simp only [neg_neg, Int.toNat_natCast, Int.toNat_neg_natCast, pow_zero, mul_one]
    rw [mul_comm (num ^ (2 * c))]
  have hnum : (num : ℝ) ≠ 0 := by exact_mod_cast hn.ne'
  have hden : (den : ℝ) ≠ 0 := by exact_mod_cast hd.ne'
  rw [heq, key, logb_div hnum hden, ← sub_nonneg (b := (h : ℝ))]
  push_cast
  refine iff_of_eq ?_
  congr 1
  ring

end Sys2Proof.Machine

/-! PROOFS. Mask limits (R51) and the four criteria of a point computation (R122 to R128). -/

namespace Sys2Proof.Machine

open Real

section
variable {v w : Vertex} {i : Nat}

/-! ### The line between two vertices -/

/-- The logarithm of a vertex's offset. -/
noncomputable def Vertex.log (v : Vertex) : ℝ := Real.logb 10 v.offset

/-- The line between two vertices at a grid point, over the logarithm of the offset (R51). -/
noncomputable def exactLimit (v w : Vertex) (i : Nat) : ℝ :=
  v.limit + ((w.limit : ℝ) - v.limit) * (1 + (i : ℝ) / 10 - v.log) / (w.log - v.log)

theorem int_ediv_cast {a g : Int} (hg : g ∣ a) (h0 : g ≠ 0) : ((a / g : Int) : ℝ) = a / g := by
  obtain ⟨b, rfl⟩ := hg
  rw [Int.mul_ediv_cancel_left b h0]
  push_cast
  rw [mul_div_cancel_left₀]
  exact_mod_cast h0

/-- What the comparison of integers says of the line (R51). -/
theorem lineAtMost_iff (hv : 0 < v.offset) (hvw : v.log < w.log) (hw : 0 < w.offset) (h : Int) :
    lineAtMost v w i h = true ↔ (h : ℝ) ≤ 2 * -exactLimit v w i := by
  unfold lineAtMost
  dsimp only
  generalize hc0 : 2 * (v.limit - w.limit) * (10 + (i : Int)) = c0
  generalize hc2 : 10 * (2 * -v.limit - h) = c2
  generalize hc1 : -c2 - 20 * (v.limit - w.limit) = c1
  generalize hg : max (1 : Int) (Int.gcd c0 (Int.gcd c1 c2)) = g
  have hgpos : 0 < g := by omega
  have hdvd : g ∣ c0 ∧ g ∣ c1 ∧ g ∣ c2 := by
    rcases Nat.eq_zero_or_pos (Int.gcd c0 (Int.gcd c1 c2)) with hz | hz
    · rw [← hg, hz]
      exact ⟨one_dvd _, one_dvd _, one_dvd _⟩
    · have hgeq : g = (Int.gcd c0 (Int.gcd c1 c2) : Int) := by omega
      have h12 : g ∣ (Int.gcd c1 c2 : Int) := hgeq ▸ Int.gcd_dvd_right ..
      exact ⟨hgeq ▸ Int.gcd_dvd_left .., h12.trans (Int.gcd_dvd_left ..), h12.trans (Int.gcd_dvd_right ..)⟩
  have hgr : (0 : ℝ) < g := by exact_mod_cast hgpos
  rw [powersAtLeastOne_iff hv hw, int_ediv_cast hdvd.1 hgpos.ne', int_ediv_cast hdvd.2.1 hgpos.ne',
    int_ediv_cast hdvd.2.2 hgpos.ne']
  have hdiff : 0 < w.log - v.log := sub_pos.2 hvw
  have hsum : (c0 : ℝ) / g + c1 / g * logb 10 v.offset + c2 / g * logb 10 w.offset =
      (10 * (w.log - v.log) / g) * (2 * -exactLimit v w i - h) := by
    rw [← hc1, ← hc2, ← hc0, exactLimit]
    push_cast
    simp only [Vertex.log] at hdiff ⊢
    field_simp
    ring
  rw [hsum, ← sub_nonneg (b := (h : ℝ))]
  exact mul_nonneg_iff_of_pos_left (by positivity)

/-- An integer is the nearest to a real number, in a tie the one farther from zero (R1). -/
def NearestTo (k : Int) (x : ℝ) : Prop := |(k : ℝ) - x| ≤ 1 / 2 ∧ (|(k : ℝ) - x| = 1 / 2 → |x| < |(k : ℝ)|)

/-- The line stays between the limits of its vertices. -/
theorem exactLimit_bounds {lo hi : ℝ} (hv : lo ≤ v.limit ∧ (v.limit : ℝ) ≤ hi) (hw : lo ≤ w.limit ∧ (w.limit : ℝ) ≤ hi)
    (hvw : v.log < w.log) (h1 : v.log ≤ 1 + (i : ℝ) / 10) (h2 : 1 + (i : ℝ) / 10 ≤ w.log) :
    lo ≤ exactLimit v w i ∧ exactLimit v w i ≤ hi := by
  have hdiff : 0 < w.log - v.log := sub_pos.2 hvw
  obtain ⟨t, ht⟩ : ∃ t, t = (1 + (i : ℝ) / 10 - v.log) / (w.log - v.log) := ⟨_, rfl⟩
  have ht0 : 0 ≤ t := ht ▸ div_nonneg (by linarith) hdiff.le
  have ht1 : t ≤ 1 := ht ▸ (div_le_one hdiff).2 (by linarith)
  have hx : exactLimit v w i = (1 - t) * v.limit + t * w.limit := by rw [exactLimit, mul_div_assoc, ← ht]; ring
  rw [hx]
  constructor <;> nlinarith [mul_le_mul_of_nonneg_left hv.1 (sub_nonneg.2 ht1), mul_le_mul_of_nonneg_left hw.1 ht0,
    mul_le_mul_of_nonneg_left hv.2 (sub_nonneg.2 ht1), mul_le_mul_of_nonneg_left hw.2 ht0]

/-- The limit between two vertices is the integer nearest to the line (R51). -/
theorem lineLimit_nearest (hv : 0 < v.offset) (hw : 0 < w.offset) (hvw : v.log < w.log)
    (hx : -20000 ≤ exactLimit v w i ∧ exactLimit v w i ≤ -4000) : NearestTo (lineLimit v w i) (exactLimit v w i) := by
  obtain ⟨hlow, hhigh⟩ := hx
  have hp (k : Int) : (fun k => lineAtMost v w i (2 * k - 1)) k = true ↔ 2 * (k : ℝ) - 1 ≤ 2 * -exactLimit v w i := by
    rw [lineAtMost_iff hv hvw hw]
    push_cast
    rfl
  obtain ⟨h1, h2, h3, h4⟩ := bisect_spec (p := fun k => lineAtMost v w i (2 * k - 1)) (fun a b hab hb => by
    rw [hp] at hb ⊢
    have : (a : ℝ) ≤ b := by exact_mod_cast hab
    linarith) 0 15
  have hk := (hp _).1 (h3 ((hp 0).2 (by push_cast; linarith)))
  have hlim : lineLimit v w i = -bisect (fun k => lineAtMost v w i (2 * k - 1)) 0 15 := rfl
  generalize bisect (fun k => lineAtMost v w i (2 * k - 1)) 0 15 = k at *
  have hk1 : 2 * -exactLimit v w i < 2 * (k : ℝ) + 1 := by
    by_cases hmax : k + 1 < 0 + 2 ^ 15
    · have hno := h4 _ (by omega) hmax
      have := mt (hp (k + 1)).2 (by dsimp only; rw [hno]; nofun)
      push_cast at this
      linarith
    · have : (32767 : ℝ) ≤ k := by exact_mod_cast (by omega : (32767 : Int) ≤ k)
      linarith
  rw [hlim, NearestTo, Int.cast_neg]
  refine ⟨abs_le.2 ⟨by linarith, by linarith⟩, fun htie => ?_⟩
  rcases (abs_eq (by norm_num)).1 htie with h | h
  · linarith
  · rw [abs_of_neg (by linarith), abs_of_neg (by linarith)]
    linarith

/-! ### The limit of a vertex list -/

theorem cast_le_iff_logb {a b : Nat} (ha : 0 < a) (hb : 0 < b) : a ≤ b ↔ logb 10 (a : ℝ) ≤ logb 10 b := by
  rw [logb_le_logb (by norm_num) (by exact_mod_cast ha) (by exact_mod_cast hb), Nat.cast_le]

theorem logb_grid (i : Nat) : logb 10 ((10 ^ (10 + i) : Nat) : ℝ) = 10 + i := by
  push_cast
  rw [logb_pow, logb_self_eq_one (by norm_num)]
  push_cast
  ring

theorem logb_pow_ten (f : Nat) : logb 10 ((f ^ 10 : Nat) : ℝ) = 10 * logb 10 f := by
  push_cast
  rw [logb_pow]
  norm_num

/-- A whole-hertz frequency below a grid point, over the logarithms (R82). -/
theorem pow_le_grid {f : Nat} (hf : 0 < f) (i : Nat) : f ^ 10 ≤ 10 ^ (10 + i) ↔ logb 10 (f : ℝ) ≤ 1 + (i : ℝ) / 10 := by
  rw [cast_le_iff_logb (by positivity) (by positivity), logb_grid, logb_pow_ten]
  constructor <;> intro h <;> linarith

theorem grid_le_pow {f : Nat} (hf : 0 < f) (i : Nat) : 10 ^ (10 + i) ≤ f ^ 10 ↔ 1 + (i : ℝ) / 10 ≤ logb 10 (f : ℝ) := by
  rw [cast_le_iff_logb (by positivity) (by positivity), logb_grid, logb_pow_ten]
  constructor <;> intro h <;> linarith

/-- The vertices of a stored list: offsets that rise, and limits in range (R48). -/
structure Vertex.legal (v : Vertex) : Prop where
  offset : 10 ≤ v.offset
  low : -20000 ≤ v.limit
  high : v.limit ≤ -4000

theorem log_lt (hv : 0 < v.offset) (h : v.offset < w.offset) : v.log < w.log :=
  logb_lt_logb (by norm_num) (by exact_mod_cast hv) (by exact_mod_cast h)

theorem exactLimit_at_left (h : 1 + (i : ℝ) / 10 = v.log) : exactLimit v w i = v.limit := by
  rw [exactLimit, h, sub_self, mul_zero, zero_div, add_zero]

theorem exactLimit_at_right (hvw : v.log < w.log) (h : 1 + (i : ℝ) / 10 = w.log) : exactLimit v w i = w.limit := by
  rw [exactLimit, h, mul_div_cancel_right₀ _ (sub_pos.2 hvw).ne']
  ring

/-- Neighbours in a list whose offsets rise. -/
theorem pair_of_infix {vs : List Vertex} (hp : vs.Pairwise fun v w => v.offset < w.offset) (h : [v, w] <:+: vs) :
    v ∈ vs ∧ w ∈ vs ∧ v.offset < w.offset :=
  ⟨h.subset (by simp), h.subset (by simp), by simpa using hp.sublist h.sublist⟩

/-- The vertex list that gives a limit at a grid point, and the pair of vertices around it. -/
theorem vertexLimit_nearest : ∀ {vs : List Vertex} {limit : Int}, vs.Pairwise (fun v w => v.offset < w.offset) →
    (∀ v ∈ vs, v.legal) → vertexLimit i vs = some limit → ∀ v w, [v, w] <:+: vs →
    v.log ≤ 1 + (i : ℝ) / 10 → 1 + (i : ℝ) / 10 ≤ w.log → NearestTo limit (exactLimit v w i)
  | [], _, _, _, h, _, _, _, _, _ => by cases h
  | [_], _, _, _, h, _, _, _, _, _ => by cases h
  | v1 :: v2 :: rest, limit, hp, hl, h, v, w, hin, hv, hw => by
    obtain ⟨h1, hp'⟩ := List.pairwise_cons.1 hp
    have hl1 := hl v1 (List.mem_cons_self ..)
    have hl2 := hl v2 (List.mem_cons_of_mem _ (List.mem_cons_self ..))
    have hpos1 : 0 < v1.offset := by have := hl1.offset; omega
    have hpos2 : 0 < v2.offset := by have := hl2.offset; omega
    have h12 : v1.log < v2.log := log_lt hpos1 (h1 v2 (List.mem_cons_self ..))
    have hin' : (v = v1 ∧ w = v2) ∨ [v, w] <:+: v2 :: rest := by
      rcases List.infix_cons_iff.1 hin with hpre | hin
      · obtain ⟨hvv1, hpre'⟩ := List.cons_prefix_cons.1 hpre
        exact .inl ⟨hvv1, (List.cons_prefix_cons.1 hpre').1⟩
      · exact .inr hin
    rw [vertexLimit] at h
    split at h
    · next hgrid =>
      obtain ⟨hg1, hg2⟩ := Bool.and_eq_true_iff.1 hgrid
      have hb1 := (pow_le_grid hpos1 i).1 (of_decide_eq_true hg1)
      have hb2 := (grid_le_pow hpos2 i).1 (of_decide_eq_true hg2)
      have hnear : NearestTo limit (exactLimit v1 v2 i) := by
        rw [← Option.some.inj h]
        refine lineLimit_nearest hpos1 hpos2 h12 (exactLimit_bounds ?_ ?_ h12 hb1 hb2)
        · exact ⟨by exact_mod_cast hl1.low, by exact_mod_cast hl1.high⟩
        · exact ⟨by exact_mod_cast hl2.low, by exact_mod_cast hl2.high⟩
      rcases hin' with ⟨rfl, rfl⟩ | hin'
      · exact hnear
      · obtain ⟨hvmem, hwmem, hlt⟩ := pair_of_infix hp' hin'
        have hle : v2.log ≤ v.log := by
          rcases List.mem_cons.1 hvmem with rfl | hv'
          · exact le_refl _
          · exact (log_lt hpos2 ((List.pairwise_cons.1 hp').1 v hv')).le
        have heq : v2.log = v.log := le_antisymm hle (hv.trans hb2)
        have hvv : v = v2 := by
          rcases List.mem_cons.1 hvmem with rfl | hv'
          · rfl
          · exact absurd heq (log_lt hpos2 ((List.pairwise_cons.1 hp').1 v hv')).ne
        subst hvv
        have hP : 1 + (i : ℝ) / 10 = v.log := le_antisymm hb2 hv
        rw [exactLimit_at_left hP]
        rw [exactLimit_at_right h12 hP] at hnear
        exact hnear
    · next hgrid =>
      rcases hin' with ⟨rfl, rfl⟩ | hin'
      · refine absurd (Bool.and_eq_true_iff.2 ⟨?_, ?_⟩) hgrid
        · exact decide_eq_true ((pow_le_grid hpos1 i).2 hv)
        · exact decide_eq_true ((grid_le_pow hpos2 i).2 hw)
      · exact vertexLimit_nearest hp' (fun x hx => hl x (List.mem_cons_of_mem _ hx)) h v w hin' hv hw

/-- The limit is set at the points of the closed range of the list (R51). -/
theorem vertexLimit_isSome : ∀ {vs : List Vertex} {first last : Vertex}, vs.Pairwise (fun v w => v.offset < w.offset) →
    2 ≤ vs.length → vs.head? = some first → vs.getLast? = some last →
    ((vertexLimit i vs).isSome = true ↔ first.offset ^ 10 ≤ 10 ^ (10 + i) ∧ 10 ^ (10 + i) ≤ last.offset ^ 10)
  | [], _, _, _, h, _, _ => by cases h
  | [_], _, _, _, h, _, _ => by simp at h
  | v1 :: v2 :: rest, first, last, hp, _, hfirst, hlast => by
    obtain ⟨h1, hp'⟩ := List.pairwise_cons.1 hp
    obtain rfl : v1 = first := Option.some.inj hfirst
    have hlast' : (v2 :: rest).getLast? = some last := by rwa [List.getLast?_cons_cons] at hlast
    have hmem : last ∈ v2 :: rest := List.mem_of_getLast? hlast'
    have h2last : v2.offset ≤ last.offset := by
      rcases List.mem_cons.1 hmem with rfl | hm
      · exact le_refl _
      · exact ((List.pairwise_cons.1 hp').1 last hm).le
    have hpow : v1.offset ^ 10 ≤ v2.offset ^ 10 := Nat.pow_le_pow_left (h1 v2 (List.mem_cons_self ..)).le 10
    have hpow' : v2.offset ^ 10 ≤ last.offset ^ 10 := Nat.pow_le_pow_left h2last 10
    rw [vertexLimit]
    split
    · next hgrid =>
      obtain ⟨hg1, hg2⟩ := Bool.and_eq_true_iff.1 hgrid
      exact iff_of_true rfl ⟨of_decide_eq_true hg1, (of_decide_eq_true hg2).trans hpow'⟩
    · next hgrid =>
      rw [Bool.and_eq_true_iff, gridAtLeast, gridAtMost, decide_eq_true_iff, decide_eq_true_iff, not_and, not_le] at hgrid
      cases rest with
      | nil =>
        obtain rfl : v2 = last := Option.some.inj hlast'
        exact iff_of_false nofun fun h => absurd h.2 (not_le.2 (hgrid h.1))
      | cons v3 rest =>
        rw [vertexLimit_isSome hp' (by simp) rfl hlast']
        exact ⟨fun h => ⟨hpow.trans h.1, h.2⟩, fun h => ⟨(hgrid h.1).le, h.2⟩⟩

theorem offsetsRise_pairwise : ∀ {vs : List Vertex}, offsetsRise vs = true → vs.Pairwise fun v w => v.offset < w.offset
  | [], _ => List.Pairwise.nil
  | [v], _ => List.pairwise_singleton _ v
  | v :: w :: rest, h => by
    rw [offsetsRise, Bool.and_eq_true_iff, decide_eq_true_iff] at h
    have hp := offsetsRise_pairwise h.2
    refine List.pairwise_cons.2 ⟨fun x hx => ?_, hp⟩
    rcases List.mem_cons.1 hx with rfl | hx
    · exact h.1
    · exact h.1.trans ((List.pairwise_cons.1 hp).1 x hx)

/-! ### The judged points -/

/-- Whether a grid point is checked against a mask (R51, R124). -/
def checkedPoint (plan : Plan) (first last : Vertex) (i : Nat) : Bool :=
  decide (plan.startBand.val ≤ min (i / 10) 5) && decide (min (i / 10) 5 ≤ plan.stopBand.val) &&
    decide (first.offset ^ 10 ≤ 10 ^ (10 + i)) && decide (10 ^ (10 + i) ≤ last.offset ^ 10)

theorem filterMap_eq_map_filter {α β : Type} {f : α → Option β} {p : α → Bool} {g : α → β} :
    ∀ {xs : List α}, (∀ x ∈ xs, f x = if p x then some (g x) else none) → xs.filterMap f = (xs.filter p).map g
  | [], _ => rfl
  | x :: xs, h => by
    have ih := filterMap_eq_map_filter (xs := xs) fun y hy => h y (List.mem_cons_of_mem _ hy)
    have hx := h x (List.mem_cons_self ..)
    cases hp : p x with
    | true =>
      rw [hp, if_pos rfl] at hx
      rw [List.filterMap_cons_some hx, ih, List.filter_cons_of_pos hp, List.map_cons]
    | false =>
      rw [hp, if_neg nofun] at hx
      rw [List.filterMap_cons_none hx, ih, List.filter_cons_of_neg (by rw [hp]; nofun)]

/-- The judged points of a mask are the checked points, each against its limit (R124). -/
theorem maskItems_eq {plan : Plan} {vs : List Vertex} {first last : Vertex} (x : Spectrum)
    (hp : vs.Pairwise fun v w => v.offset < w.offset) (hlen : 2 ≤ vs.length) (hfirst : vs.head? = some first)
    (hlast : vs.getLast? = some last) : maskItems plan (some vs) x =
      ((List.range 61).filter (checkedPoint plan first last)).map fun i =>
        (x.point i, judgePoint ((vertexLimit i vs).getD 0) (x.point i)) := by
  have hsome (i : Nat) := vertexLimit_isSome (i := i) hp hlen hfirst hlast
  unfold maskItems selectedPoints
  dsimp only
  rw [filterMap_eq_map_filter (p := fun i => decide (first.offset ^ 10 ≤ 10 ^ (10 + i)) && decide (10 ^ (10 + i) ≤ last.offset ^ 10))
    (g := fun i => (x.point i, judgePoint ((vertexLimit i vs).getD 0) (x.point i))), List.filter_filter]
  · refine congrArg (List.map _) (List.filter_congr fun i _ => ?_)
    rw [checkedPoint, Bool.and_comm]
    simp only [Bool.and_assoc]
  · intro i _
    cases h : vertexLimit i vs with
    | none =>
      rw [if_neg]
      · rfl
      · rw [Bool.and_eq_true_iff, decide_eq_true_iff, decide_eq_true_iff, ← hsome i, h]
        nofun
    | some limit =>
      rw [if_pos]
      · rfl
      · rw [Bool.and_eq_true_iff, decide_eq_true_iff, decide_eq_true_iff, ← hsome i, h]
        rfl

theorem Point.isNoData_eq (q : Point) : q.isNoData = decide (q = .noData) := by
  cases q <;> simp [Point.isNoData]

/-- The criterion of SPUR (R128). -/
theorem spurCriterion_of_some {plan : Plan} {r : SpurRule} (hr : plan.spur = some r) (spurs : List Spur) (empty : Bool) :
    ((∃ u ∈ spurs, r.limit < u.level) → spurCriterion plan spurs empty = .fail) ∧
      ((∀ u ∈ spurs, u.level ≤ r.limit) → spurCriterion plan spurs empty = if empty then .inconclusive else .pass) := by
  unfold spurCriterion
  rw [hr]
  refine ⟨fun ⟨u, hu, hlt⟩ => ?_, fun h => ?_⟩
  · exact if_pos (List.any_eq_true.2 ⟨u, hu, decide_eq_true hlt⟩)
  · refine if_neg fun hany => ?_
    obtain ⟨u, hu, hlt⟩ := List.any_eq_true.1 hany
    exact absurd (of_decide_eq_true hlt) (not_lt.2 (h u hu))

/-- Settles O46, criterion by criterion; the mask's points by the search of `vertexLimit`. -/
theorem criteriaByTables : Obligations.CriteriaByTables := by
  intro plan mask recount a x entries hsound c combined
  refine ⟨fun ht => ?_, fun t r ht hr => ⟨fun htag => ?_, fun htag e he => ?_⟩, fun hr => ?_, fun r hr => ?_, rfl, fun hm => ?_, ?_⟩
  · simp only [c, decideCriteria, frequencyCriterion, ht]
  · simp only [c, decideCriteria, frequencyCriterion, ht, hr, htag, if_true]
  · simp only [c, decideCriteria, frequencyCriterion, ht, hr, if_neg htag, he]
    exact if_congr (by rw [Int.abs_eq_natAbs]; omega) rfl rfl
  · simp only [c, decideCriteria, spurCriterion, hr]
  · obtain ⟨hfail, hrest⟩ := spurCriterion_of_some hr x.spurs (a.bands.any fun b => b.accepted == 0)
    refine ⟨hfail, fun hle => ⟨fun hempty => (hrest hle).trans (if_pos ?_), fun hfull => (hrest hle).trans (if_neg ?_)⟩⟩
    · obtain ⟨b, hb, h0⟩ := hempty
      exact List.any_eq_true.2 ⟨b, hb, by simpa using h0⟩
    · intro hany
      obtain ⟨b, hb, h0⟩ := List.any_eq_true.1 hany
      exact hfull b hb (by simpa using h0)
  · subst hm
    exact ⟨rfl, rfl⟩
  · intro vs first last hm hfirst hlast checked log
    obtain ⟨hlen, -, hrise, hall⟩ := hsound vs hm
    have hp := offsetsRise_pairwise hrise
    have hlegal : ∀ v ∈ vs, v.legal := fun v hv => by
      have h := List.all_eq_true.1 hall v hv
      simp only [Bool.and_eq_true, decide_eq_true_eq] at h
      obtain ⟨⟨⟨h1, -⟩, h2⟩, h3⟩ := h
      exact ⟨h1, h2, h3⟩
    have hitems := maskItems_eq (plan := plan) x hp hlen hfirst hlast
    refine ⟨fun i => (vertexLimit i vs).getD 0, fun i _ hc v w hin hv hw => ?_, ?_⟩
    · obtain ⟨hc, hhi⟩ := Bool.and_eq_true_iff.1 hc
      obtain ⟨-, hlo⟩ := Bool.and_eq_true_iff.1 hc
      obtain ⟨limit, hlimit⟩ := Option.isSome_iff_exists.1
        ((vertexLimit_isSome hp hlen hfirst hlast).2 ⟨of_decide_eq_true hlo, of_decide_eq_true hhi⟩)
      have hnear := vertexLimit_nearest hp hlegal hlimit v w hin hv hw
      dsimp only
      rw [hlimit]
      exact hnear
    · intro points judged
      have hjudged : judged = (maskItems plan (some vs) x).map Prod.snd := by
        rw [hitems, List.map_map]
        refine List.map_congr_left fun i _ => ?_
        rw [Function.comp_apply]
        generalize x.point i = q
        cases q <;> rfl
      have hpoints : points.length = (maskItems plan (some vs) x).length := by
        rw [hitems, List.length_map]
        rfl
      refine ⟨?_, ?_⟩
      · rw [hjudged, ← hm]
        rfl
      · have hcount (k : Criterion) : judged.count k = (maskItems plan (some vs) x).countP fun t => t.2 == k := by
          rw [hjudged, List.count, List.countP_map]
          rfl
        have hnone : (points.countP fun i => decide (x.point i = .noData)) =
            (maskItems plan (some vs) x).countP fun t => t.1.isNoData := by
          rw [hitems, List.countP_map]
          refine List.countP_congr fun i _ => ?_
          rw [Function.comp_apply, Point.isNoData_eq]
        rw [hcount, hcount, hnone, hpoints, ← hm]
        rfl

end

end Sys2Proof.Machine

/-! PROOFS. The enclosures of the exact arithmetic: what their operations enclose, and the powers of ten and of rationals. -/

namespace Sys2Proof.Machine

open Real

section
variable {p : Nat} {x y : Enclosure} {a b : ℝ}

/-! ### Quotients of natural numbers -/

theorem le_ceilDiv (m : Nat) {n : Nat} (hn : 0 < n) : (m : ℝ) / n ≤ ceilDiv m n := by
  have h : m ≤ ceilDiv m n * n := by
    have h1 := Nat.div_add_mod (m + n - 1) n
    have h2 := Nat.mod_lt (m + n - 1) hn
    have h3 : ceilDiv m n * n = n * ((m + n - 1) / n) := Nat.mul_comm _ _
    omega
  rw [div_le_iff₀ (by exact_mod_cast hn)]
  exact_mod_cast h

/-! ### Operations on enclosures -/

/-- An enclosure at p digits holds a value. -/
def Enclosure.Holds (p : Nat) (x : Enclosure) (a : ℝ) : Prop := (x.lo : ℝ) ≤ a * 10 ^ p ∧ a * 10 ^ p ≤ x.hi

theorem Enclosure.Holds.nonneg (h : x.Holds p a) : 0 ≤ a := by
  have hpos : (0 : ℝ) < 10 ^ p := by positivity
  exact nonneg_of_mul_nonneg_left ((Nat.cast_nonneg x.lo).trans h.1) hpos

theorem holds_zero (p : Nat) : Enclosure.zero.Holds p 0 := by simp [Enclosure.Holds, Enclosure.zero]

theorem Enclosure.Holds.add (h : x.Holds p a) (g : y.Holds p b) : (x.add y).Holds p (a + b) := by
  simp only [Enclosure.Holds, Enclosure.add, Nat.cast_add, add_mul] at *
  exact ⟨add_le_add h.1 g.1, add_le_add h.2 g.2⟩

theorem Enclosure.Holds.sub (h : x.Holds p a) (g : y.Holds p b) (hab : b ≤ a) : (x.sub y).Holds p (a - b) := by
  have hpos : (0 : ℝ) < 10 ^ p := by positivity
  have hle : b * 10 ^ p ≤ a * 10 ^ p := mul_le_mul_of_nonneg_right hab hpos.le
  have hhi : y.lo ≤ x.hi := by exact_mod_cast (g.1.trans hle).trans h.2
  refine ⟨?_, ?_⟩
  · show ((x.lo - y.hi : Nat) : ℝ) ≤ _
    rw [sub_mul]
    by_cases hlo : y.hi ≤ x.lo
    · rw [Nat.cast_sub hlo]
      exact sub_le_sub h.1 g.2
    · rw [Nat.sub_eq_zero_of_le (by omega), Nat.cast_zero]
      linarith
  · show _ ≤ ((x.hi - y.lo : Nat) : ℝ)
    rw [sub_mul, Nat.cast_sub hhi]
    exact sub_le_sub h.2 g.1

theorem Enclosure.Holds.mul (h : x.Holds p a) (g : y.Holds p b) : (x.mul p y).Holds p (a * b) := by
  have hpos : (0 : ℝ) < 10 ^ p := by positivity
  have ha := h.nonneg
  have hb := g.nonneg
  have hprod : a * b * 10 ^ p = (a * 10 ^ p) * (b * 10 ^ p) / 10 ^ p := by field_simp
  refine ⟨?_, ?_⟩
  · refine (Nat.cast_div_le (α := ℝ)).trans ?_
    rw [hprod]
    push_cast
    exact div_le_div_of_nonneg_right (mul_le_mul h.1 g.1 (Nat.cast_nonneg _) (by positivity)) hpos.le
  · refine le_trans ?_ (le_ceilDiv (x.hi * y.hi) (by positivity))
    rw [hprod]
    push_cast
    exact div_le_div_of_nonneg_right (mul_le_mul h.2 g.2 (by positivity) (Nat.cast_nonneg _)) hpos.le

theorem Enclosure.Holds.scale (h : x.Holds p a) (num : Nat) {den : Nat} (hd : 0 < den) :
    (x.scale num den).Holds p (a * num / den) := by
  have hden : (0 : ℝ) < den := by exact_mod_cast hd
  have hprod : a * num / den * 10 ^ p = (a * 10 ^ p) * num / den := by ring
  refine ⟨?_, ?_⟩
  · refine (Nat.cast_div_le (α := ℝ)).trans ?_
    rw [hprod]
    push_cast
    exact div_le_div_of_nonneg_right (mul_le_mul_of_nonneg_right h.1 (Nat.cast_nonneg _)) hden.le
  · refine le_trans ?_ (le_ceilDiv (x.hi * num) hd)
    rw [hprod]
    push_cast
    exact div_le_div_of_nonneg_right (mul_le_mul_of_nonneg_right h.2 (Nat.cast_nonneg _)) hden.le

theorem holds_sum {α : Type} (f : α → Enclosure) (g : α → ℝ) (h : ∀ u, (f u).Holds p (g u)) (us : List α) :
    (Enclosure.sum (us.map f)).Holds p (us.map g).sum := by
  induction us with
  | nil => exact holds_zero p
  | cons u us ih => exact (h u).add ih

theorem Enclosure.Holds.of_eq (h : x.Holds p a) (hab : a = b) : x.Holds p b := hab ▸ h

/-! ### Roots -/

theorem integerRoot_spec {k n bits : Nat} (hk : 0 < k) (hn : n < (2 ^ bits) ^ k) :
    integerRoot k n bits ^ k ≤ n ∧ n < (integerRoot k n bits + 1) ^ k := by
  obtain ⟨h1, h2, h3, h4⟩ := bisect_spec (p := fun y => decide (y.toNat ^ k ≤ n)) (fun a b hab hb =>
    decide_eq_true ((Nat.pow_le_pow_left (by omega) k).trans (of_decide_eq_true hb))) 0 bits
  have hroot := h3 (decide_eq_true (by simp [hk.ne']))
  unfold integerRoot
  generalize bisect (fun y => decide (y.toNat ^ k ≤ n)) 0 bits = r at *
  refine ⟨of_decide_eq_true hroot, ?_⟩
  by_cases hlt : r + 1 < 0 + 2 ^ bits
  · have hno := of_decide_eq_false (h4 (r + 1) (by omega) hlt)
    have hr : (r + 1).toNat = r.toNat + 1 := by omega
    rw [hr] at hno
    omega
  · have hr : r.toNat + 1 = 2 ^ bits := by
      have : ((2 ^ bits : Nat) : Int) = 2 ^ bits := by push_cast; rfl
      omega
    rw [hr]
    exact hn

theorem le_integerRoot {k m n bits : Nat} (hk : 0 < k) (hn : n < (2 ^ bits) ^ k) (hm : m ^ k ≤ n) : m ≤ integerRoot k n bits :=
  Nat.lt_succ_iff.1 (lt_of_pow_lt_pow_left₀ k (Nat.zero_le _) (hm.trans_lt (integerRoot_spec hk hn).2))

/-- An integer root of N, for N the integer part of a value, lies within 1 below the root of the value. -/
theorem integerRoot_real {k n bits : Nat} {v r : ℝ} (hk : 0 < k) (hn : n < (2 ^ bits) ^ k) (hr : 0 ≤ r) (hv : r ^ k = v)
    (hlow : (n : ℝ) ≤ v) (hhigh : v < n + 1) : (integerRoot k n bits : ℝ) ≤ r ∧ r ≤ integerRoot k n bits + 1 := by
  obtain ⟨h1, h2⟩ := integerRoot_spec hk hn
  have h1' : ((integerRoot k n bits : ℝ)) ^ k ≤ n := by exact_mod_cast h1
  have h2' : (n : ℝ) + 1 ≤ ((integerRoot k n bits : ℝ) + 1) ^ k := by exact_mod_cast h2
  refine ⟨le_of_pow_le_pow_left₀ hk.ne' hr ?_, le_of_pow_le_pow_left₀ hk.ne' (by positivity) ?_⟩ <;> rw [hv] <;> linarith

/-- Powers of a value that a root encloses. -/
theorem powerOfRoot_holds {y n : Nat} {r : ℝ} (h1 : (y : ℝ) ≤ r * 10 ^ p) (h2 : r * 10 ^ p ≤ y + 1) (hr : 0 ≤ r) :
    (powerOfRoot p y n).Holds p (r ^ n) := by
  have hpos : (0 : ℝ) < 10 ^ (p * n) := by positivity
  have hprod : r ^ n * 10 ^ p = (r * 10 ^ p) ^ n * 10 ^ p / 10 ^ (p * n) := by
    rw [mul_pow, ← pow_mul]
    field_simp
  refine ⟨?_, ?_⟩
  · refine (Nat.cast_div_le (α := ℝ)).trans ?_
    rw [hprod]
    push_cast
    exact div_le_div_of_nonneg_right (mul_le_mul_of_nonneg_right (pow_le_pow_left₀ (Nat.cast_nonneg _) h1 n) (by positivity)) hpos.le
  · refine le_trans ?_ (le_ceilDiv ((y + 1) ^ n * 10 ^ p) (by positivity))
    rw [hprod]
    push_cast
    exact div_le_div_of_nonneg_right (mul_le_mul_of_nonneg_right (pow_le_pow_left₀ (by positivity) h2 n) (by positivity)) hpos.le

/-- 10 ^ (1000 p + 1) is below the range of the roots taken. -/
theorem root_range (p : Nat) : 10 ^ (1000 * p + 1) < (2 ^ (4 * p + 4)) ^ 1000 := by
  have h1 : 10 ^ (1000 * p + 1) ≤ 16 ^ (1000 * p + 1) := Nat.pow_le_pow_left (by norm_num) _
  have h2 (k : Nat) : (2 ^ (4 * p + 4)) ^ k = 16 ^ (k * p + k) := by
    calc (2 ^ (4 * p + 4)) ^ k = ((2 ^ 4) ^ (p + 1)) ^ k := by rw [← pow_mul 2 4]; rfl
      _ = 16 ^ (k * p + k) := by
        rw [← pow_mul]
        norm_num
        ring
  rw [h2]
  exact h1.trans_lt (Nat.pow_lt_pow_right (by norm_num) (by omega))

theorem rpow_thousandth {q : ℝ} (hq : 0 ≤ q) : (q ^ ((1 : ℝ) / 1000)) ^ 1000 = q := by
  rw [← rpow_natCast, ← rpow_mul hq]
  norm_num

theorem tenRoot_bounds (p : Nat) : (tenRoot p : ℝ) ≤ (10 : ℝ) ^ ((1 : ℝ) / 1000) * 10 ^ p ∧
    (10 : ℝ) ^ ((1 : ℝ) / 1000) * 10 ^ p ≤ tenRoot p + 1 := by
  have hv : ((10 : ℝ) ^ ((1 : ℝ) / 1000) * 10 ^ p) ^ 1000 = ((10 ^ (1000 * p + 1) : Nat) : ℝ) := by
    rw [mul_pow, rpow_thousandth (by norm_num), ← pow_mul]
    push_cast
    ring
  exact integerRoot_real (by norm_num) (root_range p) (by positivity) hv le_rfl (by linarith)

/-- Enclosures of powers of ten (R91). -/
theorem pow10_holds (p : Nat) (e : Int) : (pow10 p e).Holds p ((10 : ℝ) ^ ((e : ℝ) / 1000)) := by
  obtain ⟨h1, h2⟩ := tenRoot_bounds p
  have h := (powerOfRoot_holds (n := (e % 1000).toNat) h1 h2 (by positivity)).scale (10 ^ (e / 1000).toNat)
    (den := 10 ^ (-(e / 1000)).toNat) (by positivity)
  refine h.of_eq ?_
  have hmod : (((e % 1000).toNat : Nat) : ℝ) = ((e % 1000 : Int) : ℝ) := by
    have : (((e % 1000).toNat : Nat) : Int) = e % 1000 := Int.toNat_of_nonneg (Int.emod_nonneg e (by norm_num))
    exact_mod_cast this
  have hdiv : ((e / 1000).toNat : ℝ) - ((-(e / 1000)).toNat : ℝ) = ((e / 1000 : Int) : ℝ) := toNat_sub_toNat_neg _
  have he : (e : ℝ) / 1000 = ((e % 1000 : Int) : ℝ) / 1000 + ((e / 1000 : Int) : ℝ) := by
    have : (e : ℝ) = ((e % 1000 + 1000 * (e / 1000) : Int) : ℝ) := by rw [Int.emod_add_mul_ediv]
    rw [this]
    push_cast
    ring
  push_cast
  rw [← rpow_natCast ((10 : ℝ) ^ ((1 : ℝ) / 1000)), ← rpow_natCast 10 ((e / 1000).toNat), ← rpow_natCast 10 ((-(e / 1000)).toNat),
    ← rpow_mul (by norm_num), ← rpow_add (by norm_num), ← rpow_sub (by norm_num), he, hmod, ← hdiv]
  congr 1
  ring

/-! ### Powers of rationals from 1 to 10 -/

/-- The range in which a quotient is taken to a power: from 1 to 10. -/
structure InDecade (num den : Nat) : Prop where
  pos : 0 < den
  low : den ≤ num
  high : num ≤ 10 * den

theorem rationalRoot_range {num den : Nat} (h : InDecade num den) (p : Nat) :
    num * 10 ^ (1000 * p) / den < (2 ^ (4 * p + 4)) ^ 1000 := by
  refine lt_of_le_of_lt (Nat.div_le_of_le_mul ?_) (root_range p)
  calc num * 10 ^ (1000 * p) ≤ 10 * den * 10 ^ (1000 * p) := Nat.mul_le_mul_right _ h.high
    _ = den * 10 ^ (1000 * p + 1) := by ring

theorem rationalRoot_bounds {num den : Nat} (h : InDecade num den) (p : Nat) :
    (rationalRoot p num den : ℝ) ≤ ((num : ℝ) / den) ^ ((1 : ℝ) / 1000) * 10 ^ p ∧
      ((num : ℝ) / den) ^ ((1 : ℝ) / 1000) * 10 ^ p ≤ rationalRoot p num den + 1 := by
  have hden : (0 : ℝ) < den := by exact_mod_cast h.pos
  have hv : (((num : ℝ) / den) ^ ((1 : ℝ) / 1000) * 10 ^ p) ^ 1000 = ((num * 10 ^ (1000 * p) : Nat) : ℝ) / den := by
    rw [mul_pow, rpow_thousandth (by positivity), ← pow_mul]
    push_cast
    rw [mul_comm p]
    ring
  refine integerRoot_real (by norm_num) (rationalRoot_range h p) (by positivity) hv (Nat.cast_div_le (α := ℝ)) ?_
  rw [div_lt_iff₀ hden]
  have := Nat.lt_mul_div_succ (num * 10 ^ (1000 * p)) h.pos
  have hcast : ((num * 10 ^ (1000 * p) : Nat) : ℝ) < ((den * (num * 10 ^ (1000 * p) / den + 1) : Nat) : ℝ) := by exact_mod_cast this
  push_cast at hcast ⊢
  linarith

theorem inv_holds (h : x.Holds p a) (hx : 0 < x.lo) :
    (⟨10 ^ (2 * p) / x.hi, ceilDiv (10 ^ (2 * p)) x.lo⟩ : Enclosure).Holds p a⁻¹ := by
  have hlo : (0 : ℝ) < x.lo := by exact_mod_cast hx
  have hpos : (0 : ℝ) < 10 ^ p := by positivity
  have hap : 0 < a * 10 ^ p := hlo.trans_le h.1
  have ha : 0 < a := pos_of_mul_pos_left hap hpos.le
  have hinv : a⁻¹ * 10 ^ p = 10 ^ (2 * p) / (a * 10 ^ p) := by
    rw [two_mul, pow_add]
    field_simp
  refine ⟨?_, ?_⟩
  · refine (Nat.cast_div_le (α := ℝ)).trans ?_
    rw [hinv]
    push_cast
    exact div_le_div_of_nonneg_left (by positivity) hap h.2
  · refine le_trans ?_ (le_ceilDiv (10 ^ (2 * p)) hx)
    rw [hinv]
    push_cast
    exact div_le_div_of_nonneg_left (by positivity) hlo h.1

theorem powerOfRoot_lo_pos {y : Nat} (hy : 10 ^ p ≤ y) (n : Nat) : 0 < (powerOfRoot p y n).lo := by
  refine Nat.div_pos ?_ (by positivity)
  rw [pow_mul]
  calc (10 ^ p) ^ n ≤ y ^ n := Nat.pow_le_pow_left hy n
    _ ≤ y ^ n * 10 ^ p := Nat.le_mul_of_pos_right _ (by positivity)

/-- Enclosures of powers of a rational from 1 to 10 (R112). -/
theorem powRational_holds {num den : Nat} (h : InDecade num den) (p : Nat) (d : Int) :
    (powRational p num den d).Holds p (((num : ℝ) / den) ^ ((d : ℝ) / 1000)) := by
  obtain ⟨h1, h2⟩ := rationalRoot_bounds h p
  have hden : (0 : ℝ) < den := by exact_mod_cast h.pos
  have hq1 : (1 : ℝ) ≤ (num : ℝ) / den := (one_le_div hden).2 (by exact_mod_cast h.low)
  have hq : (0 : ℝ) ≤ (num : ℝ) / den := by linarith
  have hx := powerOfRoot_holds (n := d.natAbs) h1 h2 (by positivity)
  rw [← rpow_natCast, ← rpow_mul hq] at hx
  unfold powRational
  dsimp only
  split
  · next hd =>
    refine hx.of_eq (congrArg _ ?_)
    have : ((d.natAbs : Nat) : ℝ) = d := by rw [Nat.cast_natAbs, abs_of_nonneg hd]
    rw [this]
    ring
  · next hd =>
    have hy : 10 ^ p ≤ rationalRoot p num den := by
      refine le_integerRoot (by norm_num) (rationalRoot_range h p) ?_
      rw [Nat.le_div_iff_mul_le h.pos, ← pow_mul, mul_comm p, mul_comm]
      exact Nat.mul_le_mul_right _ h.low
    refine (inv_holds hx (powerOfRoot_lo_pos hy _)).of_eq ?_
    rw [← rpow_neg hq]
    have : ((d.natAbs : Nat) : ℝ) = -d := by rw [Nat.cast_natAbs, abs_of_neg (not_le.1 hd), Int.cast_neg]
    rw [this]
    congr 1
    ring

end

end Sys2Proof.Machine

/-! PROOFS. The enclosures of natural logarithms (R113) and of π (R116): each series step by step, with what it leaves out. -/

namespace Sys2Proof.Machine

open Real

section
variable {p : Nat}

/-- The enclosure of a quotient of natural numbers. -/
theorem quotient_holds (p m : Nat) {n : Nat} (hn : 0 < n) :
    (⟨m * 10 ^ p / n, ceilDiv (m * 10 ^ p) n⟩ : Enclosure).Holds p ((m : ℝ) / n) := by
  have hprod : (m : ℝ) / n * 10 ^ p = ((m * 10 ^ p : Nat) : ℝ) / n := by push_cast; ring
  rw [Enclosure.Holds, hprod]
  exact ⟨Nat.cast_div_le, le_ceilDiv _ hn⟩

/-- A series without its first term. -/
theorem hasSum_tail {f g : ℕ → ℝ} {S : ℝ} (hS : HasSum f S) (hg : ∀ k, g k = f (k + 1)) : HasSum g (S - f 0) := by
  have h := (hasSum_nat_add_iff' 1).2 hS
  rw [Finset.sum_range_one] at h
  rwa [funext hg]

/-! ### Natural logarithms -/

/-- The series of ln from the odd power `u` of z on holds its sum: the terms left out add to at most 7 u. -/
theorem logSeries_holds {zz t : Enclosure} {z u S : ℝ} (hz : zz.Holds p z) (h1 : z ≤ (9 / 11) ^ 2) (n : Nat) {odd : Nat}
    (hodd : 1 ≤ odd) (ht : t.Holds p u) (hS : HasSum (fun k : ℕ => 2 * u * z ^ k / ((odd : ℝ) + 2 * k)) S) :
    (logSeries p zz n odd t).Holds p S := by
  have hz0 := hz.nonneg
  induction n generalizing odd t u S with
  | zero =>
    have hu := ht.nonneg
    have hodd' : (1 : ℝ) ≤ odd := by exact_mod_cast hodd
    have hle : S ≤ 7 * u := by
      have hgeo := (hasSum_geometric_of_lt_one hz0 (h1.trans_lt (by norm_num))).mul_left (2 * u)
      refine (hasSum_le (fun k => div_le_self (by positivity) (by linarith [Nat.cast_nonneg (α := ℝ) k])) hS hgeo).trans ?_
      have hinv : (1 - z)⁻¹ ≤ 7 / 2 := by
        rw [inv_le_comm₀ (by linarith) (by norm_num)]
        linarith
      nlinarith [mul_le_mul_of_nonneg_left hinv hu]
    refine ⟨?_, ?_⟩
    · have := hS.nonneg (fun k => by positivity)
      simp only [logSeries, Nat.cast_zero]
      positivity
    · calc S * 10 ^ p ≤ 7 * u * 10 ^ p := mul_le_mul_of_nonneg_right hle (by positivity)
        _ = 7 * (u * 10 ^ p) := by ring
        _ ≤ 7 * t.hi := mul_le_mul_of_nonneg_left ht.2 (by norm_num)
        _ = ((7 * t.hi : Nat) : ℝ) := by push_cast; rfl
  | succ n ih =>
    have hrest : HasSum (fun k : ℕ => 2 * (u * z) * z ^ k / (((odd + 2 : Nat) : ℝ) + 2 * k)) _ := hasSum_tail hS fun k => by
      push_cast
      rw [show (odd : ℝ) + 2 * (k + 1) = odd + 2 + 2 * k by ring]
      ring
    have hterm := ih (by omega) (ht.mul hz) hrest
    refine ((ht.scale 2 (by omega : 0 < odd)).add hterm).of_eq ?_
    push_cast
    rw [pow_zero]
    ring

/-- Enclosures of the logarithm of a rational from 1 to 10 (R113). -/
theorem lnRational_holds {num den : Nat} (h : InDecade num den) (p : Nat) : (lnRational p num den).Holds p (log ((num : ℝ) / den)) := by
  have hden : (0 : ℝ) < den := by exact_mod_cast h.pos
  have hlow : (den : ℝ) ≤ num := by exact_mod_cast h.low
  have hhigh : (num : ℝ) ≤ 10 * den := by exact_mod_cast h.high
  have hsum : (0 : ℝ) < num + den := by linarith
  obtain ⟨z, hz⟩ : ∃ z : ℝ, z = ((num : ℝ) - den) / (num + den) := ⟨_, rfl⟩
  have hz0 : 0 ≤ z := hz ▸ div_nonneg (by linarith) hsum.le
  have hz1 : z ≤ 9 / 11 := by
    rw [hz, div_le_iff₀ hsum]
    linarith
  have hlog : log (1 + z) - log (1 - z) = log ((num : ℝ) / den) := by
    have hplus : 1 + z = 2 * num / (num + den) := by
      rw [hz]
      field_simp
      ring
    have hminus : 1 - z = 2 * den / (num + den) := by
      rw [hz]
      field_simp
      ring
    rw [← log_div (by linarith) (by linarith), hplus, hminus, div_div_div_cancel_right₀ hsum.ne',
      mul_div_mul_left _ _ two_ne_zero]
  have hseries := hasSum_log_sub_log_of_abs_lt_one (abs_lt.2 ⟨by linarith, by linarith⟩ : |z| < 1)
  rw [hlog] at hseries
  have hzH : (⟨(num - den) * 10 ^ p / (num + den), ceilDiv ((num - den) * 10 ^ p) (num + den)⟩ : Enclosure).Holds p z := by
    refine (quotient_holds p (num - den) (by have := h.pos; omega)).of_eq ?_
    rw [hz, Nat.cast_sub h.low]
    push_cast
    rfl
  refine logSeries_holds (hzH.mul hzH) (by nlinarith) (6 * p) le_rfl hzH ?_
  convert hseries using 2 with k
  push_cast
  rw [pow_succ, pow_mul, pow_two]
  ring

/-! ### π -/

/-- The term of the series of arctan(1 / m) at an odd power. -/
noncomputable def arctanSummand (m odd : Nat) : ℝ := 1 / (odd * m ^ odd)

theorem arctanTerm_holds (p : Nat) {m odd : Nat} (hm : 0 < m) (hodd : 0 < odd) :
    (arctanTerm p m odd).Holds p (arctanSummand m odd) := by
  have h := quotient_holds p 1 (n := odd * m ^ odd) (by positivity)
  rw [one_mul] at h
  refine h.of_eq ?_
  push_cast
  rfl

theorem arctanSummand_antitone {m : Nat} (hm : 1 ≤ m) {odd : Nat} (hodd : 0 < odd) :
    Antitone fun k : ℕ => arctanSummand m (odd + 2 * k) := by
  refine fun a b hab => one_div_le_one_div_of_le ?_ ?_
  · have : 0 < (odd + 2 * a) * m ^ (odd + 2 * a) := by positivity
    exact_mod_cast this
  · have : (odd + 2 * a) * m ^ (odd + 2 * a) ≤ (odd + 2 * b) * m ^ (odd + 2 * b) :=
      Nat.mul_le_mul (by omega) (Nat.pow_le_pow_right hm (by omega))
    exact_mod_cast this

/-- What is left of an alternating arctan series holds its sum, which lies between 0 and its first term. -/
theorem arctanRest_holds {m : Nat} (hm : 1 ≤ m) (n : Nat) {odd : Nat} (hodd : 0 < odd) {S : ℝ}
    (hS : HasSum (fun k : ℕ => (-1) ^ k * arctanSummand m (odd + 2 * k)) S) :
    (arctanRest p m n odd).Holds p S ∧ 0 ≤ S ∧ S ≤ arctanSummand m odd := by
  have hmono := arctanSummand_antitone hm hodd
  have h0 : 0 ≤ S := by simpa using hmono.alternating_series_le_tendsto hS.tendsto_sum_nat 0
  have h1 : S ≤ arctanSummand m odd := by simpa using hmono.tendsto_le_alternating_series hS.tendsto_sum_nat 0
  refine ⟨?_, h0, h1⟩
  have hterm := arctanTerm_holds p hm hodd
  induction n generalizing odd S with
  | zero =>
    refine ⟨?_, ?_⟩
    · simp only [arctanRest, Nat.cast_zero]
      positivity
    · exact (mul_le_mul_of_nonneg_right h1 (by positivity)).trans hterm.2
  | succ n ih =>
    have hodd2 : 0 < odd + 2 := by omega
    have hmono2 := arctanSummand_antitone hm hodd2
    have hrest : HasSum (fun k : ℕ => (-1) ^ k * arctanSummand m (odd + 2 + 2 * k)) (arctanSummand m odd - S) := by
      have h := hasSum_tail hS.neg (g := fun k => (-1) ^ k * arctanSummand m (odd + 2 + 2 * k)) fun k => by
        rw [pow_succ, show odd + 2 + 2 * k = odd + 2 * (k + 1) by omega]
        ring
      rw [show arctanSummand m odd - S = -S - -((-1) ^ 0 * arctanSummand m (odd + 2 * 0)) by simp; ring]
      exact h
    have hr0 : 0 ≤ arctanSummand m odd - S := by linarith
    have hr1 : arctanSummand m odd - S ≤ arctanSummand m (odd + 2) := by
      simpa using hmono2.tendsto_le_alternating_series hrest.tendsto_sum_nat 0
    have hH := ih hodd2 hrest hmono2 hr0 hr1 (arctanTerm_holds p hm hodd2)
    exact (hterm.sub hH (by linarith)).of_eq (by ring)

theorem arctanSeries_holds (p : Nat) {m : Nat} (hm : 2 ≤ m) (n : Nat) : (arctanRest p m n 1).Holds p (arctan (m : ℝ)⁻¹) := by
  have hm' : (1 : ℝ) < m := by exact_mod_cast hm
  have hlt : ‖(m : ℝ)⁻¹‖ < 1 := by
    rw [norm_eq_abs, abs_of_pos (by positivity)]
    exact inv_lt_one_of_one_lt₀ hm'
  refine (arctanRest_holds (by omega) n (by omega) ?_).1
  convert hasSum_arctan hlt using 2 with k
  rw [arctanSummand, inv_pow]
  push_cast
  rw [add_comm (2 * k) 1]
  field_simp
  ring

/-- Enclosures of π (R116). -/
theorem piEnclosure_holds (p : Nat) : (piEnclosure p).Holds p π := by
  have hmachin := four_mul_arctan_inv_5_sub_arctan_inv_239
  have h5 := (arctanSeries_holds p (m := 5) (by norm_num) p).scale 16 one_pos
  have h239 := (arctanSeries_holds p (m := 239) (by norm_num) p).scale 4 one_pos
  push_cast at h5 h239
  refine (h5.sub h239 ?_).of_eq ?_
  · linarith [pi_pos]
  · linarith

theorem arctanRest_hi_le (p m n odd : Nat) : (arctanRest p m n odd).hi ≤ (arctanTerm p m odd).hi := by
  cases n with
  | zero => exact le_rfl
  | succ n => exact Nat.sub_le _ _

/-- From a few digits on, the lower end for π is not 0. -/
theorem piEnclosure_lo_pos {p : Nat} (hp : 4 ≤ p) : 0 < (piEnclosure p).lo := by
  obtain ⟨n, rfl⟩ : ∃ n, p = n + 1 := ⟨p - 1, by omega⟩
  have hN : 10 ^ 4 ≤ 10 ^ (n + 1) := Nat.pow_le_pow_right (by norm_num) hp
  have h5 := arctanRest_hi_le (n + 1) 5 n 3
  have h239 := arctanRest_hi_le (n + 1) 239 (n + 1) 1
  simp only [arctanTerm, ceilDiv] at h5 h239
  simp only [piEnclosure, Enclosure.sub, Enclosure.scale, ceilDiv]
  rw [arctanRest]
  simp only [Enclosure.sub, arctanTerm]
  generalize 10 ^ (n + 1) = N at *
  generalize (arctanRest (n + 1) 239 (n + 1) 1).hi = x at *
  generalize (arctanRest (n + 1) 5 n (1 + 2)).hi = y at *
  omega

end

end Sys2Proof.Machine

/-! PROOFS. The integral of a segment's power law between two edges, and the enclosure the model takes of it (R112, R113). -/

namespace Sys2Proof.Machine

open Real

/-! ### The grid and the power law of a segment -/

/-- A grid point, in Hz (R82). -/
noncomputable def gridFreq (i : Nat) : ℝ := 10 ^ (1 + (i : ℝ) / 10)

/-- The density of the segment from a grid point with ends ea and eb (R112). -/
noncomputable def segmentDensity (i : Nat) (ea eb : Int) (f : ℝ) : ℝ :=
  10 ^ ((ea : ℝ) / 1000) * (f / gridFreq i) ^ (((eb : ℝ) - ea) / 100)

section
variable {p i f : Nat} {ea eb : Int} {u v : ℝ}

theorem gridFreq_pos (i : Nat) : 0 < gridFreq i := rpow_pos_of_pos (by norm_num) _

theorem gridFreq_lt_iff {i j : Nat} : gridFreq i < gridFreq j ↔ i < j := by
  rw [gridFreq, gridFreq, rpow_lt_rpow_left_iff (by norm_num), ← @Nat.cast_lt ℝ]
  constructor <;> intro h <;> linarith

theorem gridFreq_pow_ten (i : Nat) : gridFreq i ^ 10 = 10 ^ (10 + i) := by
  rw [gridFreq, ← rpow_natCast, ← rpow_mul (by norm_num), ← rpow_natCast]
  congr 1
  push_cast
  ring

theorem gridFreq_succ_div (i : Nat) : gridFreq (i + 1) / gridFreq i = 10 ^ ((1 : ℝ) / 10) := by
  rw [gridFreq, gridFreq, ← rpow_sub (by norm_num)]
  congr 1
  push_cast
  ring

theorem gridFreq_le_cast (i f : Nat) : gridFreq i ≤ f ↔ 10 ^ (10 + i) ≤ f ^ 10 := by
  rw [← pow_le_pow_iff_left₀ (gridFreq_pos i).le (Nat.cast_nonneg f) (n := 10) (by norm_num), gridFreq_pow_ten]
  exact_mod_cast Iff.rfl

theorem cast_le_gridFreq (i f : Nat) : (f : ℝ) ≤ gridFreq i ↔ f ^ 10 ≤ 10 ^ (10 + i) := by
  rw [← pow_le_pow_iff_left₀ (Nat.cast_nonneg f) (gridFreq_pos i).le (n := 10) (by norm_num), gridFreq_pow_ten]
  exact_mod_cast Iff.rfl

theorem ratio_pow_ten (i f : Nat) : (((f ^ 10 : Nat) : ℝ) / ((10 ^ (10 + i) : Nat) : ℝ)) = (f / gridFreq i) ^ 10 := by
  rw [div_pow, gridFreq_pow_ten]
  push_cast
  rfl

/-! ### The edges of an integrated part -/

/-- Where an edge lies, in Hz. -/
noncomputable def Edge.freq (i : Nat) : Edge → ℝ
  | .left => gridFreq i
  | .right => gridFreq (i + 1)
  | .hz f => f

/-- Whether an edge of the jitter band lies within a segment. -/
def Edge.Within (i : Nat) : Edge → Prop
  | .left => True
  | .right => True
  | .hz f => InDecade (f ^ 10) (10 ^ (10 + i))

theorem Edge.freq_bounds {x : Edge} (h : x.Within i) : gridFreq i ≤ x.freq i ∧ x.freq i ≤ gridFreq (i + 1) := by
  have hnext : gridFreq i ≤ gridFreq (i + 1) := (gridFreq_lt_iff.2 i.lt_succ_self).le
  cases x with
  | left => exact ⟨le_rfl, hnext⟩
  | right => exact ⟨hnext, le_rfl⟩
  | hz f =>
    refine ⟨(gridFreq_le_cast i f).2 h.low, (cast_le_gridFreq (i + 1) f).2 (h.high.trans_eq ?_)⟩
    rw [← add_assoc, pow_succ, mul_comm]

theorem Edge.freq_pos {x : Edge} (h : x.Within i) : 0 < x.freq i := (gridFreq_pos i).trans_le (freq_bounds h).1

/-- S(f) × f at an edge is enclosed (R112). -/
theorem densityTimesF_holds (p : Nat) (ea eb : Int) {x : Edge} (h : x.Within i) :
    (densityTimesF p i ea eb x).Holds p (segmentDensity i ea eb (x.freq i) * x.freq i) := by
  have hg := gridFreq_pos i
  cases x with
  | left =>
    refine (pow10_holds p (ea + 1000 + 100 * i)).of_eq ?_
    rw [segmentDensity, Edge.freq, div_self hg.ne', one_rpow, mul_one, gridFreq, ← rpow_add (by norm_num)]
    congr 1
    push_cast
    ring
  | right =>
    refine (pow10_holds p (eb + 1000 + 100 * (i + 1))).of_eq ?_
    rw [segmentDensity, Edge.freq, gridFreq_succ_div, gridFreq, ← rpow_mul (by norm_num), ← rpow_add (by norm_num),
      ← rpow_add (by norm_num)]
    congr 1
    push_cast
    ring
  | hz f =>
    refine ((((pow10_holds p ea).mul (powRational_holds h p (eb - ea))).scale f one_pos)).of_eq ?_
    rw [segmentDensity, Edge.freq, ratio_pow_ten, ← rpow_natCast, ← rpow_mul (by positivity), Nat.cast_one, div_one]
    congr 3
    push_cast
    ring

/-- ln(f / f_a) at an edge is enclosed (R113). -/
theorem logOverLeft_holds (p : Nat) {x : Edge} (h : x.Within i) : (logOverLeft p i x).Holds p (log (x.freq i / gridFreq i)) := by
  have hg := gridFreq_pos i
  cases x with
  | left =>
    refine (holds_zero p).of_eq ?_
    rw [Edge.freq, div_self hg.ne', log_one]
  | right =>
    refine ((lnRational_holds (num := 10) (den := 1) ⟨one_pos, by norm_num, by norm_num⟩ p).scale 1 (den := 10) (by norm_num)).of_eq ?_
    rw [Edge.freq, gridFreq_succ_div, log_rpow (by norm_num)]
    push_cast
    ring_nf
  | hz f =>
    refine ((lnRational_holds h p).scale 1 (den := 10) (by norm_num)).of_eq ?_
    rw [Edge.freq, ratio_pow_ten, log_pow]
    push_cast
    ring

/-! ### The integral of a power law -/

/-- The power law over the frequency itself, for positive frequencies. -/
theorem segmentDensity_eq (hu : 0 < u) : segmentDensity i ea eb u =
    10 ^ ((ea : ℝ) / 1000) / gridFreq i ^ (((eb : ℝ) - ea) / 100) * u ^ (((eb : ℝ) - ea) / 100) := by
  rw [segmentDensity, div_rpow hu.le (gridFreq_pos i).le]
  ring

theorem segmentDensity_pos (hu : 0 < u) : 0 < segmentDensity i ea eb u :=
  mul_pos (by positivity) (rpow_pos_of_pos (div_pos hu (gridFreq_pos i)) _)

theorem mem_uIcc_pos (hu : 0 < u) (hv : 0 < v) {f : ℝ} (hf : f ∈ Set.uIcc u v) : 0 < f :=
  (lt_min hu hv).trans_le hf.1

theorem integral_density_eq (hu : 0 < u) (hv : 0 < v) : ∫ f in u..v, segmentDensity i ea eb f =
    10 ^ ((ea : ℝ) / 1000) / gridFreq i ^ (((eb : ℝ) - ea) / 100) * ∫ f in u..v, f ^ (((eb : ℝ) - ea) / 100) := by
  rw [← intervalIntegral.integral_const_mul]
  exact intervalIntegral.integral_congr fun f hf => segmentDensity_eq (mem_uIcc_pos hu hv hf)

/-- The power form (R113). -/
theorem integral_density_power (hu : 0 < u) (hv : 0 < v) (hd : (eb : ℝ) - ea + 100 ≠ 0) :
    ∫ f in u..v, segmentDensity i ea eb f =
      (segmentDensity i ea eb v * v - segmentDensity i ea eb u * u) * 100 / ((eb : ℝ) - ea + 100) := by
  have hb : ((eb : ℝ) - ea) / 100 ≠ -1 := fun h => hd (by linarith)
  have hb1 : ((eb : ℝ) - ea) / 100 + 1 ≠ 0 := fun h => hb (by linarith)
  have hmem : (0 : ℝ) ∉ Set.uIcc u v := fun h => lt_irrefl _ (mem_uIcc_pos hu hv h)
  rw [integral_density_eq hu hv, integral_rpow (.inr ⟨hb, hmem⟩), segmentDensity_eq hu, segmentDensity_eq hv,
    rpow_add_one hu.ne', rpow_add_one hv.ne', show (eb : ℝ) - ea + 100 = (((eb : ℝ) - ea) / 100 + 1) * 100 by ring]
  field_simp

/-- The logarithmic form (R113). -/
theorem integral_density_log (hu : 0 < u) (hv : 0 < v) (hd : (eb : ℝ) - ea + 100 = 0) :
    ∫ f in u..v, segmentDensity i ea eb f =
      segmentDensity i ea eb (gridFreq i) * gridFreq i * (log (v / gridFreq i) - log (u / gridFreq i)) := by
  have hg := gridFreq_pos i
  have hb : ((eb : ℝ) - ea) / 100 = -1 := by linarith
  rw [integral_density_eq hu hv, segmentDensity_eq hg, hb]
  simp only [rpow_neg_one]
  rw [integral_inv_of_pos hu hv, log_div hv.ne' hu.ne', log_div hv.ne' hg.ne', log_div hu.ne' hg.ne']
  field_simp
  ring

theorem integral_density_nonneg (hu : 0 < u) (huv : u ≤ v) : 0 ≤ ∫ f in u..v, segmentDensity i ea eb f :=
  intervalIntegral.integral_nonneg huv fun _ hf => (segmentDensity_pos (hu.trans_le hf.1)).le

/-- The model's enclosure of the integral of a segment between two edges (R113). -/
theorem segmentIntegral_holds (p : Nat) (ea eb : Int) {x y : Edge} (hx : x.Within i) (hy : y.Within i)
    (hxy : x.freq i ≤ y.freq i) :
    (segmentIntegral p i ea eb x y).Holds p (∫ f in x.freq i..y.freq i, segmentDensity i ea eb f) := by
  have hu := Edge.freq_pos hx
  have hv := Edge.freq_pos hy
  have hg := gridFreq_pos i
  have hgx := densityTimesF_holds p ea eb hx
  have hgy := densityTimesF_holds p ea eb hy
  have hpos := integral_density_nonneg (i := i) (ea := ea) (eb := eb) hu hxy
  have hcast : ((eb - ea + 100 : Int) : ℝ) = (eb : ℝ) - ea + 100 := by push_cast; rfl
  rw [segmentIntegral]
  split
  · next hd =>
    rw [integral_density_log hu hv (by rw [← hcast, hd, Int.cast_zero])]
    have hlog : log (x.freq i / gridFreq i) ≤ log (y.freq i / gridFreq i) :=
      log_le_log (div_pos hu hg) (div_le_div_of_nonneg_right hxy hg.le)
    exact (densityTimesF_holds p ea eb (x := .left) trivial).mul ((logOverLeft_holds p hy).sub (logOverLeft_holds p hx) hlog)
  · next hd =>
    have hpower := integral_density_power (i := i) hu hv (by rw [← hcast]; exact_mod_cast hd)
    rw [hpower] at hpos ⊢
    split
    · next hd0 =>
      have hdr : (0 : ℝ) < (eb : ℝ) - ea + 100 := by rw [← hcast]; exact_mod_cast hd0
      have hle : segmentDensity i ea eb (x.freq i) * x.freq i ≤ segmentDensity i ea eb (y.freq i) * y.freq i := by
        rw [le_div_iff₀ hdr] at hpos
        linarith
      refine ((hgy.sub hgx hle).scale 100 (den := (eb - ea + 100).toNat) (by omega)).of_eq ?_
      have hden : (((eb - ea + 100).toNat : Nat) : ℝ) = (eb : ℝ) - ea + 100 := by
        rw [← hcast]
        exact_mod_cast Int.toNat_of_nonneg hd0.le
      rw [hden]
      push_cast
      rfl
    · next hd0 =>
      have hdr : (eb : ℝ) - ea + 100 < 0 := by
        rw [← hcast]
        exact_mod_cast lt_of_le_of_ne (not_lt.1 hd0) hd
      have hle : segmentDensity i ea eb (y.freq i) * y.freq i ≤ segmentDensity i ea eb (x.freq i) * x.freq i := by
        rw [le_div_iff_of_neg hdr] at hpos
        linarith
      refine ((hgx.sub hgy hle).scale 100 (den := (-(eb - ea + 100)).toNat) (by omega)).of_eq ?_
      have hden : (((-(eb - ea + 100)).toNat : Nat) : ℝ) = -((eb : ℝ) - ea + 100) := by
        rw [← hcast, ← Int.cast_neg]
        exact_mod_cast Int.toNat_of_nonneg (a := -(eb - ea + 100)) (by omega)
      rw [hden, div_neg]
      push_cast
      ring

end

end Sys2Proof.Machine

/-! PROOFS. The grid points a jitter band uses (R111) and its integrated power: the enclosure and a range (R114). -/

namespace Sys2Proof.Machine

open Real

/-! ### The points used -/

/-- The grid points of a jitter band: the last at or below its lower edge, and the first at or above its upper one (R111). -/
structure JitterBand.Covers (b : JitterBand) (low high : Nat) : Prop where
  edges : b.fLo < b.fHi
  order : low < high
  last : high ≤ 60
  lowAtMost : 10 ^ (10 + low) ≤ b.fLo ^ 10
  lowNext : b.fLo ^ 10 < 10 ^ (10 + low + 1)
  highAtLeast : b.fHi ^ 10 ≤ 10 ^ (10 + high)
  highBefore : 10 ^ (10 + high - 1) < b.fHi ^ 10

theorem mem_filter_range {n i : Nat} {q : Nat → Bool} : i ∈ (List.range n).filter q ↔ i < n ∧ q i = true := by simp

theorem filter_range_sorted (n : Nat) (q : Nat → Bool) : ((List.range n).filter q).Pairwise (· < ·) :=
  List.pairwise_lt_range.filter q

/-- The last number of a range that a test passes. -/
theorem getLastD_filter_range {n i d : Nat} {q : Nat → Bool} (hi : i < n) (hq : q i = true) :
    let k := ((List.range n).filter q).getLastD d
    k < n ∧ q k = true ∧ ∀ j, j < n → q j = true → j ≤ k := by
  dsimp only
  have hne : (List.range n).filter q ≠ [] := List.ne_nil_of_mem (mem_filter_range.2 ⟨hi, hq⟩)
  rw [List.getLastD_eq_getLast?, List.getLast?_eq_some_getLast hne, Option.getD_some]
  obtain ⟨h1, h2⟩ := mem_filter_range.1 (List.getLast_mem hne)
  exact ⟨h1, h2, fun j hj hqj => ((filter_range_sorted n q).imp le_of_lt).rel_getLast (mem_filter_range.2 ⟨hj, hqj⟩)⟩

/-- The first number of a range that a test passes. -/
theorem headD_filter_range {n i d : Nat} {q : Nat → Bool} (hi : i < n) (hq : q i = true) :
    let k := ((List.range n).filter q).headD d
    k < n ∧ q k = true ∧ ∀ j, j < n → q j = true → k ≤ j := by
  dsimp only
  have hne : (List.range n).filter q ≠ [] := List.ne_nil_of_mem (mem_filter_range.2 ⟨hi, hq⟩)
  rw [List.headD_eq_head?_getD, List.head?_eq_some_head hne, Option.getD_some]
  obtain ⟨h1, h2⟩ := mem_filter_range.1 (List.head_mem hne)
  exact ⟨h1, h2, fun j hj hqj => ((filter_range_sorted n q).imp le_of_lt).rel_head (mem_filter_range.2 ⟨hj, hqj⟩)⟩

/-- The model's indexes are those of R111. -/
theorem covers_indexes {b : JitterBand} (h10 : 10 ≤ b.fLo) (hlt : b.fLo < b.fHi) (hmax : b.fHi ≤ 10000000) :
    b.Covers (lowIndex b.fLo) (highIndex b.fHi) := by
  have hedges : b.fLo ^ 10 < b.fHi ^ 10 := Nat.pow_lt_pow_left hlt (by norm_num)
  have htop : b.fHi ^ 10 ≤ 10 ^ (10 + 60) := (Nat.pow_le_pow_left hmax 10).trans_eq (by norm_num)
  have hbottom : 10 ^ (10 + 0) ≤ b.fLo ^ 10 := Nat.pow_le_pow_left h10 10
  obtain ⟨hl60, hlow, hlmax⟩ := getLastD_filter_range (n := 61) (d := 0) (q := fun i => gridAtMost i b.fLo) (i := 0) (by norm_num)
    (decide_eq_true hbottom)
  obtain ⟨hh60, hhigh, hhmin⟩ := headD_filter_range (n := 61) (d := 60) (q := fun i => gridAtLeast i b.fHi) (i := 60) (by norm_num)
    (decide_eq_true htop)
  have hlow := of_decide_eq_true hlow
  have hhigh := of_decide_eq_true hhigh
  have horder : lowIndex b.fLo < highIndex b.fHi := by
    have := (Nat.pow_lt_pow_iff_right (by norm_num : 1 < 10)).1 ((hlow.trans_lt hedges).trans_le hhigh)
    exact Nat.lt_of_add_lt_add_left this
  refine ⟨hlt, horder, Nat.lt_succ_iff.1 hh60, hlow, ?_, hhigh, ?_⟩
  · by_contra hno
    have hnext := hlmax (lowIndex b.fLo + 1) (by unfold lowIndex highIndex at *; omega) (decide_eq_true (not_lt.1 hno))
    unfold lowIndex at hnext
    omega
  · rcases Nat.eq_zero_or_pos (highIndex b.fHi) with hz | hz
    · omega
    · by_contra hno
      have hprev := hhmin (highIndex b.fHi - 1) (by unfold highIndex at *; omega) (decide_eq_true (by
        rw [← Nat.add_sub_assoc hz]
        exact not_lt.1 hno))
      unfold highIndex at hprev hz
      omega

theorem mem_pointsUsed {b : JitterBand} {i : Nat} (h : highIndex b.fHi ≤ 60) :
    i ∈ pointsUsed b ↔ lowIndex b.fLo ≤ i ∧ i ≤ highIndex b.fHi := by
  rw [pointsUsed, mem_filter_range, Bool.and_eq_true, decide_eq_true_iff, decide_eq_true_iff]
  exact ⟨fun h => h.2, fun h => ⟨by omega, h⟩⟩

/-! ### The noise part -/

/-- The noise of the part of a segment in a jitter band (R114). -/
noncomputable def partNoise (b : JitterBand) (e : Nat → Int) (i : Nat) : ℝ :=
  ∫ f in max (gridFreq i) b.fLo..min (gridFreq (i + 1)) b.fHi, segmentDensity i (e i) (e (i + 1)) f

/-- The power of the spurs in a jitter band (R114). -/
noncomputable def spurPower (b : JitterBand) (spurs : List Spur) : ℝ :=
  ((coveredSpurs b spurs).map fun u => (10 : ℝ) ^ ((u.level : ℝ) / 1000)).sum

/-- The integrated power of a jitter entry (R114). -/
noncomputable def jitterPower (b : JitterBand) (e : Nat → Int) (spurs : List Spur) (low high : Nat) : ℝ :=
  (∑ i ∈ Finset.Ico low high, partNoise b e i) + spurPower b spurs

section
variable {b : JitterBand} {low high i : Nat} {e : Nat → Int}

/-- The edges of the part of a segment that the model integrates. -/
def lowerEdge (b : JitterBand) (i : Nat) : Edge := if gridAtMost i b.fLo then .hz b.fLo else .left

def upperEdge (b : JitterBand) (i : Nat) : Edge := if gridAtLeast (i + 1) b.fHi then .hz b.fHi else .right

theorem lowerEdge_within (hc : b.Covers low high) (hi : low ≤ i) : (lowerEdge b i).Within i := by
  rw [lowerEdge]
  split
  · next h =>
    refine ⟨by positivity, of_decide_eq_true h, hc.lowNext.le.trans ?_⟩
    rw [← pow_succ']
    exact Nat.pow_le_pow_right (by norm_num) (by omega)
  · trivial

theorem upperEdge_within (hc : b.Covers low high) (hi : i < high) : (upperEdge b i).Within i := by
  rw [upperEdge]
  split
  · next h =>
    refine ⟨by positivity, le_trans ?_ hc.highBefore.le, ?_⟩
    · exact Nat.pow_le_pow_right (by norm_num) (by omega)
    · rw [← pow_succ']
      exact of_decide_eq_true h
  · trivial

theorem lowerEdge_freq : (lowerEdge b i).freq i = max (gridFreq i) b.fLo := by
  rw [lowerEdge]
  split
  · next h => exact (max_eq_right ((gridFreq_le_cast i b.fLo).2 (of_decide_eq_true h))).symm
  · next h =>
    have hlt := mt (gridFreq_le_cast i b.fLo).1 (by simpa [gridAtMost] using h)
    exact (max_eq_left (not_le.1 hlt).le).symm

theorem upperEdge_freq : (upperEdge b i).freq i = min (gridFreq (i + 1)) b.fHi := by
  rw [upperEdge]
  split
  · next h => exact (min_eq_right ((cast_le_gridFreq (i + 1) b.fHi).2 (of_decide_eq_true h))).symm
  · next h =>
    have hlt := mt (cast_le_gridFreq (i + 1) b.fHi).1 (by simpa [gridAtLeast] using h)
    exact (min_eq_left (not_le.1 hlt).le).symm

theorem fLo_le_grid (hc : b.Covers low high) (hi : low < i) : (b.fLo : ℝ) ≤ gridFreq i :=
  (cast_le_gridFreq i b.fLo).2 (hc.lowNext.le.trans (Nat.pow_le_pow_right (by norm_num) (by omega)))

theorem grid_le_fHi (hc : b.Covers low high) (hi : i < high) : gridFreq i ≤ b.fHi :=
  (gridFreq_le_cast i b.fHi).2 ((Nat.pow_le_pow_right (by norm_num) (by omega)).trans hc.highBefore.le)

theorem part_order (hc : b.Covers low high) (hl : low ≤ i) (hh : i < high) :
    max (gridFreq i) b.fLo ≤ min (gridFreq (i + 1)) b.fHi :=
  max_le (le_min (gridFreq_lt_iff.2 i.lt_succ_self).le (grid_le_fHi hc hh))
    (le_min (fLo_le_grid hc (by omega)) (by exact_mod_cast hc.edges.le))

/-- The noise part of the model is an enclosure of the noise of its segments (R114). -/
theorem noisePart_holds (p : Nat) (hc : b.Covers low high) (count : Nat) (hl : low ≤ i) (hh : i + count = high) :
    (noisePart p b e i count).Holds p (∑ k ∈ Finset.Ico i high, partNoise b e k) := by
  induction count generalizing i with
  | zero =>
    rw [Finset.Ico_eq_empty (by omega), Finset.sum_empty]
    exact holds_zero p
  | succ count ih =>
    have hpart := segmentIntegral_holds p (e i) (e (i + 1)) (lowerEdge_within hc hl) (upperEdge_within hc (by omega))
      (by rw [lowerEdge_freq, upperEdge_freq]; exact part_order hc hl (by omega))
    rw [lowerEdge_freq, upperEdge_freq] at hpart
    rw [Finset.sum_eq_sum_Ico_succ_bot (by omega)]
    exact hpart.add (ih (by omega) (by omega))

/-- The model's enclosure of the integrated power (R114). -/
theorem integratedPower_holds (p : Nat) (spurs : List Spur) (hc : b.Covers (lowIndex b.fLo) (highIndex b.fHi)) :
    (integratedPower p b e spurs).Holds p (jitterPower b e spurs (lowIndex b.fLo) (highIndex b.fHi)) :=
  (noisePart_holds p hc _ le_rfl (by have := hc.order; omega)).add
    (holds_sum (fun u : Spur => pow10 p u.level) _ (fun u => pow10_holds p u.level) _)

/-! ### The range of the integrated power -/

/-- The density of a segment stays between the least and the greatest E (R112). -/
theorem segmentDensity_range {ea eb : Int} {lo hi f : ℝ} (ha : lo ≤ ea ∧ (ea : ℝ) ≤ hi) (hb : lo ≤ eb ∧ (eb : ℝ) ≤ hi)
    (h1 : gridFreq i ≤ f) (h2 : f ≤ gridFreq (i + 1)) :
    10 ^ (lo / 1000) ≤ segmentDensity i ea eb f ∧ segmentDensity i ea eb f ≤ 10 ^ (hi / 1000) := by
  have hg := gridFreq_pos i
  have hr : 0 < f / gridFreq i := div_pos (hg.trans_le h1) hg
  obtain ⟨t, ht⟩ : ∃ t, t = 10 * logb 10 (f / gridFreq i) := ⟨_, rfl⟩
  have hf : f / gridFreq i = 10 ^ (t / 10) := by
    rw [ht, mul_div_cancel_left₀ _ (by norm_num), rpow_logb (by norm_num) (by norm_num) hr]
  have ht0 : 0 ≤ t := by
    rw [ht]
    exact mul_nonneg (by norm_num) (logb_nonneg (by norm_num) ((one_le_div hg).2 h1))
  have ht1 : t ≤ 1 := by
    have h : f / gridFreq i ≤ 10 ^ ((1 : ℝ) / 10) := by
      rw [← gridFreq_succ_div]
      exact div_le_div_of_nonneg_right h2 hg.le
    rw [hf, rpow_le_rpow_left_iff (by norm_num)] at h
    linarith
  have hd : segmentDensity i ea eb f = 10 ^ (((1 - t) * ea + t * eb) / 1000) := by
    rw [segmentDensity, hf, ← rpow_mul (by norm_num), ← rpow_add (by norm_num)]
    congr 1
    ring
  rw [hd, rpow_le_rpow_left_iff (by norm_num), rpow_le_rpow_left_iff (by norm_num)]
  constructor <;> nlinarith [mul_le_mul_of_nonneg_left ha.1 (sub_nonneg.2 ht1), mul_le_mul_of_nonneg_left hb.1 ht0,
    mul_le_mul_of_nonneg_left ha.2 (sub_nonneg.2 ht1), mul_le_mul_of_nonneg_left hb.2 ht0]

theorem segmentDensity_integrable {ea eb : Int} {u v : ℝ} (hu : 0 < u) (hv : 0 < v) :
    IntervalIntegrable (segmentDensity i ea eb) MeasureTheory.volume u v := by
  refine ContinuousOn.intervalIntegrable fun f hf => ContinuousAt.continuousWithinAt ?_
  have hpos := mem_uIcc_pos hu hv hf
  exact continuousAt_const.mul ((continuousAt_id.div_const _).rpow_const (.inl (div_pos hpos (gridFreq_pos i)).ne'))

/-- The part of a segment lies between its length times the least and the greatest density. -/
theorem partNoise_range (hc : b.Covers low high) (hl : low ≤ i) (hh : i < high)
    (he : ∀ i, low ≤ i → i ≤ high → -20000 ≤ e i ∧ e i ≤ -2000) :
    let length : ℝ := min (gridFreq (i + 1)) b.fHi - max (gridFreq i) b.fLo
    length * 10 ^ (-20 : ℝ) ≤ partNoise b e i ∧ partNoise b e i ≤ length * 10 ^ (-2 : ℝ) := by
  intro length
  have huv := part_order hc hl hh
  have hu : 0 < max (gridFreq i) b.fLo := lt_max_of_lt_left (gridFreq_pos i)
  have hint := segmentDensity_integrable (i := i) (ea := e i) (eb := e (i + 1)) hu (hu.trans_le huv)
  have hcast (k : Nat) (h1 : low ≤ k) (h2 : k ≤ high) : (-20000 : ℝ) ≤ e k ∧ (e k : ℝ) ≤ -2000 :=
    ⟨by exact_mod_cast (he k h1 h2).1, by exact_mod_cast (he k h1 h2).2⟩
  have hrange (f : ℝ) (hf : f ∈ Set.Icc (max (gridFreq i) b.fLo) (min (gridFreq (i + 1)) b.fHi)) :
      (10 : ℝ) ^ (-20 : ℝ) ≤ segmentDensity i (e i) (e (i + 1)) f ∧ segmentDensity i (e i) (e (i + 1)) f ≤ 10 ^ (-2 : ℝ) := by
    have h := segmentDensity_range (hcast i hl hh.le) (hcast (i + 1) (by omega) hh) ((le_max_left _ _).trans hf.1)
      (hf.2.trans (min_le_left _ _))
    norm_num at h ⊢
    exact h
  have hconst (c : ℝ) : ∫ _ in max (gridFreq i) b.fLo..min (gridFreq (i + 1)) b.fHi, c = length * c := by
    rw [intervalIntegral.integral_const, smul_eq_mul]
  rw [← hconst, ← hconst, partNoise]
  exact ⟨intervalIntegral.integral_mono_on huv intervalIntegrable_const hint fun f hf => (hrange f hf).1,
    intervalIntegral.integral_mono_on huv hint intervalIntegrable_const fun f hf => (hrange f hf).2⟩

/-- The parts of a band's segments add to the band. -/
theorem sum_part_lengths (hc : b.Covers low high) :
    ∑ i ∈ Finset.Ico low high, (min (gridFreq (i + 1)) b.fHi - max (gridFreq i) b.fLo) = (b.fHi : ℝ) - b.fLo := by
  have hedge : (b.fLo : ℝ) ≤ b.fHi := by exact_mod_cast hc.edges.le
  have hterm (i : Nat) (hi : i ∈ Finset.Ico low high) : min (gridFreq (i + 1)) b.fHi - max (gridFreq i) b.fLo =
      max (min (gridFreq (i + 1)) b.fHi) b.fLo - max (min (gridFreq i) b.fHi) b.fLo := by
    obtain ⟨hl, hh⟩ := Finset.mem_Ico.1 hi
    rw [max_eq_left (le_min (fLo_le_grid hc (by omega)) hedge), min_eq_left (grid_le_fHi hc hh)]
  have hlow : max (min (gridFreq low) b.fHi) b.fLo = (b.fLo : ℝ) :=
    max_eq_right ((min_le_left _ _).trans ((gridFreq_le_cast low b.fLo).2 hc.lowAtMost))
  have hhigh : max (min (gridFreq high) b.fHi) b.fLo = (b.fHi : ℝ) := by
    rw [min_eq_right ((cast_le_gridFreq high b.fHi).2 hc.highAtLeast), max_eq_left hedge]
  rw [Finset.sum_congr rfl hterm, Finset.sum_Ico_sub (fun i => max (min (gridFreq i) b.fHi) b.fLo) hc.order.le, hlow, hhigh]

theorem noise_range (hc : b.Covers low high) (he : ∀ i, low ≤ i → i ≤ high → -20000 ≤ e i ∧ e i ≤ -2000) :
    ((b.fHi : ℝ) - b.fLo) * 10 ^ (-20 : ℝ) ≤ ∑ i ∈ Finset.Ico low high, partNoise b e i ∧
      ∑ i ∈ Finset.Ico low high, partNoise b e i ≤ ((b.fHi : ℝ) - b.fLo) * 10 ^ (-2 : ℝ) := by
  have hpart (i : Nat) (hi : i ∈ Finset.Ico low high) :=
    partNoise_range hc (Finset.mem_Ico.1 hi).1 (Finset.mem_Ico.1 hi).2 he
  rw [← sum_part_lengths hc, Finset.sum_mul, Finset.sum_mul]
  exact ⟨Finset.sum_le_sum fun i hi => (hpart i hi).1, Finset.sum_le_sum fun i hi => (hpart i hi).2⟩

theorem spurPower_range {spurs : List Spur} (hn : spurs.length ≤ 1000) (hs : ∀ u ∈ spurs, u.level ≤ 10000) :
    0 ≤ spurPower b spurs ∧ spurPower b spurs ≤ 1000 * 10 ^ (10 : ℝ) := by
  have hlevel (y : ℝ) (hy : y ∈ (coveredSpurs b spurs).map fun u => (10 : ℝ) ^ ((u.level : ℝ) / 1000)) : y ≤ 10 ^ (10 : ℝ) := by
    obtain ⟨u, hu, rfl⟩ := List.mem_map.1 hy
    have hle : (u.level : ℝ) ≤ 10000 := by exact_mod_cast hs u (List.mem_of_mem_filter hu)
    exact rpow_le_rpow_of_exponent_le (by norm_num) (by linarith)
  have hpos (y : ℝ) (hy : y ∈ (coveredSpurs b spurs).map fun u => (10 : ℝ) ^ ((u.level : ℝ) / 1000)) : 0 ≤ y := by
    obtain ⟨u, -, rfl⟩ := List.mem_map.1 hy
    positivity
  refine ⟨List.sum_nonneg hpos, (List.sum_le_card_nsmul _ _ hlevel).trans ?_⟩
  rw [nsmul_eq_mul, List.length_map]
  have hlen : (((coveredSpurs b spurs).length : Nat) : ℝ) ≤ 1000 := by
    exact_mod_cast (List.length_filter_le ..).trans hn
  exact mul_le_mul_of_nonneg_right hlen (by positivity)

/-- The logarithm of the integrated power is far within the range of the search for its rounding. -/
theorem jitterPower_range {spurs : List Spur} (hc : b.Covers low high) (hmax : b.fHi ≤ 10000000)
    (he : ∀ i, low ≤ i → i ≤ high → -20000 ≤ e i ∧ e i ≤ -2000) (hn : spurs.length ≤ 1000)
    (hs : ∀ u ∈ spurs, u.level ≤ 10000) :
    0 < jitterPower b e spurs low high ∧ -20 ≤ logb 10 (jitterPower b e spurs low high) ∧
      logb 10 (jitterPower b e spurs low high) ≤ 14 := by
  obtain ⟨h1, h2⟩ := noise_range hc he
  obtain ⟨h3, h4⟩ := spurPower_range (b := b) hn hs
  have hedge : (1 : ℝ) ≤ (b.fHi : ℝ) - b.fLo := by
    have : (b.fLo : ℝ) + 1 ≤ b.fHi := by exact_mod_cast hc.edges
    linarith
  have htop : (b.fHi : ℝ) - b.fLo ≤ 10000000 := by
    have : (b.fHi : ℝ) ≤ 10000000 := by exact_mod_cast hmax
    linarith [Nat.cast_nonneg (α := ℝ) b.fLo]
  have hsmall : (0 : ℝ) < 10 ^ (-20 : ℝ) := by positivity
  have hlow : (10 : ℝ) ^ (-20 : ℝ) ≤ jitterPower b e spurs low high := by
    rw [jitterPower]
    nlinarith
  have hhigh : jitterPower b e spurs low high ≤ 10 ^ (14 : ℝ) := by
    have h10 : (10 : ℝ) ^ (10 : ℝ) = 10 ^ 10 := by norm_num
    have h14 : (10 : ℝ) ^ (14 : ℝ) = 10 ^ 14 := by norm_num
    have hm2 : (10 : ℝ) ^ (-2 : ℝ) = 1 / 100 := by norm_num
    rw [jitterPower, h14]
    rw [h10] at h4
    rw [hm2] at h2
    linarith
  have hpos := hsmall.trans_le hlow
  exact ⟨hpos, (le_logb_iff_rpow_le (by norm_num) hpos).2 hlow, (logb_le_iff_le_rpow (by norm_num) hpos).2 hhigh⟩

end

end Sys2Proof.Machine

/-! PROOFS. Jitter entries: the two figures where the digits settle, and O47 (R111 to R119, R126). -/

namespace Sys2Proof.Machine

open Real

/-! ### Roundings of enclosed values -/

/-- Where the digits settle, both ends round alike at some number of digits from the first on. -/
theorem settleRounding_some {α : Type} [DecidableEq α] {ends : Nat → α × α} {v : α} {p fuel : Nat}
    (h : settleRounding ends p fuel = some v) : ∃ q, p ≤ q ∧ ends q = (v, v) := by
  induction fuel generalizing p with
  | zero => cases h
  | succ fuel ih =>
    rw [settleRounding] at h
    split at h
    · next heq =>
      cases h
      exact ⟨p, le_rfl, Prod.ext rfl heq.symm⟩
    · obtain ⟨q, hq, hv⟩ := ih h
      exact ⟨q, by omega, hv⟩

theorem bisect_eq_or (p : Int → Bool) (lo : Int) (bits : Nat) : bisect p lo bits = lo ∨ p (bisect p lo bits) = true := by
  induction bits generalizing lo with
  | zero => exact .inl rfl
  | succ bits ih =>
    rw [bisect]
    split
    · next h =>
      rcases ih (lo + 2 ^ bits) with heq | hp
      · exact .inr (heq.symm ▸ h)
      · exact .inr hp
    · exact ih lo

theorem logAtLeast_zero {c den : Nat} (hc : 0 < c) (hd : 0 < den) (h : Int) : logAtLeast c 0 den h = false := by
  refine decide_eq_false ?_
  rw [zero_pow (by omega), zero_mul, not_le]
  positivity

/-- A rounded logarithm above the least of the search is at most half above the logarithm. -/
theorem roundLog_lower {c num den : Nat} (hc : 0 < c) (hd : 0 < den) : roundLog c num den = -32768 ∨
    (0 < num ∧ 2 * (roundLog c num den : ℝ) - 1 ≤ 2 * c * logb 10 (num / den)) := by
  rcases bisect_eq_or (fun k => logAtLeast c num den (2 * k - 1)) (-32768) 16 with h | h
  · exact .inl h
  · have hn : 0 < num := by
      rcases Nat.eq_zero_or_pos num with rfl | hn
      · exact absurd (logAtLeast_zero hc hd _) (by rw [h]; nofun)
      · exact hn
    refine .inr ⟨hn, ?_⟩
    have hk := (logAtLeast_iff hn hd _).1 h
    push_cast at hk
    exact hk

/-- A rounded logarithm below the greatest of the search is less than half below the logarithm. -/
theorem roundLog_upper {c num den : Nat} (hn : 0 < num) (hd : 0 < den) : roundLog c num den = 32767 ∨
    2 * c * logb 10 (num / den) < 2 * (roundLog c num den : ℝ) + 1 := by
  have hp (k : Int) : (fun k => logAtLeast c num den (2 * k - 1)) k = true ↔ 2 * (k : ℝ) - 1 ≤ 2 * c * logb 10 (num / den) := by
    rw [logAtLeast_iff hn hd]
    push_cast
    rfl
  obtain ⟨h1, h2, -, h4⟩ := bisect_spec (p := fun k => logAtLeast c num den (2 * k - 1)) (fun a b hab hb => by
    rw [hp] at hb ⊢
    have : (a : ℝ) ≤ b := by exact_mod_cast hab
    linarith) (-32768) 16
  by_cases hmax : roundLog c num den = 32767
  · exact .inl hmax
  · rw [roundLog] at hmax ⊢
    have hno := h4 _ (Int.lt_succ _) (by omega)
    have hlt := mt (hp _).2 (by dsimp only; rw [hno]; nofun)
    push_cast at hlt
    exact .inr (by linarith)

/-- An integer to which both ends of an enclosure round is the nearest to 1000 × log10 of the enclosed value. -/
theorem roundLog_nearest {p : Nat} {x : Enclosure} {a : ℝ} {k : Int} (hx : x.Holds p a) (ha : 0 < a)
    (hlow : -32 ≤ logb 10 a) (hhigh : logb 10 a ≤ 32) (hlo : roundLog 1000 x.lo (10 ^ p) = k)
    (hhi : roundLog 1000 x.hi (10 ^ p) = k) : |(k : ℝ) - 1000 * logb 10 a| ≤ 1 / 2 := by
  have hpos : (0 : ℝ) < 10 ^ p := by positivity
  have hcast : (((10 ^ p : Nat) : Nat) : ℝ) = 10 ^ p := by push_cast; rfl
  have hhi0 : (0 : ℝ) < x.hi := (mul_pos ha hpos).trans_le hx.2
  have hupper : logb 10 a ≤ logb 10 (x.hi / (10 ^ p : Nat)) := by
    rw [hcast, logb_le_logb (by norm_num) ha (by positivity), le_div_iff₀ hpos]
    exact hx.2
  refine abs_le.2 ⟨?_, ?_⟩
  · rcases roundLog_upper (c := 1000) (num := x.hi) (den := 10 ^ p) (by exact_mod_cast hhi0) (by positivity) with h | h
    · rw [hhi] at h
      rw [h]
      push_cast
      linarith
    · rw [hhi] at h
      push_cast at h hupper
      linarith
  · rcases roundLog_lower (c := 1000) (num := x.lo) (den := 10 ^ p) (by norm_num) (by positivity) with h | ⟨hn, h⟩
    · rw [hlo] at h
      rw [h]
      push_cast
      linarith
    · have hlo0 : (0 : ℝ) < x.lo := by exact_mod_cast hn
      have hlower : logb 10 (x.lo / (10 ^ p : Nat)) ≤ logb 10 a := by
        rw [hcast, logb_le_logb (by norm_num) (by positivity) ha, div_le_iff₀ hpos]
        exact hx.1
      rw [hlo] at h
      push_cast at h hlower
      linarith

/-! ### The exact jitter and the allowed values -/

/-- The exact jitter of an integrated power, in fs (R116). -/
noncomputable def exactJitter (power : ℝ) (f0 : Nat) : ℝ := √(2 * power) / (2 * π * f0) * 10 ^ 15

section
variable {b : JitterBand} {e : Nat → Int} {spurs : List Spur} {f0 p : Nat}

theorem exactJitter_nonneg (power : ℝ) (f0 : Nat) : 0 ≤ exactJitter power f0 := by
  rw [exactJitter]
  positivity

/-- The square of the exact jitter at p digits, over the power and π at p digits. -/
theorem exactJitter_sq {power : ℝ} (h : 0 ≤ power) (p f0 : Nat) :
    (exactJitter power f0 * 10 ^ p) ^ 2 = (power * 10 ^ p) * 10 ^ (30 + 3 * p) / (2 * (π * 10 ^ p) ^ 2 * f0 ^ 2) := by
  rw [exactJitter, mul_pow, mul_pow, div_pow, sq_sqrt (by linarith), pow_add, pow_mul' 10 3 p]
  rcases Nat.eq_zero_or_pos f0 with rfl | hf
  · simp
  · have hf' : (f0 : ℝ) ≠ 0 := by exact_mod_cast hf.ne'
    field_simp

/-- The root of a quotient, rounded down, from above and from below. -/
theorem sqrt_div_le {m n : Nat} {y : ℝ} (hy : 0 ≤ y) (h : (m : ℝ) / n ≤ y ^ 2) : ((Nat.sqrt (m / n) : Nat) : ℝ) ≤ y := by
  have hsq : ((Nat.sqrt (m / n) : Nat) : ℝ) ^ 2 ≤ ((m / n : Nat) : ℝ) := by exact_mod_cast Nat.sqrt_le' (m / n)
  exact le_of_sq_le_sq ((hsq.trans Nat.cast_div_le).trans h) hy

theorem le_sqrt_div {m n : Nat} {y : ℝ} (hn : 0 < n) (h : y ^ 2 ≤ (m : ℝ) / n) : y ≤ ((Nat.sqrt (m / n) + 1 : Nat) : ℝ) := by
  have hsq : ((m / n : Nat) : ℝ) + 1 ≤ ((Nat.sqrt (m / n) + 1 : Nat) : ℝ) ^ 2 := by exact_mod_cast Nat.succ_le_succ_sqrt' (m / n)
  have hdiv : (m : ℝ) / n < ((m / n : Nat) : ℝ) + 1 := by
    rw [div_lt_iff₀ (by exact_mod_cast hn)]
    exact_mod_cast (Nat.lt_mul_div_succ m hn).trans_eq (Nat.mul_comm _ _)
  exact le_of_sq_le_sq ((h.trans hdiv.le).trans hsq) (Nat.cast_nonneg _)

/-- The model's enclosure of the exact jitter (R116). -/
theorem jitterEnclosure_holds (hp : 4 ≤ p) (hf : 0 < f0) {power : ℝ} (hpow : (integratedPower p b e spurs).Holds p power) :
    (jitterEnclosure b e spurs f0 p).Holds p (exactJitter power f0) := by
  have hpi := piEnclosure_holds p
  have hpilo : (0 : ℝ) < (piEnclosure p).lo := by exact_mod_cast piEnclosure_lo_pos hp
  have hf' : (0 : ℝ) < f0 := by exact_mod_cast hf
  have hsq := exactJitter_sq hpow.nonneg p f0
  have hx : 0 ≤ exactJitter power f0 * 10 ^ p := mul_nonneg (exactJitter_nonneg power f0) (by positivity)
  refine ⟨sqrt_div_le hx ?_, le_sqrt_div (by have := piEnclosure_lo_pos hp; positivity) ?_⟩
  · rw [hsq]
    push_cast
    have h1 := hpow.1
    have h2 := hpi.2
    have hpos := pi_pos
    have hpow0 := hpow.nonneg
    gcongr
  · rw [hsq]
    push_cast
    have h1 := hpow.2
    have h2 := hpi.1
    gcongr

/-- Where both ends of an enclosure allow the same, the value is the nearest to what is enclosed, and the difference at most
the larger of 1 fs and 0.05 % of it (R116). -/
theorem jitterAllowed_spec {x : Enclosure} {y : ℝ} {k d : Nat} (hx : x.Holds p y) (hlo : jitterAllowed p x.lo = (k, d))
    (hhi : jitterAllowed p x.hi = (k, d)) : |(k : ℝ) - y| ≤ 1 / 2 ∧ (d : ℝ) ≤ max 1 (y / 2000) := by
  have hpos : 0 < 10 ^ p := by positivity
  have hposr : (0 : ℝ) < 10 ^ p := by positivity
  obtain ⟨hk, hd⟩ := Prod.ext_iff.1 hlo
  have hk' := (Prod.ext_iff.1 hhi).1
  simp only [jitterAllowed] at hk hd hk'
  have h1 : (k : ℝ) * (2 * 10 ^ p) ≤ 2 * x.lo + 10 ^ p := by exact_mod_cast (Nat.le_div_iff_mul_le (by positivity)).1 hk.ge
  have h2 : (2 * x.hi + 10 ^ p : ℝ) < (k + 1) * (2 * 10 ^ p) := by
    exact_mod_cast (Nat.div_lt_iff_lt_mul (by positivity)).1 (Nat.lt_succ_of_le hk'.le)
  obtain ⟨hx1, hx2⟩ := hx
  refine ⟨abs_le.2 ⟨?_, ?_⟩, ?_⟩
  · have : (y - k - 1 / 2) * 10 ^ p ≤ 0 := by linarith
    linarith [nonpos_of_mul_nonpos_left this hposr]
  · have : (k - y - 1 / 2) * 10 ^ p ≤ 0 := by linarith
    linarith [nonpos_of_mul_nonpos_left this hposr]
  · rw [← hd, Nat.cast_max, Nat.cast_one]
    refine max_le_max_left 1 (Nat.cast_div_le.trans ?_)
    push_cast
    rw [div_le_div_iff₀ (by positivity) (by norm_num)]
    linarith

/-- The range of the allowed values where the digits settle. The definition is unfolded as a function, for a comparison of its
body with its value at given operands would start the search for the digits. -/
theorem jitterRange_settled {k d : Nat}
    (h : settleRounding (jitterEnds b e spurs f0) firstDigits doublings = some (k, d)) :
    jitterRange b e spurs f0 = (k - d, k + d) := by
  obtain ⟨range, hrange⟩ : ∃ range, range = jitterRange := ⟨_, rfl⟩
  rw [← hrange]
  delta jitterRange at hrange
  subst hrange
  beta_reduce
  rw [h]

/-- The computed jitter lies within the difference of the value, where the digits settle. -/
theorem computedJitter_within {k d : Nat}
    (h : settleRounding (jitterEnds b e spurs f0) firstDigits doublings = some (k, d)) :
    |(computedJitter b e spurs f0 : ℝ) - k| ≤ d := by
  have hrange := jitterRange_settled h
  rw [computedJitter, hrange]
  dsimp only
  generalize Config.jitterPick _ _ _ _ _ = q
  have hmod := Nat.mod_lt q (Nat.succ_pos (k + d - (k - d)))
  generalize q % (k + d - (k - d) + 1) = m at *
  have h1 : ((k - d + m : Nat) : ℝ) ≤ k + d := by exact_mod_cast (by omega : k - d + m ≤ k + d)
  have h2 : (k : ℝ) ≤ ((k - d + m : Nat) : ℝ) + d := by exact_mod_cast (by omega : k ≤ k - d + m + d)
  exact abs_le.2 ⟨by linarith, by linarith⟩

/-! ### O47 -/

/-- The integrated noise, where its digits settle (R115). -/
theorem integratedNoise_nearest {power : ℝ} (hpow : ∀ q, (integratedPower q b e spurs).Holds q power) (h0 : 0 < power)
    (hlow : -32 ≤ logb 10 power) (hhigh : logb 10 power ≤ 32)
    (h : (settleRounding (noiseEnds b e spurs) firstDigits doublings).isSome = true) :
    |(integratedNoise b e spurs : ℝ) - 1000 * logb 10 power| ≤ 1 / 2 := by
  obtain ⟨k, hk⟩ := Option.isSome_iff_exists.1 h
  obtain ⟨q, -, hq⟩ := settleRounding_some hk
  obtain ⟨hlo, hhi⟩ := Prod.ext_iff.1 hq
  rw [integratedNoise, hk, Option.getD_some]
  exact roundLog_nearest (hpow q) h0 hlow hhigh hlo hhi

/-- The computed jitter, where its digits settle (R116). -/
theorem computedJitter_near {power : ℝ} (hf : 0 < f0) (hpow : ∀ q, (integratedPower q b e spurs).Holds q power)
    (h : (settleRounding (jitterEnds b e spurs f0) firstDigits doublings).isSome = true) :
    ∃ k : Nat, |(k : ℝ) - exactJitter power f0| ≤ 1 / 2 ∧
      |(computedJitter b e spurs f0 : ℝ) - k| ≤ max 1 (exactJitter power f0 / 2000) := by
  obtain ⟨⟨k, d⟩, hk⟩ := Option.isSome_iff_exists.1 h
  obtain ⟨q, hq60, hq⟩ := settleRounding_some hk
  obtain ⟨hlo, hhi⟩ := Prod.ext_iff.1 hq
  have hq4 : 4 ≤ q := le_trans (by decide) hq60
  obtain ⟨hnear, hd⟩ := jitterAllowed_spec (jitterEnclosure_holds hq4 hf (hpow q)) hlo hhi
  exact ⟨k, hnear, (computedJitter_within hk).trans hd⟩

end

/-- The power of an entry depends on the ends of its segments alone. -/
theorem jitterPower_congr {b : JitterBand} {e g : Nat → Int} {spurs : List Spur} {low high : Nat}
    (h : ∀ i, low ≤ i → i ≤ high → e i = g i) : jitterPower b e spurs low high = jitterPower b g spurs low high := by
  rw [jitterPower, jitterPower]
  congr 1
  refine Finset.sum_congr rfl fun i hi => ?_
  obtain ⟨h1, h2⟩ := Finset.mem_Ico.1 hi
  rw [partNoise, partNoise, h i h1 h2.le, h (i + 1) (by omega) h2]

/-- An entry with a point used that has no data (R118). -/
theorem jitterEntry_noData {x : Spectrum} {b : JitterBand} (f0 : Nat) {i : Nat} (hi : i ∈ pointsUsed b) (h : x.point i = .noData) :
    jitterEntry x f0 b = ⟨b, none, none, false, false, .inconclusive⟩ := by
  have hany : ((pointsUsed b).map x.point).any Point.isNoData = true :=
    List.any_eq_true.2 ⟨_, List.mem_map.2 ⟨i, hi, h⟩, rfl⟩
  rw [jitterEntry]
  exact if_pos hany

/-- An entry whose points used all have data (R115 to R117, R126). -/
theorem jitterEntry_data {x : Spectrum} {b : JitterBand} (f0 : Nat) (h : ∀ i ∈ pointsUsed b, (x.point i).isNoData = false) :
    jitterEntry x f0 b =
      let e := fun i => (x.point i).effective
      let v := computedJitter b e x.spurs f0
      let bound := ((pointsUsed b).map x.point).any Point.floorLimited
      ⟨b, some (min v jitterMax), some (integratedNoise b e x.spurs), bound, decide (jitterMax < v),
        judgeJitter b.limit (some (min v jitterMax)) bound⟩ := by
  have hany : ¬ ((pointsUsed b).map x.point).any Point.isNoData = true := by
    rw [List.any_eq_true]
    rintro ⟨q, hq, hd⟩
    obtain ⟨i, hi, rfl⟩ := List.mem_map.1 hq
    rw [h i hi] at hd
    cases hd
  rw [jitterEntry]
  exact if_neg hany

/-- Settles O47: the two figures by the enclosures of the integrated power and of the exact jitter. -/
theorem jitterEntriesByRule : Obligations.JitterEntriesByRule := by
  unfold Obligations.JitterEntriesByRule
  intro x f0 b hf h10 hlt hmax r
  have hc := covers_indexes h10 hlt hmax
  refine ⟨lowIndex b.fLo, highIndex b.fHi, hc.order, hc.last, hc.lowAtMost, hc.lowNext, hc.highAtLeast, hc.highBefore, ?_, ?_, ?_⟩
  · show (jitterEntry x f0 b).band = b
    rw [jitterEntry]
    dsimp only
    split <;> rfl
  · rintro ⟨i, h1, h2, hi⟩
    have hr : r = _ := jitterEntry_noData f0 ((mem_pointsUsed hc.last).2 ⟨h1, h2⟩) hi
    rw [hr]
    exact ⟨rfl, rfl, rfl, rfl, rfl⟩
  · intro e fl he hn hs grid density part covered power exact used
    have hused (i : Nat) (h1 : lowIndex b.fLo ≤ i) (h2 : i ≤ highIndex b.fHi) : used i = e i := by
      obtain ⟨-, -, m, f, sp, cl, hp⟩ := he i h1 h2
      show (x.point i).effective = e i
      rw [hp]
      rfl
    have hpower : jitterPower b used x.spurs (lowIndex b.fLo) (highIndex b.fHi) = power := jitterPower_congr hused
    have hpow (q : Nat) : (integratedPower q b used x.spurs).Holds q power := hpower ▸ integratedPower_holds q x.spurs hc
    obtain ⟨h0, hlow, hhigh⟩ : 0 < power ∧ -20 ≤ logb 10 power ∧ logb 10 power ≤ 14 :=
      jitterPower_range hc hmax (fun i h1 h2 => ⟨(he i h1 h2).1, (he i h1 h2).2.1⟩) hn hs
    have hr : r = _ := jitterEntry_data f0 fun i hi => by
      obtain ⟨h1, h2⟩ := (mem_pointsUsed hc.last).1 hi
      obtain ⟨-, -, m, f, sp, cl, hp⟩ := he i h1 h2
      rw [hp]
      rfl
    have hbound : ((pointsUsed b).map x.point).any Point.floorLimited = true ↔
        ∃ i, lowIndex b.fLo ≤ i ∧ i ≤ highIndex b.fHi ∧ fl i = true := by
      have hfl (i : Nat) (hi : i ∈ pointsUsed b) : (x.point i).floorLimited = fl i := by
        obtain ⟨h1, h2⟩ := (mem_pointsUsed hc.last).1 hi
        obtain ⟨-, -, m, f, sp, cl, hp⟩ := he i h1 h2
        rw [hp]
        rfl
      rw [List.any_map, List.any_eq_true]
      constructor
      · rintro ⟨i, hi, h⟩
        obtain ⟨h1, h2⟩ := (mem_pointsUsed hc.last).1 hi
        exact ⟨i, h1, h2, (hfl i hi).symm.trans h⟩
      · rintro ⟨i, h1, h2, h⟩
        have hi := (mem_pointsUsed hc.last).2 ⟨h1, h2⟩
        exact ⟨i, hi, (hfl i hi).trans h⟩
    rw [hr]
    refine ⟨_, computedJitter b used x.spurs f0, _, rfl, rfl, rfl, decide_eq_true_iff, hbound, rfl, fun h => ?_, fun h => ?_⟩
    · exact integratedNoise_nearest hpow h0 (by linarith) (by linarith) h
    · exact computedJitter_near hf hpow h

end Sys2Proof.Machine
